-- ==== Sys2Proof/Word.lean ====
section
/-! DEFINITION. The word types of the SW-40 and their plainest arithmetic. -/

namespace Sys2Proof

/-- A byte of a frame (01, section 1.2). -/
abbrev Byte := BitVec 8

/-- A value of the 32-bit millisecond counter, which wraps (02 R27). -/
abbrev Time := BitVec 32

/-- A set of nozzle groups N0..N11: member n is bit n. -/
abbrev GroupSet := BitVec 12

/-- A set of chain positions N0..N11, LIFT_L, LIFT_R, LIFT_M, PRIME in chain order, or of the channels X0..X15. -/
abbrev Mask := BitVec 16

/-- A zone code or zone mask, 24 bits (06 R88). -/
abbrev ZoneCode := BitVec 24

end Sys2Proof
end

