-- ==== Sys2Proof/Syntax.lean ====
section
/-! DEFINITION. The commands of the SW-40: one constructor per row of spec/opcode_table.json, with the operands
the row's rule gives it. A request carries the port it came in on, its tag and its payload fields (01, R12). -/

namespace Sys2Proof

/-- The three station ports (00_scope.md, section 2). -/
inductive Port | s0 | s1 | s2
  deriving DecidableEq, Repr

/-- The two side arms. -/
inductive Side | left | right
  deriving DecidableEq, Repr

/-- The consumers of the budget table (07), in row order. -/
inductive Consumer | travel | main | armL | armR | water
  deriving DecidableEq, Repr

/-- The rate the rate strap selects for all three ports (01 R1). -/
inductive LinkRate | kbit250 | mbit1
  deriving DecidableEq, Repr

/-- A port's two strap lines; an open line reads as 1, here `true` (02, section 2.1). -/
structure StrapPair where
  a : Bool
  b : Bool
  deriving DecidableEq, Repr

/-- The six authority straps. -/
structure Straps where
  s0 : StrapPair
  s1 : StrapPair
  s2 : StrapPair
  deriving DecidableEq, Repr

/-- The commands. -/
inductive Instr
  /-- Power is applied (02 R23, R26), with the levels of the strap lines and of the ESTOP line. -/
  | powerOn (straps : Straps) (rate : LinkRate) (estopActive : Bool)
  /-- In HUNTING the line has been idle for 2 character times (01 R2). -/
  | receiverReady (port : Port)
  /-- An idle gap ends the frame being received (01 R2, R3). -/
  | frameEnd (port : Port)
  /-- The 3-character gap after a sent frame ends (01 R14). -/
  | transmitterFrameEnd (port : Port)
  /-- The last character of a notice frame is sent (01 R16). -/
  | noticeRecordSent (port : Port)
  | claim (port : Port) (tag domain : Byte)
  | release (port : Port) (tag domain : Byte)
  | travel (port : Port) (tag : Byte) (speed : BitVec 16)
  | modeHalt (port : Port) (tag : Byte)
  | modeTransport (port : Port) (tag : Byte)
  | modeSweep (port : Port) (tag : Byte)
  | modeService (port : Port) (tag : Byte)
  | start (port : Port) (tag : Byte)
  | restart (port : Port) (tag : Byte)
  | pin (port : Port) (tag row : Byte)
  | unpin (port : Port) (tag : Byte)
  | zoneAhead (port : Port) (tag : Byte) (code : ZoneCode) (distance : BitVec 16)
  | reserve (port : Port) (tag : Byte) (points : BitVec 16)
  | arm (port : Port) (tag side command : Byte)
  | broom (port : Port) (tag command : Byte)
  | water (port : Port) (tag enable : Byte) (exclusion : BitVec 16)
  | holdSet (port : Port) (tag lease : Byte)
  | releaseSet (port : Port) (tag : Byte)
  | clearLatch (port : Port) (tag : Byte) (channels : Mask)
  | clearFailed (port : Port) (tag : Byte) (positions : Mask)
  | output (port : Port) (tag target : Byte) (value : BitVec 16)
  | read (port : Port) (tag table first count : Byte)
  | subscribe (port : Port) (tag classes : Byte)
  | lockSoft (port : Port) (tag : Byte)
  | lockHard (port : Port) (tag : Byte)
  | unlock (port : Port) (tag : Byte)
  | writeLimits (port : Port) (tag index : Byte) (record : List Byte)
  | writeRoleMap (port : Port) (tag index : Byte) (record : List Byte)
  | writeScanList (port : Port) (tag index : Byte) (record : List Byte)
  | writeScanControl (port : Port) (tag index : Byte) (record : List Byte)
  /-- A WRITE of SCAN_CONTROL whose action field is SINGLE (03 R58), with the two settings it carries. -/
  | single (port : Port) (tag period : Byte) (staleLimit : BitVec 16)
  | writeWindows (port : Port) (tag index : Byte) (record : List Byte)
  | writeAssignments (port : Port) (tag index : Byte) (record : List Byte)
  | writePulse (port : Port) (tag index : Byte) (record : List Byte)
  | writeProfiles (port : Port) (tag index : Byte) (record : List Byte)
  | writeZones (port : Port) (tag index : Byte) (record : List Byte)
  | writeZoneMask (port : Port) (tag index : Byte) (record : List Byte)
  | writeBudget (port : Port) (tag index : Byte) (record : List Byte)
  | writeCoefficients (port : Port) (tag index : Byte) (record : List Byte)
  | writeTravel (port : Port) (tag index : Byte) (record : List Byte)
  | writeDriveMap (port : Port) (tag index : Byte) (record : List Byte)
  | writeImplements (port : Port) (tag index : Byte) (record : List Byte)
  | writeWater (port : Port) (tag index : Byte) (record : List Byte)
  | writeAssociation (port : Port) (tag index : Byte) (record : List Byte)
  /-- Any WRITE, as its payload bytes: table identifier, index, record (01 R20). -/
  | write (port : Port) (tag : Byte) (payload : List Byte)
  | estopAssertion
  | estopRelease
  /-- A conversion completes with its raw result, 0..4095 (03 R50). -/
  | conversionComplete (raw : BitVec 12)
  | scanPeriodExpiry
  | holdLeaseExpiry
  | staleTimerExpiry
  /-- A rising edge of MOTOR_A, with the level of MOTOR_B (05 R75). -/
  | motorPulse (motorBHigh : Bool)
  | groundPulse
  | speedWindowEnd
  | lossTimerExpiry
  | reserveLeaseExpiry
  | holdExpiry (row : Consumer)
  | travelLeaseExpiry
  | rampStep
  | liftWaitExpiry
  | regulationStep
  | swingTimerExpiry (side : Side)
  | retryWaitExpiry (side : Side)
  | lowerTimeExpiry (side : Side)
  | yieldTimeExpiry (side : Side)
  | liftTimeExpiry (side : Side)
  | mainBroomLowerExpiry
  | mainBroomLiftExpiry
  | primeTimerExpiry
  | refreshTimerExpiry
  /-- A refresh completes, with the 16 echo bits and the 16 fault bits taken back on CHAIN_RET (10 R171). -/
  | refreshCompletion (echo fault : Mask)
  /-- One character on a port's receive line: its eight data bits, its parity bit, and whether its stop bit is
  found at the idle level (01 R1, R2). -/
  | startBit (port : Port) (data : Byte) (parityBit stopIdle : Bool)
  | estopLineInactive
  | timeCounterAdvance
  deriving DecidableEq, Repr

end Sys2Proof
end

