-- ==== Sys2Proof/WellFormed.lean ====
section
/-! DEFINITION. Which commands can come in on a link: a frame carries at most 32 payload bytes (01, section 1.2), so
the record of a WRITE has at most 30 bytes and a whole WRITE payload at most 32. Every other operand is held to its
width by its type; a value that the rules refuse is a command all the same, answered with a result code. -/

namespace Sys2Proof

/-- The greatest payload length of a frame (01, section 1.2). -/
def maxPayload : Nat := 32

/-- The record of a WRITE fits in a frame beside its table identifier and index (01 R20). -/
def recordFits (record : List Byte) : Bool := record.length + 2 ≤ maxPayload

/-- A command that a link can carry. -/
def Instr.wellFormed : Instr → Bool
  | .writeLimits _ _ _ r | .writeRoleMap _ _ _ r | .writeScanList _ _ _ r | .writeScanControl _ _ _ r
  | .writeWindows _ _ _ r | .writeAssignments _ _ _ r | .writePulse _ _ _ r | .writeProfiles _ _ _ r
  | .writeZones _ _ _ r | .writeZoneMask _ _ _ r | .writeBudget _ _ _ r | .writeCoefficients _ _ _ r
  | .writeTravel _ _ _ r | .writeDriveMap _ _ _ r | .writeImplements _ _ _ r | .writeWater _ _ _ r
  | .writeAssociation _ _ _ r => recordFits r
  | .write _ _ payload => payload.length ≤ maxPayload
  | .powerOn .. | .receiverReady .. | .frameEnd .. | .transmitterFrameEnd .. | .noticeRecordSent ..
  | .claim .. | .release .. | .travel .. | .modeHalt .. | .modeTransport .. | .modeSweep .. | .modeService ..
  | .start .. | .restart .. | .pin .. | .unpin .. | .zoneAhead .. | .reserve .. | .arm .. | .broom .. | .water ..
  | .holdSet .. | .releaseSet .. | .clearLatch .. | .clearFailed .. | .output .. | .read .. | .subscribe ..
  | .lockSoft .. | .lockHard .. | .unlock .. | .single .. | .estopAssertion | .estopRelease
  | .conversionComplete .. | .scanPeriodExpiry | .holdLeaseExpiry | .staleTimerExpiry | .motorPulse ..
  | .groundPulse | .speedWindowEnd | .lossTimerExpiry | .reserveLeaseExpiry | .holdExpiry ..
  | .travelLeaseExpiry | .rampStep | .liftWaitExpiry | .regulationStep | .swingTimerExpiry ..
  | .retryWaitExpiry .. | .lowerTimeExpiry .. | .yieldTimeExpiry .. | .liftTimeExpiry ..
  | .mainBroomLowerExpiry | .mainBroomLiftExpiry | .primeTimerExpiry | .refreshTimerExpiry
  | .refreshCompletion .. | .startBit .. | .estopLineInactive | .timeCounterAdvance => true

end Sys2Proof
end

