-- ==== Sys2Proof/Decode.lean ====
section
/-! DEFINITION. Decoding of table words. No row of spec/opcode_table.json has bits (every "fields" is empty and no
row has "fixed"), so no word spells a command. -/

namespace Sys2Proof

/-- The command that a word of `nbits` bits spells by the opcode table's bits: none, since no row gives bits. -/
def decodeTableWord (_nbits _w : Nat) : Option Instr := none

end Sys2Proof
end

