-- ==== Sys2Proof/Config.lean ====
section
/-! DEFINITION. What an installation fixes, and the model's own bounds. The spec leaves no value undefined, so
no free value stands here. -/

namespace Sys2Proof.Config

/-- The straps of `State.reset`: the typical installation of 00_scope.md section 2
(S0 OPERATOR, S1 ENGINE, S2 ROUTE). DESIGN CHOICE, log 6. -/
def resetStraps : Straps :=
  ⟨⟨false, false⟩, ⟨true, false⟩, ⟨false, true⟩⟩

/-- The rate strap of `State.reset`. DESIGN CHOICE, log 6. -/
def resetRate : LinkRate := .kbit250

/-- The level of the ESTOP line at `State.reset`: inactive. DESIGN CHOICE, log 6. -/
def resetEstopActive : Bool := false

/-- How many offers between blocks one command delivers at most; what is left over stays in `State.offers`
and is delivered first by the next command. DESIGN CHOICE, log 5. -/
def offerBound : Nat := 1000

end Sys2Proof.Config
end

