-- ==== Sys2Proof/Machine/State.lean ====
section
/-! DEFINITION. The state of the SW-40: one structure per block, holding every record the chapters give it; the offers
that blocks make to one another; and the state after power-on, which is `State.reset` for the straps of log 6.
State is plain data. A field that a rule calls a copy is the block's own copy of what another block offered. -/

namespace Sys2Proof.Machine

/-! ### Names shared by several blocks -/

/-- Authority classes, in the order of 01 R21. -/
inductive AuthorityClass | operator | route | engine | service
  deriving DecidableEq, Repr

/-- Port states, in the order of 01 R21. -/
inductive PortState | healthy | degraded | cutOff
  deriving DecidableEq, Repr

/-- Machine modes, in the order of the MACHINE record (02, section 2.2). -/
inductive Mode | halted | transport | sweep | stowing | service
  deriving DecidableEq, Repr

/-- Causes of a mode change, in the order of the last cause field (02, section 2.2). -/
inductive Cause | start | mode | restart | estop | haltTrip | stowDone | powerOn
  deriving DecidableEq, Repr

/-- The domains, numbered 0, 1, 2 (02, section 2.7). -/
inductive Domain | travel | implements | water
  deriving DecidableEq, Repr

/-- The result codes 0..11 (01 R13). -/
inductive ResultCode
  | ok | busy | notPermitted | wrongMode | heldByOther | notHolder | badValue | locked | queueFull | inUse
  | notReady | unknown
  deriving DecidableEq, Repr

/-- The notice kinds 1..26 (01, section 1.7). -/
inductive NoticeKind
  | modeChanged | claimLost | linkState | profileApplied
  | leaseExpired | reverseBlocked | tractionCut | tractionRestored | sensorStale | sensorFresh
  | armOutcome | armFault | broomFault
  | tankEmpty | tankRefilled | autoCut | autoCutEnd | chainFailed
  | consumerHeld | consumerResumed | reserveLost | reserveBack
  | windowTrip | scanPaused | groundLost | groundRegained
  deriving DecidableEq, Repr

/-- Side-arm states, in the order of the IMPLEMENTS record (09 R140). -/
inductive ArmState
  | stowed | swingingOut | lowering | working | yielding | raising | raised | swingingIn | retryWait | fault
  deriving DecidableEq, Repr

/-- Main broom states (09 R155). -/
inductive BroomState | up | lowering | down | lifting | fault
  deriving DecidableEq, Repr

/-- Budget row states (07 R104). -/
inductive RowState | full | trimmed | held
  deriving DecidableEq, Repr

/-- Ground status (05, section 5.2). -/
inductive GroundStatus | present | lost
  deriving DecidableEq, Repr

/-- Motor direction (05, section 5.2). -/
inductive Direction | forward | reverse | none
  deriving DecidableEq, Repr

/-- Which side arms a profile uses (06 R86). -/
inductive ArmsUsed | l | r | both | none
  deriving DecidableEq, Repr

/-! ### Port units (01) -/

/-- A response composed by an owning block and not yet built into a frame (01 R10, R13). -/
structure Response where
  kind : Byte
  tag  : Byte
  code : ResultCode
  data : List Byte
  deriving DecidableEq, Repr

/-- A record of the notice queue (01, sections 1.2 and 1.7). -/
structure NoticeRecord where
  kind    : NoticeKind
  subject : Nat
  lost    : Bool
  value   : Int
  path    : Nat
  time    : Time
  deriving DecidableEq, Repr

/-- Receiver states (01 R2). -/
inductive RxState | hunting | ready | receiving
  deriving DecidableEq, Repr

/-- The receiver: its state and, while RECEIVING, the frame so far (01 R2). -/
structure Receiver where
  state  : RxState
  /-- the first 37 bytes -/
  bytes  : List Byte
  /-- the byte count, which goes on beyond 37 -/
  count  : Nat
  /-- some character had a parity or framing error -/
  errors : Bool
  deriving DecidableEq, Repr

/-- The transmitter (01 R14): IDLE, or SENDING the frame whose bytes are on the transmit line. -/
inductive Transmitter
  | idle
  /-- a response, or its closing gap -/
  | response (frame : List Byte)
  /-- a notice before its last character; `queued` says that its record still heads the notice queue (01 R7) -/
  | notice (frame : List Byte) (queued : Bool)
  /-- the closing gap of a notice -/
  | noticeGap (frame : List Byte)
  deriving DecidableEq, Repr

/-- A station port unit (01 R22). -/
structure PortUnit where
  receiver      : Receiver
  /-- the receive slot: free, or occupied by a response that waits for the buffer (01 R10) -/
  slot          : Option Response
  overrun       : Bool
  errorCount    : Nat
  state         : PortState
  recoveryRun   : Nat
  authority     : AuthorityClass
  subscriptions : BitVec 6
  notices       : List NoticeRecord
  lostMarker    : Bool
  /-- the response buffer: a built frame (01 R13) -/
  buffer        : Option (List Byte)
  transmitter   : Transmitter
  deriving DecidableEq, Repr

/-- The three port units. -/
structure Ports where
  s0 : PortUnit
  s1 : PortUnit
  s2 : PortUnit
  deriving DecidableEq, Repr

/-- The unit of a port. -/
def Ports.get (ps : Ports) : Port → PortUnit
  | .s0 => ps.s0
  | .s1 => ps.s1
  | .s2 => ps.s2

/-- The units with one replaced. -/
def Ports.set (ps : Ports) (p : Port) (u : PortUnit) : Ports :=
  match p with
  | .s0 => { ps with s0 := u }
  | .s1 => { ps with s1 := u }
  | .s2 => { ps with s2 := u }

/-! ### Mode controller (02) -/

/-- An entry of the claim table (02, section 2.7). -/
structure Claim where
  holder    : Option Port
  claimedAt : Time
  deriving DecidableEq, Repr

/-- The claim table: one entry per domain. -/
structure Claims where
  travel     : Claim
  implements : Claim
  water      : Claim
  deriving DecidableEq, Repr

/-- The entry of a domain. -/
def Claims.get (c : Claims) : Domain → Claim
  | .travel => c.travel
  | .implements => c.implements
  | .water => c.water

/-- The table with one entry replaced. -/
def Claims.set (c : Claims) (d : Domain) (e : Claim) : Claims :=
  match d with
  | .travel => { c with travel := e }
  | .implements => { c with implements := e }
  | .water => { c with water := e }

/-- The six limits of the limit table (02, section 2.8). -/
structure Limits where
  fwdCap       : Nat
  revCap       : Nat
  transportCap : Nat
  armPressMax  : Nat
  mainRpmMax   : Nat
  sideRpmMax   : Nat
  deriving DecidableEq, Repr

/-- The mode controller (02 R26). -/
structure ModeController where
  mode          : Mode
  estopAsserted : Bool
  /-- the ESTOP line is at its active level -/
  estopLine     : Bool
  /-- when the 20 ms of inactive ESTOP are over, while they are measured (02 R28) -/
  estopTimer    : Option Time
  haltTrip      : Bool
  time          : Time
  lastChange    : Time
  lastCause     : Cause
  claims        : Claims
  limits        : Limits
  softLock      : Bool
  hardLock      : Bool
  /-- copies for the stow-completion test (02 R35) -/
  armL          : ArmState
  armR          : ArmState
  main          : BroomState
  deriving DecidableEq, Repr

/-! ### Measurement scanner (03) -/

/-- A role map entry (03 R46); no channel is NONE. -/
structure RoleEntry where
  channel : Option (Fin 16)
  offset  : Nat
  scale   : Int
  deriving DecidableEq, Repr

/-- The twelve roles, in role map order (03 R46). -/
inductive Role
  | drivePress | swashAngle | grade | armPosL | armPosR | armPressL | armPressR | broomPressM | tankLevel
  | waterPress | oilTemp | engineLoadAux
  deriving DecidableEq, Repr

/-- A scan list entry (03 R49): a held entry has a channel. -/
structure ScanEntry where
  channel : Fin 16
  sample  : Fin 4
  deriving DecidableEq, Repr

/-- A raw result of a channel, in the live set or the published set. -/
structure Reading where
  channel : Fin 16
  raw     : Nat
  deriving DecidableEq, Repr

/-- Scanner states, in the order of the SCAN_CONTROL record (03, section 3.6). -/
inductive ScanState | stopped | converting | waiting | paused
  deriving DecidableEq, Repr

/-- The hold on publishing (03 R59). -/
structure Hold where
  holder : Port
  expiry : Time
  deriving DecidableEq, Repr

/-- The measurement scanner (03 R65). -/
structure Scanner where
  roleMap     : Vector RoleEntry 12
  scanList    : List ScanEntry
  period      : Nat
  staleLimit  : Nat
  state       : ScanState
  continuous  : Bool
  periodTimer : Option Time
  /-- the results of the pass so far; its length is the index of the conversion in progress -/
  live        : List Reading
  /-- the end of the last complete pass, whose set may be kept in PAUSED -/
  passEnd     : Time
  published   : List Reading
  scanNumber  : BitVec 8
  publishTime : Time
  stale       : Bool
  staleTimer  : Option Time
  hold        : Option Hold
  deriving DecidableEq, Repr

/-! ### Window monitor (04) -/

/-- Window actions, in the order of 04 R66. -/
inductive WindowAction | notice | derate | cutWater | liftArms | stopTravel | halt
  deriving DecidableEq, Repr

/-- A window (04 R66); its indication is derived. -/
structure Window where
  low    : Nat
  high   : Nat
  action : WindowAction
  derate : Nat
  deriving DecidableEq, Repr

/-- Senses (04 R67). -/
inductive Sense | inside | outside
  deriving DecidableEq, Repr

/-- A channel assignment with its latch (04 R67). -/
structure Assignment where
  window   : Option (Fin 6)
  sense    : Sense
  latched  : Bool
  tripRaw  : Nat
  tripTime : Time
  deriving DecidableEq, Repr

/-- The five outputs of the window monitor (04 R70). -/
structure MonitorOutputs where
  derate     : Nat
  cutWater   : Bool
  liftArms   : Bool
  stopTravel : Bool
  halt       : Bool
  deriving DecidableEq, Repr

/-- The window monitor (04 R74). -/
structure Monitor where
  windows     : Vector Window 6
  assignments : Vector Assignment 16
  /-- the outputs as last derived and offered -/
  outputs     : MonitorOutputs
  deriving DecidableEq, Repr

/-! ### Pulse unit (05) -/

/-- Path sources (05, section 5.2). -/
inductive PathSource | ground | motor
  deriving DecidableEq, Repr

/-- The pulse unit (05 R84). -/
structure Pulse where
  motorPpm     : Nat
  groundPpm    : Nat
  window       : Nat
  lossTime     : Nat
  motorSpeed   : Nat
  direction    : Direction
  groundSpeed  : Nat
  status       : GroundStatus
  source       : PathSource
  path         : Nat
  remainder    : Nat
  slip         : Nat
  regainRun    : Nat
  forwardCount : Nat
  reverseCount : Nat
  groundCount  : Nat
  windowTimer  : Time
  lastEdge     : Time
  lossTimer    : Option Time
  deriving DecidableEq, Repr

/-! ### Profile selector (06) -/

/-- A sweep profile row (06 R86). -/
structure Profile where
  valid       : Bool
  speedCap    : Nat
  mainRpm     : Nat
  sideRpm     : Nat
  reachL      : Nat
  reachR      : Nat
  pressTarget : Nat
  groups      : GroupSet
  dose        : Nat
  shedOrder   : List Consumer
  armsUsed    : ArmsUsed
  deriving DecidableEq, Repr

/-- A zone table entry (06 R88). -/
structure Zone where
  enabled : Bool
  code    : ZoneCode
  profile : Fin 8
  ownMask : Option ZoneCode
  deriving DecidableEq, Repr

/-- A change queue entry (06 R92). -/
structure QueuedChange where
  mark    : Nat
  profile : Fin 8
  code    : ZoneCode
  deriving DecidableEq, Repr

/-- The profile selector (06 R100). -/
structure Selector where
  rows        : Vector Profile 8
  zones       : Vector Zone 16
  sharedMask  : ZoneCode
  queue       : List QueuedChange
  zoneProfile : Fin 8
  active      : Fin 8
  pinned      : Bool
  lastCode    : Option ZoneCode
  /-- copies of the path counter and of its last advance (05 R85; log 11) -/
  path        : Nat
  advance     : Nat
  deriving DecidableEq, Repr

/-! ### Budget table (07) -/

/-- A consumer row (07 R104). -/
structure BudgetRow where
  offered    : Nat
  demand     : Nat
  grant      : Nat
  rank       : Nat
  state      : RowState
  holdExpiry : Option Time
  /-- the hold's timer runs: its HOLD_EXPIRY has not been taken (07 R110) -/
  holdTimer  : Bool
  /-- the hold has expired (07 R110, R113; log 30) -/
  holdOver   : Bool
  floor      : Nat
  deriving DecidableEq, Repr

/-- The five consumer rows. -/
structure BudgetRows where
  travel : BudgetRow
  main   : BudgetRow
  armL   : BudgetRow
  armR   : BudgetRow
  water  : BudgetRow
  deriving DecidableEq, Repr

/-- The row of a consumer. -/
def BudgetRows.get (r : BudgetRows) : Consumer → BudgetRow
  | .travel => r.travel
  | .main => r.main
  | .armL => r.armL
  | .armR => r.armR
  | .water => r.water

/-- The rows with one replaced. -/
def BudgetRows.set (r : BudgetRows) (c : Consumer) (x : BudgetRow) : BudgetRows :=
  match c with
  | .travel => { r with travel := x }
  | .main => { r with main := x }
  | .armL => { r with armL := x }
  | .armR => { r with armR := x }
  | .water => { r with water := x }

/-- Reserve sources (07 R114). -/
inductive ReserveSource | reported | fallback
  deriving DecidableEq, Repr

/-- The writable fields of the coefficient record (07 R114). -/
structure Coefficients where
  ct       : Nat
  cg       : Nat
  cm       : Nat
  cb       : Nat
  cw       : Nat
  fallback : Nat
  margin   : Nat
  holdTime : Nat
  deriving DecidableEq, Repr

/-- The budget table (07 R116). -/
structure Budget where
  reserve      : Nat
  source       : ReserveSource
  lastReporter : Option Port
  leaseExpiry  : Option Time
  derate       : Nat
  ceiling      : Nat
  rows         : BudgetRows
  coefficients : Coefficients
  /-- copy -/
  mode         : Mode
  deriving DecidableEq, Repr

/-! ### Travel governor (08) -/

/-- The direction a DIRECTION_HOLD is heading for. -/
inductive Heading | forward | reverse
  deriving DecidableEq, Repr

/-- Governor states (08, section 8.5). -/
inductive GovernorState
  | standstill | forward | reverse | directionHold (heading : Heading) | stopping
  deriving DecidableEq, Repr

/-- Ceiling terms, in the order of the limiting term field (08 R121). -/
inductive CeilingTerm | mode | stopTrip | interlock | creep | grant | direction
  deriving DecidableEq, Repr

/-- An open slip window (08 R135): when it opened, and whether every ratio taken in so far exceeded the slip limit,
or was at or below it. -/
structure SlipWindow where
  opened   : Time
  allAbove : Bool
  allBelow : Bool
  deriving DecidableEq, Repr

/-- The writable fields of the TRAVEL record (08 R121). -/
structure TravelSettings where
  lease     : Nat
  rampUp    : Nat
  rampDown  : Nat
  creep     : Nat
  slipLimit : Nat
  deriving DecidableEq, Repr

/-- The drive map (08 R122). -/
structure DriveMap where
  start     : Nat
  full      : Nat
  fullSpeed : Nat
  deriving DecidableEq, Repr

/-- What the implement sequencer offers the travel governor (09 R141). -/
structure ImplementReport where
  armL        : ArmState
  armR        : ArmState
  main        : BroomState
  /-- the arm is in FAULT and stands out of stow -/
  outL        : Bool
  outR        : Bool
  liftLFailed : Bool
  liftRFailed : Bool
  liftMFailed : Bool
  deriving DecidableEq, Repr

/-- The travel governor's copies (08 R123). -/
structure TravelCopies where
  mode         : Mode
  fwdCap       : Nat
  revCap       : Nat
  transportCap : Nat
  speedCap     : Nat
  ct           : Nat
  cg           : Nat
  grant        : Nat
  grade        : Option Int
  stale        : Bool
  stopTravel   : Bool
  motorSpeed   : Nat
  direction    : Direction
  /-- offered by 05 R85; no rule of 08 uses it -/
  groundSpeed  : Nat
  slip         : Nat
  ground       : GroundStatus
  implements   : ImplementReport
  deriving DecidableEq, Repr

/-- The travel governor (08 R138). -/
structure Governor where
  settings       : TravelSettings
  map            : DriveMap
  request        : Int
  leaseExpiry    : Option Time
  state          : GovernorState
  target         : Int
  command        : Int
  ceiling        : Nat
  limiting       : CeilingTerm
  liftForReverse : Bool
  liftWait       : Option Time
  reverseBlocked : Bool
  cutLevel       : Nat
  slipWindow     : Option SlipWindow
  /-- a slip window opens at the next window end (08 R136) -/
  slipArmed      : Bool
  rampTimer      : Option Time
  /-- the demand last offered (08 R126) -/
  demand         : Nat
  driveFwd       : Nat
  driveRev       : Nat
  copies         : TravelCopies
  deriving DecidableEq, Repr

/-! ### Implement sequencer (09) -/

/-- Arm commands (09 R151). -/
inductive ArmCommand | auto | out | in_
  deriving DecidableEq, Repr

/-- Main broom commands (09 R152). -/
inductive BroomCommand | auto | up
  deriving DecidableEq, Repr

/-- Motion kinds (09 R150). -/
inductive MotionKind | swingOut | swingIn | yield
  deriving DecidableEq, Repr

/-- Motion outcomes (09 R150). -/
inductive MotionOutcome | done | timedOut | aborted | faulted
  deriving DecidableEq, Repr

/-- Abort causes (09 R150). -/
inductive AbortCause | liftRequest | stowRequest | halt | budgetHeld | trip
  deriving DecidableEq, Repr

/-- Fault causes (09 R140). -/
inductive FaultCause | retryLimit | liftFailed
  deriving DecidableEq, Repr

/-- An open motion (09 R150). -/
structure Motion where
  kind     : MotionKind
  openedAt : Time
  attempts : Nat
  deriving DecidableEq, Repr

/-- A record of an outcome stack (09 R150). -/
structure OutcomeRecord where
  motion   : MotionKind
  outcome  : MotionOutcome
  attempts : Nat
  path     : Nat
  duration : Time
  abort    : Option AbortCause
  deriving DecidableEq, Repr

/-- A budget row as offered to a consumer block (07 R111). -/
structure GrantCopy where
  grant : Nat
  state : RowState
  deriving DecidableEq, Repr

/-- The settings of an IMPLEMENTS record (09 R140). -/
structure ArmSettings where
  swingLimit : Nat
  retryLimit : Nat
  swingDrive : Nat
  yieldDrive : Nat
  deriving DecidableEq, Repr

/-- A side arm record with its coils, its LIFT request and its copies (09 R140 to R142, R158). -/
structure ArmRecord where
  settings   : ArmSettings
  state      : ArmState
  command    : ArmCommand
  attempts   : Nat
  timer      : Option Time
  motion     : Option Motion
  /-- raising after a failed attempt (09 R146) -/
  afterFail  : Bool
  fault      : Option FaultCause
  outcomes   : List OutcomeRecord
  /-- coil SWING_x, positive outward -/
  swing      : Int
  /-- coil BROOM_x -/
  broom      : Nat
  /-- coil PRESS_x -/
  press      : Nat
  /-- the value asked of LIFT_x -/
  lift       : Bool
  /-- the demand last offered -/
  demand     : Nat
  position   : Option Int
  pressure   : Option Int
  reach      : Nat
  row        : GrantCopy
  liftFailed : Bool
  deriving DecidableEq, Repr

/-- The main broom record with its coil, its LIFT request and its copies (09 R155, R158). -/
structure MainRecord where
  settings   : ArmSettings
  state      : BroomState
  command    : BroomCommand
  timer      : Option Time
  fault      : Option FaultCause
  broom      : Nat
  lift       : Bool
  demand     : Nat
  row        : GrantCopy
  liftFailed : Bool
  deriving DecidableEq, Repr

/-- The implement sequencer (09 R158); the fields after `regTimer` are copies common to its three records. -/
structure Sequencer where
  left           : ArmRecord
  right          : ArmRecord
  main           : MainRecord
  regTimer       : Option Time
  mode           : Mode
  stale          : Bool
  liftArms       : Bool
  liftForReverse : Bool
  pressTarget    : Nat
  mainRpm        : Nat
  sideRpm        : Nat
  armsUsed       : ArmsUsed
  armPressMax    : Nat
  mainRpmMax     : Nat
  sideRpmMax     : Nat
  cm             : Nat
  cb             : Nat
  deriving DecidableEq, Repr

/-- The record of a side arm. -/
def Sequencer.arm (q : Sequencer) : Side → ArmRecord
  | .left => q.left
  | .right => q.right

/-- The sequencer with one side arm's record replaced. -/
def Sequencer.setArm (q : Sequencer) (x : Side) (a : ArmRecord) : Sequencer :=
  match x with
  | .left => { q with left := a }
  | .right => { q with right := a }

/-! ### Water controller (10) -/

/-- Associations (10 R159). -/
inductive Association | none | main | armL | armR
  deriving DecidableEq, Repr

/-- Water states (10 R159). -/
inductive WaterState | off | priming | spraying | idleWait | empty
  deriving DecidableEq, Repr

/-- The settings of the WATER record (10 R159). -/
structure WaterSettings where
  primeTime   : Nat
  exempt      : GroupSet
  emptyLevel  : Nat
  refillLevel : Nat
  deriving DecidableEq, Repr

/-- The water controller's copies (10 R160). -/
structure WaterCopies where
  mode        : Mode
  groups      : GroupSet
  dose        : Nat
  cw          : Nat
  row         : GrantCopy
  tankLevel   : Option Int
  cutWater    : Bool
  groundSpeed : Nat
  ground      : GroundStatus
  path        : Nat
  advance     : Nat
  armL        : ArmState
  armR        : ArmState
  main        : BroomState
  failed      : GroupSet
  primeFailed : Bool
  deriving DecidableEq, Repr

/-- The water controller (10 R168). -/
structure Water where
  settings     : WaterSettings
  associations : Vector Association 12
  enable       : Bool
  exclusion    : GroupSet
  state        : WaterState
  /-- the tank latch is EMPTY -/
  tankEmpty    : Bool
  eligible     : GroupSet
  wanted       : Nat
  allowed      : Nat
  demand       : Nat
  autoCut      : Bool
  sprayed      : Nat
  wetUntil     : Time
  /-- the time counter is before the wet-until time -/
  wet          : Bool
  primeTimer   : Option Time
  pump         : Nat
  /-- the values asked of N0..N11 -/
  nozzles      : GroupSet
  /-- the value asked of PRIME -/
  prime        : Bool
  copies       : WaterCopies
  deriving DecidableEq, Repr

/-! ### Valve chain driver (10) -/

/-- The valve chain driver (10 R169 to R171). -/
structure Chain where
  requested  : Mask
  wanted     : Mask
  shifted    : Mask
  loaded     : Mask
  prevLoaded : Mask
  echo       : Mask
  fault      : Mask
  counts     : Vector Nat 16
  failed     : Mask
  /-- refresh-pending -/
  waiting    : Bool
  /-- the driver is SHIFTING -/
  shifting   : Bool
  timer      : Time
  /-- copy -/
  mode       : Mode
  deriving DecidableEq, Repr

/-! ### Offers between blocks -/

/-- Causes of a setting of the active profile, numbered 0..5 (06 R94). -/
inductive ProfileCause | zone | pin | unpin | start | rewrite | restart
  deriving DecidableEq, Repr

/-- What one block hands to another inside a command (00_scope.md, section 3). Each is taken as one event by its receiver. -/
inductive Offer
  /-- a notice offered to every port unit (01 R15) -/
  | post (kind : NoticeKind) (subject : Nat) (value : Int)
  /-- a notice for one station's port alone (01, section 1.7) -/
  | postTo (port : Port) (kind : NoticeKind) (subject : Nat) (value : Int)
  | scannerHalted
  | scannerStart
  | scannerRestart
  | monitorRestart
  | pulseStart
  | pulseRestart
  | selectorStart
  | selectorRestart
  | budgetMode (m : Mode)
  /-- START with the shed order of row 0 (02 R31, 06 R95) -/
  | budgetStart (order : List Consumer)
  | budgetRestart
  | governorMode (m : Mode)
  | governorStart
  | sequencerMode (m : Mode)
  | sequencerStart
  | sequencerRestart
  | waterMode (m : Mode)
  | waterStart
  | waterRestart
  | chainMode (m : Mode)
  | chainRestart
  /-- the holder of a domain has changed (02 R42) -/
  | holderChanged (d : Domain)
  | governorLimits (l : Limits)
  | sequencerLimits (l : Limits)
  | governorStale (flag : Bool)
  | sequencerStale (flag : Bool)
  | governorGrade (g : Option Int)
  | sequencerMeasures (posL posR pressL pressR : Option Int)
  | waterTank (level : Option Int)
  | budgetDerate (total : Nat)
  | waterCut (active : Bool)
  | sequencerLift (active : Bool)
  | governorStop (active : Bool)
  | haltOutput (active : Bool)
  | selectorPath (path advance : Nat)
  | waterPath (path advance : Nat)
  /-- motor speed, direction, ground speed and slip ratio; `windowEnd` tells the slip windows of 08 R135 -/
  | governorMotor (speed : Nat) (direction : Direction) (ground slip : Nat) (windowEnd : Bool)
  /-- ground status, ground speed and slip ratio -/
  | governorGround (status : GroundStatus) (ground slip : Nat)
  | waterGround (status : GroundStatus) (speed : Nat)
  | budgetRanks (order : List Consumer)
  | governorCap (cap : Nat)
  | sequencerProfile (row : Profile)
  | waterProfile (groups : GroupSet) (dose : Nat)
  | governorCoefficients (ct cg : Nat)
  | sequencerCoefficients (cm cb : Nat)
  | waterCoefficient (cw : Nat)
  | demand (c : Consumer) (points : Nat)
  | governorGrant (g : GrantCopy)
  | sequencerGrants (main armL armR : GrantCopy)
  | waterGrant (g : GrantCopy)
  | liftForReverse (flag : Bool)
  | governorImplements (r : ImplementReport)
  | waterImplements (armL armR : ArmState) (main : BroomState)
  | modeImplements (armL armR : ArmState) (main : BroomState)
  | chainLifts (l r m : Bool)
  | chainWater (nozzles : GroupSet) (prime : Bool)
  | sequencerLiftFailed (l r m : Bool)
  | waterFailed (groups : GroupSet) (prime : Bool)
  deriving DecidableEq, Repr

/-! ### The whole state -/

/-- The state of the SW-40. -/
structure State where
  rate      : LinkRate
  ports     : Ports
  mc        : ModeController
  scanner   : Scanner
  monitor   : Monitor
  pulse     : Pulse
  selector  : Selector
  budget    : Budget
  governor  : Governor
  sequencer : Sequencer
  water     : Water
  chain     : Chain
  /-- offers made inside a command and not yet taken, first in first out (log 5) -/
  offers    : List Offer
  /-- the commands that wait, first in first out (log 1) -/
  pending   : List Instr
  deriving DecidableEq, Repr

/-- A fault that stops the part. The spec names none: every bad request, frame, line and sensor is answered by a result
code, a counter or a state of the machine, so this type has no constructor (safe: no run ends in a fault). -/
inductive Fault
  deriving DecidableEq, Repr

/-- Why a command has no meaning in the model. -/
inductive Refusal
  /-- Raised by an arm of `exec` for a row the model does not reach yet; safe: the run stops. No arm raises it now. -/
  | notModelled (mnemonic : String)
  deriving DecidableEq, Repr

/-! ### The state after power-on -/

/-- The authority class of a strap pair (02 R23). -/
def AuthorityClass.ofStraps (x : StrapPair) : AuthorityClass :=
  match x.a, x.b with
  | false, false => .operator
  | false, true => .route
  | true, false => .engine
  | true, true => .service

/-- A port unit after power-on (01 R22). -/
def PortUnit.powerOn (x : StrapPair) : PortUnit where
  receiver := ⟨.hunting, [], 0, false⟩
  slot := none
  overrun := false
  errorCount := 0
  state := .healthy
  recoveryRun := 0
  authority := .ofStraps x
  subscriptions := 0
  notices := []
  lostMarker := false
  buffer := none
  transmitter := .idle

/-- The limits after power-on (02, section 2.8). -/
def Limits.powerOn : Limits := ⟨3000, 1500, 8000, 6000, 400, 150⟩

/-- The mode controller after power-on (02 R26), the ESTOP line being at the given level (02 R28). -/
def ModeController.powerOn (estopActive : Bool) : ModeController where
  mode := .halted
  estopAsserted := true
  estopLine := estopActive
  estopTimer := if estopActive then none else some 20
  haltTrip := false
  time := 0
  lastChange := 0
  lastCause := .powerOn
  claims := ⟨⟨none, 0⟩, ⟨none, 0⟩, ⟨none, 0⟩⟩
  limits := .powerOn
  softLock := false
  hardLock := false
  armL := .stowed
  armR := .stowed
  main := .up

/-- The scanner after power-on (03 R65). -/
def Scanner.powerOn : Scanner where
  roleMap := Vector.replicate 12 ⟨none, 0, 1000⟩
  scanList := [⟨0, 0⟩]
  period := 10
  staleLimit := 50
  state := .stopped
  continuous := false
  periodTimer := none
  live := []
  passEnd := 0
  published := []
  scanNumber := 0
  publishTime := 0
  stale := true
  staleTimer := none
  hold := none

/-- The window monitor after power-on (04 R74). -/
def Monitor.powerOn : Monitor where
  windows := Vector.replicate 6 ⟨0, 4095, .notice, 0⟩
  assignments := Vector.replicate 16 ⟨none, .inside, false, 0, 0⟩
  outputs := ⟨0, false, false, false, false⟩

/-- The pulse unit after power-on (05 R77, R84). -/
def Pulse.powerOn : Pulse where
  motorPpm := 320
  groundPpm := 160
  window := 50
  lossTime := 400
  motorSpeed := 0
  direction := .none
  groundSpeed := 0
  status := .present
  source := .ground
  path := 0
  remainder := 0
  slip := 0
  regainRun := 0
  forwardCount := 0
  reverseCount := 0
  groundCount := 0
  windowTimer := 50
  lastEdge := 0
  lossTimer := some 400

/-- A profile row after power-on (06 R86). -/
def Profile.powerOn : Profile where
  valid := false
  speedCap := 0
  mainRpm := 0
  sideRpm := 0
  reachL := 0
  reachR := 0
  pressTarget := 0
  groups := 0
  dose := 0
  shedOrder := [.travel, .main, .armL, .armR, .water]
  armsUsed := .none

/-- The profile selector after power-on (06 R88, R89, R100). -/
def Selector.powerOn : Selector where
  rows := Vector.replicate 8 .powerOn
  zones := Vector.ofFn fun i => ⟨false, 0, 0, if i.val < 12 then none else some 0xFFFFFF⟩
  sharedMask := 0xFFFFFF
  queue := []
  zoneProfile := 0
  active := 0
  pinned := false
  lastCode := none
  path := 0
  advance := 0

/-- A consumer row after power-on (07 R116). -/
def BudgetRow.powerOn (rank floor : Nat) : BudgetRow := ⟨0, 0, 0, rank, .full, none, false, false, floor⟩

/-- The coefficient record after power-on (07 R115). -/
def Coefficients.powerOn : Coefficients := ⟨100, 100, 500, 600, 200, 400, 50, 1000⟩

/-- The budget table after power-on (07 R116). -/
def Budget.powerOn : Budget where
  reserve := 400
  source := .fallback
  lastReporter := none
  leaseExpiry := none
  derate := 0
  ceiling := 400
  rows := ⟨.powerOn 1 0, .powerOn 2 50, .powerOn 3 50, .powerOn 4 50, .powerOn 5 50⟩
  coefficients := .powerOn
  mode := .halted

/-- What the implement sequencer's state after power-on reports (08 R123). -/
def ImplementReport.powerOn : ImplementReport := ⟨.stowed, .stowed, .up, false, false, false, false, false⟩

/-- The travel governor after power-on (08 R121 to R123, R138). -/
def Governor.powerOn : Governor where
  settings := ⟨200, 600, 1200, 500, 20⟩
  map := ⟨0, 0, 0⟩
  request := 0
  leaseExpiry := none
  state := .standstill
  target := 0
  command := 0
  ceiling := 0
  limiting := .mode
  liftForReverse := false
  liftWait := none
  reverseBlocked := false
  cutLevel := 0
  slipWindow := none
  slipArmed := false
  rampTimer := none
  demand := 0
  driveFwd := 0
  driveRev := 0
  copies :=
    { mode := .halted, fwdCap := 3000, revCap := 1500, transportCap := 8000, speedCap := 0, ct := 100, cg := 100,
      grant := 0, grade := none, stale := true, stopTravel := false, motorSpeed := 0, direction := .none,
      groundSpeed := 0, slip := 0, ground := .present, implements := .powerOn }

/-- The settings of an IMPLEMENTS record after power-on (09 R140; the main broom's: log 15). -/
def ArmSettings.powerOn : ArmSettings := ⟨4000, 3, 700, 400⟩

/-- A side arm after power-on (09 R140, R141, R158). -/
def ArmRecord.powerOn : ArmRecord where
  settings := .powerOn
  state := .stowed
  command := .auto
  attempts := 0
  timer := none
  motion := none
  afterFail := false
  fault := none
  outcomes := []
  swing := 0
  broom := 0
  press := 0
  lift := false
  demand := 0
  position := none
  pressure := none
  reach := 0
  row := ⟨0, .full⟩
  liftFailed := false

/-- The main broom after power-on (09 R158). -/
def MainRecord.powerOn : MainRecord where
  settings := .powerOn
  state := .up
  command := .auto
  timer := none
  fault := none
  broom := 0
  lift := false
  demand := 0
  row := ⟨0, .full⟩
  liftFailed := false

/-- The implement sequencer after power-on (09 R141, R158). -/
def Sequencer.powerOn : Sequencer where
  left := .powerOn
  right := .powerOn
  main := .powerOn
  regTimer := none
  mode := .halted
  stale := true
  liftArms := false
  liftForReverse := false
  pressTarget := 0
  mainRpm := 0
  sideRpm := 0
  armsUsed := .none
  armPressMax := 6000
  mainRpmMax := 400
  sideRpmMax := 150
  cm := 500
  cb := 600

/-- The water controller after power-on (10 R159, R160, R168). -/
def Water.powerOn : Water where
  settings := ⟨800, 0, 50, 150⟩
  associations := Vector.replicate 12 .none
  enable := true
  exclusion := 0
  state := .off
  tankEmpty := false
  eligible := 0
  wanted := 0
  allowed := 0
  demand := 0
  autoCut := false
  sprayed := 0
  wetUntil := 0
  wet := false
  primeTimer := none
  pump := 0
  nozzles := 0
  prime := false
  copies :=
    { mode := .halted, groups := 0, dose := 0, cw := 200, row := ⟨0, .full⟩, tankLevel := none, cutWater := false,
      groundSpeed := 0, ground := .present, path := 0, advance := 0, armL := .stowed, armR := .stowed, main := .up,
      failed := 0, primeFailed := false }

/-- The valve chain driver after power-on (10 R169). -/
def Chain.powerOn : Chain where
  requested := 0
  wanted := 0
  shifted := 0
  loaded := 0
  prevLoaded := 0
  echo := 0
  fault := 0
  counts := Vector.replicate 16 0
  failed := 0
  waiting := false
  shifting := false
  timer := 20
  mode := .halted

/-- The part right after power-on with the given straps and ESTOP level, the queue being as given. -/
def State.powerOn (straps : Straps) (rate : LinkRate) (estopActive : Bool) (pending : List Instr) : State where
  rate := rate
  ports := ⟨.powerOn straps.s0, .powerOn straps.s1, .powerOn straps.s2⟩
  mc := .powerOn estopActive
  scanner := .powerOn
  monitor := .powerOn
  pulse := .powerOn
  selector := .powerOn
  budget := .powerOn
  governor := .powerOn
  sequencer := .powerOn
  water := .powerOn
  chain := .powerOn
  offers := []
  pending := pending

/-- The part right after reset: power-on with the installation of `Config` (log 6) and an empty queue. -/
def State.reset : State :=
  .powerOn Config.resetStraps Config.resetRate Config.resetEstopActive []

/-! ### Updates of one block -/

/-- The state with the port units replaced. -/
def State.setPorts (s : State) (x : Ports) : State := { s with ports := x }
/-- The state with the mode controller replaced. -/
def State.setMc (s : State) (x : ModeController) : State := { s with mc := x }
/-- The state with the scanner replaced. -/
def State.setScanner (s : State) (x : Scanner) : State := { s with scanner := x }
/-- The state with the window monitor replaced. -/
def State.setMonitor (s : State) (x : Monitor) : State := { s with monitor := x }
/-- The state with the pulse unit replaced. -/
def State.setPulse (s : State) (x : Pulse) : State := { s with pulse := x }
/-- The state with the profile selector replaced. -/
def State.setSelector (s : State) (x : Selector) : State := { s with selector := x }
/-- The state with the budget table replaced. -/
def State.setBudget (s : State) (x : Budget) : State := { s with budget := x }
/-- The state with the travel governor replaced. -/
def State.setGovernor (s : State) (x : Governor) : State := { s with governor := x }
/-- The state with the implement sequencer replaced. -/
def State.setSequencer (s : State) (x : Sequencer) : State := { s with sequencer := x }
/-- The state with the water controller replaced. -/
def State.setWater (s : State) (x : Water) : State := { s with water := x }
/-- The state with the chain driver replaced. -/
def State.setChain (s : State) (x : Chain) : State := { s with chain := x }
/-- The state with the offers replaced. -/
def State.setOffers (s : State) (x : List Offer) : State := { s with offers := x }
/-- The state with the command queue replaced. -/
def State.setPending (s : State) (x : List Instr) : State := { s with pending := x }

end Sys2Proof.Machine
end

