-- ==== Sys2Proof/Machine/Ops.lean ====
section
/-! DEFINITION. The shared operations: times and timers, whole-number arithmetic, what a block hands on, bytes and the
frame check, and the fixed numbers of codes. -/

namespace Sys2Proof.Machine

/-! ### Times (00 section 7.2, 02 R27) -/

/-- An interval: the difference of two counter values modulo 2^32 (00 section 7.2). -/
def interval (later earlier : Time) : Nat := (later - earlier).toNat

/-- The counter value `n` milliseconds after `t`. -/
def after (t : Time) (n : Nat) : Time := t + BitVec.ofNat 32 n

/-- The counter has reached `expiry`: no timer is longer than 10 s, so the half of the counter's circle that begins
at `expiry` is its future (00 section 7.2; log 8). -/
def reached (now expiry : Time) : Bool := interval now expiry < 2 ^ 31

/-- A timer runs and the counter has reached its expiry (log 3). -/
def due (now : Time) : Option Time → Bool
  | none => false
  | some e => reached now e

/-- The time left on a timer: 0 when it is stopped or has been reached. -/
def remaining (now : Time) : Option Time → Nat
  | none => 0
  | some e => if reached now e then 0 else interval e now

/-! ### Whole numbers (00 section 7.1) -/

/-- A whole number clamped into a range. -/
def clamp (lo hi x : Int) : Int := max lo (min hi x)

/-- The largest value of a 32-bit field, at which the path counters saturate (05 R79, 10 R164). -/
def max32 : Nat := 4294967295

/-- A count that saturates at 65535 (05 R75, R76). -/
def countUp (n : Nat) : Nat := min 65535 (n + 1)

/-- A 16-bit two's complement field read as a whole number (01 R18). -/
def signed16 (x : BitVec 16) : Int := x.toInt

/-! ### What a block hands on -/

/-- The value of a computation in a block, with the offers it makes, in order. -/
structure Emit (α : Type) where
  val : α
  out : List Offer

/-- A value with no offer. -/
def Emit.pure {α : Type} (x : α) : Emit α := ⟨x, []⟩

/-- One computation after another: the offers of the first come first. -/
def Emit.andThen {α β : Type} (x : Emit α) (f : α → Emit β) : Emit β :=
  ⟨(f x.val).val, x.out ++ (f x.val).out⟩

/-- Further offers after a computation's own. -/
def Emit.tell {α : Type} (x : Emit α) (os : List Offer) : Emit α := ⟨x.val, x.out ++ os⟩

/-- Offers made only when a condition holds. -/
def offerIf (c : Bool) (o : Offer) : List Offer := if c then [o] else []

/-- The state with further offers at the end of those not yet taken. -/
def State.emit (s : State) (os : List Offer) : State := s.setOffers (s.offers ++ os)

/-! ### Bytes and frames (01 sections 1.2 and 1.3) -/

/-- A whole number as one byte. -/
def byte (n : Nat) : Byte := BitVec.ofNat 8 n

/-- A whole number as two bytes, the more significant first. -/
def bytes2 (n : Nat) : List Byte := [byte (n / 256), byte n]

/-- A whole number as four bytes, the most significant first. -/
def bytes4 (n : Nat) : List Byte := [byte (n / 16777216), byte (n / 65536), byte (n / 256), byte n]

/-- A signed number as two bytes, two's complement. -/
def bytes2s (i : Int) : List Byte := bytes2 (BitVec.ofInt 16 i).toNat

/-- A flag as one byte. -/
def flagByte (b : Bool) : Byte := if b then 1 else 0

/-- One bit of the frame check (01 R4 step 4). -/
def crcBit (r : BitVec 16) (bit : Bool) : BitVec 16 :=
  if r.msb != bit then (r <<< 1) ^^^ 0x1021 else r <<< 1

/-- One byte of the frame check, most significant bit first (01 R4 step 3). -/
def crcByte (r : BitVec 16) (x : Byte) : BitVec 16 :=
  [7, 6, 5, 4, 3, 2, 1, 0].foldl (fun r i => crcBit r (x.getLsbD i)) r

/-- The check over the bytes from the kind through the last payload byte (01 R4). -/
def crc (bs : List Byte) : BitVec 16 := bs.foldl crcByte 0xFFFF

/-- A frame: kind, tag, length, payload, check (01 section 1.2). -/
def frame (kind tag : Byte) (payload : List Byte) : List Byte :=
  let body := kind :: tag :: byte payload.length :: payload
  body ++ bytes2 (crc body).toNat

/-! ### Numbers of names -/

/-- Port numbers (01 R9). -/
def portNumber : Port → Nat
  | .s0 => 0
  | .s1 => 1
  | .s2 => 2

/-- Port state numbers (01 section 1.2). -/
def PortState.number : PortState → Nat
  | .healthy => 0
  | .degraded => 1
  | .cutOff => 2

/-- Authority class numbers (01 R21). -/
def AuthorityClass.number : AuthorityClass → Nat
  | .operator => 0
  | .route => 1
  | .engine => 2
  | .service => 3

/-- Mode numbers (02 R29). -/
def Mode.number : Mode → Nat
  | .halted => 0
  | .transport => 1
  | .sweep => 2
  | .stowing => 3
  | .service => 4

/-- Cause numbers (02 R29 and section 2.2). -/
def Cause.number : Cause → Nat
  | .start => 0
  | .mode => 1
  | .restart => 2
  | .estop => 3
  | .haltTrip => 4
  | .stowDone => 5
  | .powerOn => 6

/-- Domain numbers (02 section 2.7). -/
def Domain.number : Domain → Nat
  | .travel => 0
  | .implements => 1
  | .water => 2

/-- Result code numbers (01 R13). -/
def ResultCode.number : ResultCode → Nat
  | .ok => 0
  | .busy => 1
  | .notPermitted => 2
  | .wrongMode => 3
  | .heldByOther => 4
  | .notHolder => 5
  | .badValue => 6
  | .locked => 7
  | .queueFull => 8
  | .inUse => 9
  | .notReady => 10
  | .unknown => 11

/-- Notice kind codes (01 section 1.7). -/
def NoticeKind.number : NoticeKind → Nat
  | .modeChanged => 1
  | .claimLost => 2
  | .linkState => 3
  | .profileApplied => 4
  | .leaseExpired => 5
  | .reverseBlocked => 6
  | .tractionCut => 7
  | .tractionRestored => 8
  | .sensorStale => 9
  | .sensorFresh => 10
  | .armOutcome => 11
  | .armFault => 12
  | .broomFault => 13
  | .tankEmpty => 14
  | .tankRefilled => 15
  | .autoCut => 16
  | .autoCutEnd => 17
  | .chainFailed => 18
  | .consumerHeld => 19
  | .consumerResumed => 20
  | .reserveLost => 21
  | .reserveBack => 22
  | .windowTrip => 23
  | .scanPaused => 24
  | .groundLost => 25
  | .groundRegained => 26

/-- The class code of a notice kind: MODE 0, TRAVEL 1, IMPLEMENT 2, WATER 3, BUDGET 4, MEASURE 5 (01 section 1.7). -/
def NoticeKind.classCode : NoticeKind → Nat
  | .modeChanged | .claimLost | .linkState | .profileApplied => 0
  | .leaseExpired | .reverseBlocked | .tractionCut | .tractionRestored | .sensorStale | .sensorFresh => 1
  | .armOutcome | .armFault | .broomFault => 2
  | .tankEmpty | .tankRefilled | .autoCut | .autoCutEnd | .chainFailed => 3
  | .consumerHeld | .consumerResumed | .reserveLost | .reserveBack => 4
  | .windowTrip | .scanPaused | .groundLost | .groundRegained => 5

/-- Consumer numbers (07 section 7.1). -/
def consumerNumber : Consumer → Nat
  | .travel => 0
  | .main => 1
  | .armL => 2
  | .armR => 3
  | .water => 4

/-- Profile cause numbers (06 R94). -/
def ProfileCause.number : ProfileCause → Nat
  | .zone => 0
  | .pin => 1
  | .unpin => 2
  | .start => 3
  | .rewrite => 4
  | .restart => 5

/-- Side numbers (09 R149). -/
def sideNumber : Side → Nat
  | .left => 0
  | .right => 1

/-- The modes in which the jobs' automation acts: TRANSPORT, SWEEP, STOWING (08 R127, 09 R142). -/
def Mode.working : Mode → Bool
  | .transport | .sweep | .stowing => true
  | .halted | .service => false

/-- HALTED or SERVICE, the modes in which configuration may be written. -/
def Mode.configurable : Mode → Bool
  | .halted | .service => true
  | .transport | .sweep | .stowing => false

/-! ### Answers -/

/-- What a request is answered with: a result code and data (01 R13). -/
structure Reply where
  code : ResultCode
  data : List Byte
  deriving DecidableEq, Repr

/-- OK with data. -/
def Reply.okWith (data : List Byte) : Reply := ⟨.ok, data⟩

/-- OK without data. -/
def Reply.done : Reply := ⟨.ok, []⟩

/-- A refusal without data. -/
def Reply.no (c : ResultCode) : Reply := ⟨c, []⟩

end Sys2Proof.Machine
end

