-- ==== Sys2Proof/Machine/Operands.lean ====
section
/-! DEFINITION. Operand forms: the table directory (01 section 1.8), the classes that may write (02 R25), and the
reading of table records under 01 R18 and R20. Read-only fields are passed over (log 7). -/

namespace Sys2Proof.Machine

/-! ### The table directory -/

/-- The tables, in the order of their identifiers 1..25 (01 section 1.8). -/
inductive Table
  | ports | claims | limits | machine | roleMap | scanList | scanControl | publishedSet | windows | assignments
  | pulse | profiles | zones | zoneMask | changeQueue | budget | coefficients | travel | driveMap | implements
  | outcomesL | outcomesR | water | association | chain
  deriving DecidableEq, Repr

/-- The table of an identifier. -/
def Table.ofNumber : Nat → Option Table
  | 1 => some .ports
  | 2 => some .claims
  | 3 => some .limits
  | 4 => some .machine
  | 5 => some .roleMap
  | 6 => some .scanList
  | 7 => some .scanControl
  | 8 => some .publishedSet
  | 9 => some .windows
  | 10 => some .assignments
  | 11 => some .pulse
  | 12 => some .profiles
  | 13 => some .zones
  | 14 => some .zoneMask
  | 15 => some .changeQueue
  | 16 => some .budget
  | 17 => some .coefficients
  | 18 => some .travel
  | 19 => some .driveMap
  | 20 => some .implements
  | 21 => some .outcomesL
  | 22 => some .outcomesR
  | 23 => some .water
  | 24 => some .association
  | 25 => some .chain
  | _ => none

/-- The encoded size of a record (each owning chapter). -/
def Table.recordSize : Table → Nat
  | .ports => 8
  | .claims => 6
  | .limits => 14
  | .machine => 13
  | .roleMap => 5
  | .scanList => 2
  | .scanControl => 18
  | .publishedSet => 6
  | .windows => 8
  | .assignments => 9
  | .pulse => 22
  | .profiles => 22
  | .zones => 11
  | .zoneMask => 13
  | .changeQueue => 9
  | .budget => 14
  | .coefficients => 28
  | .travel => 26
  | .driveMap => 7
  | .implements => 22
  | .outcomesL => 13
  | .outcomesR => 13
  | .water => 26
  | .association => 1
  | .chain => 8

/-- The capacity of a table in records (01 section 1.8). -/
def Table.capacity : Table → Nat
  | .ports | .claims | .implements | .outcomesL | .outcomesR => 3
  | .limits | .machine | .scanControl | .pulse | .zoneMask | .coefficients | .travel | .driveMap | .water => 1
  | .roleMap | .association => 12
  | .scanList | .publishedSet | .assignments | .zones | .chain => 16
  | .windows => 6
  | .profiles => 8
  | .changeQueue => 4
  | .budget => 5

/-- The classes that may write a table (02 R25). -/
def Table.writableBy : Table → AuthorityClass → Bool
  | .limits, c => c == .service
  | .roleMap, c | .scanList, c | .scanControl, c | .windows, c | .assignments, c | .pulse, c | .coefficients, c
  | .budget, c | .travel, c | .driveMap, c | .implements, c | .water, c | .association, c =>
    c == .operator || c == .service
  | .profiles, c | .zones, c | .zoneMask, c => c == .operator || c == .route || c == .service
  | .ports, _ | .claims, _ | .machine, _ | .publishedSet, _ | .changeQueue, _ | .outcomesL, _ | .outcomesR, _
  | .chain, _ => false

/-! ### Fields of a record -/

/-- The byte at an offset. -/
def field1 (r : List Byte) (o : Nat) : Nat := (r.getD o 0).toNat

/-- The two-byte number at an offset. -/
def field2 (r : List Byte) (o : Nat) : Nat := field1 r o * 256 + field1 r (o + 1)

/-- The signed two-byte number at an offset. -/
def field2s (r : List Byte) (o : Nat) : Int := signed16 (BitVec.ofNat 16 (field2 r o))

/-- The four-byte number at an offset. -/
def field4 (r : List Byte) (o : Nat) : Nat := field2 r o * 65536 + field2 r (o + 2)

/-- A flag byte: 0 or 1, nothing else (01 R18). -/
def flagAt (r : List Byte) (o : Nat) : Option Bool :=
  match field1 r o with
  | 0 => some false
  | 1 => some true
  | _ => none

/-- A number held to its stated range (01 R18). -/
def inRange (lo hi x : Nat) : Option Nat := if lo ≤ x ∧ x ≤ hi then some x else none

/-- A number below `n`. -/
def below (n x : Nat) : Option (Fin n) := if h : x < n then some ⟨x, h⟩ else none

/-- A set of nozzle groups: bits 12..15 have no member (01 R18). -/
def groupsAt (r : List Byte) (o : Nat) : Option GroupSet :=
  if field2 r o < 4096 then some (BitVec.ofNat 12 (field2 r o)) else none

/-- A number of 24 bits in four bytes. -/
def code24At (r : List Byte) (o : Nat) : Option ZoneCode :=
  if field4 r o < 16777216 then some (BitVec.ofNat 24 (field4 r o)) else none

/-- A channel X0..X15, or NONE numbered 16 (03 R46). -/
def channelAt (r : List Byte) (o : Nat) : Option (Option (Fin 16)) :=
  if field1 r o = 16 then some none else (below 16 (field1 r o)).map some

/-! ### Enumerations read from a record -/

/-- Window actions by number (04 R66). -/
def WindowAction.ofNumber : Nat → Option WindowAction
  | 0 => some .notice
  | 1 => some .derate
  | 2 => some .cutWater
  | 3 => some .liftArms
  | 4 => some .stopTravel
  | 5 => some .halt
  | _ => none

/-- Senses by number (04 R67). -/
def Sense.ofNumber : Nat → Option Sense
  | 0 => some .inside
  | 1 => some .outside
  | _ => none

/-- Consumers by number (06 R86). -/
def consumerOfNumber : Nat → Option Consumer
  | 0 => some .travel
  | 1 => some .main
  | 2 => some .armL
  | 3 => some .armR
  | 4 => some .water
  | _ => none

/-- Arms used by number (06 R86). -/
def ArmsUsed.ofNumber : Nat → Option ArmsUsed
  | 0 => some .l
  | 1 => some .r
  | 2 => some .both
  | 3 => some .none
  | _ => Option.none

/-- Associations by number (10 R159). -/
def Association.ofNumber : Nat → Option Association
  | 0 => some .none
  | 1 => some .main
  | 2 => some .armL
  | 3 => some .armR
  | _ => Option.none

/-! ### Records as written -/

/-- The writable fields of a SCAN_LIST record (03 R49). -/
structure ScanListWrite where
  channel : Option (Fin 16)
  sample  : Fin 4
  deriving DecidableEq, Repr

/-- The writable fields of a SCAN_CONTROL record (03 section 3.6). -/
structure ScanControlWrite where
  period     : Nat
  staleLimit : Nat
  single     : Bool
  deriving DecidableEq, Repr

/-- The writable fields of an ASSIGNMENTS record (04 R67). -/
structure AssignmentWrite where
  window : Option (Fin 6)
  sense  : Sense
  deriving DecidableEq, Repr

/-- The writable fields of a PULSE record (05 section 5.2). -/
structure PulseWrite where
  motorPpm  : Nat
  groundPpm : Nat
  window    : Nat
  lossTime  : Nat
  deriving DecidableEq, Repr

/-- A record that has passed the checks of 01 R18, by table. -/
inductive RecordWrite
  | limits (x : Limits)
  | roleMap (x : RoleEntry)
  | scanList (x : ScanListWrite)
  | scanControl (x : ScanControlWrite)
  | windows (x : Window)
  | assignments (x : AssignmentWrite)
  | pulse (x : PulseWrite)
  | profiles (x : Profile)
  | zones (x : Zone)
  | zoneMask (x : ZoneCode)
  /-- the trim floor sent; none for row 0, whose floor is read-only -/
  | budget (floor : Option Nat)
  | coefficients (x : Coefficients)
  | travel (x : TravelSettings)
  | driveMap (x : DriveMap)
  | implements (x : ArmSettings)
  | water (x : WaterSettings)
  | association (x : Association)
  deriving DecidableEq, Repr

/-- LIMITS (02 section 2.8). -/
def parseLimits (r : List Byte) : Option Limits := do
  let fwd ← inRange 0 12000 (field2 r 0)
  let rev ← inRange 0 12000 (field2 r 2)
  let transport ← inRange 0 12000 (field2 r 4)
  let press ← inRange 0 25000 (field2 r 6)
  let main ← inRange 0 1000 (field2 r 8)
  let side ← inRange 0 1000 (field2 r 10)
  some ⟨fwd, rev, transport, press, main, side⟩

/-- ROLE_MAP (03 R46). -/
def parseRoleMap (r : List Byte) : Option RoleEntry := do
  let channel ← channelAt r 0
  let offset ← inRange 0 4095 (field2 r 1)
  some ⟨channel, offset, field2s r 3⟩

/-- SCAN_LIST (03 R49). -/
def parseScanList (r : List Byte) : Option ScanListWrite := do
  let channel ← channelAt r 0
  let sample ← below 4 (field1 r 1)
  some ⟨channel, sample⟩

/-- SCAN_CONTROL (03 section 3.6). -/
def parseScanControl (r : List Byte) : Option ScanControlWrite := do
  let period ← inRange 2 100 (field1 r 0)
  let stale ← inRange 20 500 (field2 r 1)
  let single ← flagAt r 3
  some ⟨period, stale, single⟩

/-- WINDOWS (04 R66). -/
def parseWindows (r : List Byte) : Option Window := do
  let low ← inRange 0 4095 (field2 r 0)
  let high ← inRange 0 4095 (field2 r 2)
  let action ← WindowAction.ofNumber (field1 r 4)
  let derate ← inRange 0 1000 (field2 r 5)
  some ⟨low, high, action, derate⟩

/-- ASSIGNMENTS (04 R67): W0..W5 are 0..5, NONE is 6. -/
def parseAssignments (r : List Byte) : Option AssignmentWrite := do
  let window ← if field1 r 0 = 6 then some none else (below 6 (field1 r 0)).map some
  let sense ← Sense.ofNumber (field1 r 1)
  some ⟨window, sense⟩

/-- PULSE (05 section 5.2). -/
def parsePulse (r : List Byte) : Option PulseWrite := do
  let motor ← inRange 10 2000 (field2 r 0)
  let ground ← inRange 10 2000 (field2 r 2)
  let window ← inRange 20 200 (field1 r 4)
  let loss ← inRange 100 2000 (field2 r 5)
  some ⟨motor, ground, window, loss⟩

/-- PROFILES (06 R86). -/
def parseProfiles (r : List Byte) : Option Profile := do
  let valid ← flagAt r 0
  let cap ← inRange 0 12000 (field2 r 1)
  let main ← inRange 0 1000 (field2 r 3)
  let side ← inRange 0 1000 (field2 r 5)
  let reachL ← inRange 0 1000 (field2 r 7)
  let reachR ← inRange 0 1000 (field2 r 9)
  let press ← inRange 0 25000 (field2 r 11)
  let groups ← groupsAt r 13
  let dose ← inRange 0 200 (field1 r 15)
  let c1 ← consumerOfNumber (field1 r 16)
  let c2 ← consumerOfNumber (field1 r 17)
  let c3 ← consumerOfNumber (field1 r 18)
  let c4 ← consumerOfNumber (field1 r 19)
  let c5 ← consumerOfNumber (field1 r 20)
  let arms ← ArmsUsed.ofNumber (field1 r 21)
  some ⟨valid, cap, main, side, reachL, reachR, press, groups, dose, [c1, c2, c3, c4, c5], arms⟩

/-- ZONES (06 R88). The value bytes of an absent own mask are not tested (log 7). -/
def parseZones (r : List Byte) : Option Zone := do
  let enabled ← flagAt r 0
  let code ← code24At r 1
  let profile ← below 8 (field1 r 5)
  let present ← flagAt r 6
  let own ← if present then (code24At r 7).map some else some none
  some ⟨enabled, code, profile, own⟩

/-- COEFFICIENTS (07 R114). -/
def parseCoefficients (r : List Byte) : Option Coefficients := do
  let ct ← inRange 0 1000 (field2 r 0)
  let cg ← inRange 0 1000 (field2 r 2)
  let cm ← inRange 0 1000 (field2 r 4)
  let cb ← inRange 0 1000 (field2 r 6)
  let cw ← inRange 0 1000 (field2 r 8)
  let fallback ← inRange 0 1000 (field2 r 10)
  let margin ← inRange 0 200 (field1 r 12)
  let hold ← inRange 200 5000 (field2 r 13)
  some ⟨ct, cg, cm, cb, cw, fallback, margin, hold⟩

/-- TRAVEL (08 R121). -/
def parseTravel (r : List Byte) : Option TravelSettings := do
  let lease ← inRange 50 1000 (field2 r 0)
  let up ← inRange 100 3000 (field2 r 2)
  let down ← inRange 100 3000 (field2 r 4)
  let creep ← inRange 100 1000 (field2 r 6)
  let slip ← inRange 5 50 (field1 r 8)
  some ⟨lease, up, down, creep, slip⟩

/-- DRIVE_MAP (08 R122). -/
def parseDriveMap (r : List Byte) : Option DriveMap := do
  let start ← inRange 0 1000 (field2 r 0)
  let full ← inRange 0 1000 (field2 r 2)
  let speed ← inRange 0 12000 (field2 r 4)
  some ⟨start, full, speed⟩

/-- IMPLEMENTS (09 R140). -/
def parseImplements (r : List Byte) : Option ArmSettings := do
  let limit ← inRange 500 8000 (field2 r 0)
  let retry ← inRange 0 7 (field1 r 2)
  let swing ← inRange 0 1000 (field2 r 3)
  let yieldDrive ← inRange 0 1000 (field2 r 5)
  some ⟨limit, retry, swing, yieldDrive⟩

/-- WATER (10 R159). -/
def parseWater (r : List Byte) : Option WaterSettings := do
  let prime ← inRange 300 3000 (field2 r 0)
  let exempt ← groupsAt r 2
  let empty ← inRange 0 1000 (field2 r 4)
  let refill ← inRange 0 1000 (field2 r 6)
  some ⟨prime, exempt, empty, refill⟩

/-- A record of a table read under 01 R18; the fields of a table that is read-only as a whole are not examined. -/
def parseRecord (t : Table) (index : Nat) (r : List Byte) : Option RecordWrite :=
  match t with
  | .limits => (parseLimits r).map .limits
  | .roleMap => (parseRoleMap r).map .roleMap
  | .scanList => (parseScanList r).map .scanList
  | .scanControl => (parseScanControl r).map .scanControl
  | .windows => (parseWindows r).map .windows
  | .assignments => (parseAssignments r).map .assignments
  | .pulse => (parsePulse r).map .pulse
  | .profiles => (parseProfiles r).map .profiles
  | .zones => (parseZones r).map .zones
  | .zoneMask => (code24At r 0).map .zoneMask
  | .budget => if index = 0 then some (.budget none) else (inRange 0 100 (field1 r 13)).map fun f => .budget (some f)
  | .coefficients => (parseCoefficients r).map .coefficients
  | .travel => (parseTravel r).map .travel
  | .driveMap => (parseDriveMap r).map .driveMap
  | .implements => (parseImplements r).map .implements
  | .water => (parseWater r).map .water
  | .association => (Association.ofNumber (field1 r 0)).map .association
  | .ports | .claims | .machine | .publishedSet | .changeQueue | .outcomesL | .outcomesR | .chain => none

/-! ### Operands of requests -/

/-- Domains by number (02 section 2.7). -/
def Domain.ofNumber : Nat → Option Domain
  | 0 => some .travel
  | 1 => some .implements
  | 2 => some .water
  | _ => none

/-- Arm commands by number (09 R151). -/
def ArmCommand.ofNumber : Nat → Option ArmCommand
  | 0 => some .auto
  | 1 => some .out
  | 2 => some .in_
  | _ => none

/-- Main broom commands by number (09 R152). -/
def BroomCommand.ofNumber : Nat → Option BroomCommand
  | 0 => some .auto
  | 1 => some .up
  | _ => none

/-- Sides by number (09 R151). -/
def sideOfNumber : Nat → Option Side
  | 0 => some .left
  | 1 => some .right
  | _ => none

/-- What an OUTPUT names, by its number (02 R37). -/
inductive OutputTarget
  | driveFwd | driveRev | broomM | broomArm (side : Side) | swing (side : Side) | press (side : Side) | pump
  | nozzle (n : Fin 12) | lift (side : Side) | liftM | prime
  deriving DecidableEq, Repr

/-- The target of a number 0..25 (02 R37). -/
def OutputTarget.ofNumber (n : Nat) : Option OutputTarget :=
  match n with
  | 0 => some .driveFwd
  | 1 => some .driveRev
  | 2 => some .broomM
  | 3 => some (.broomArm .left)
  | 4 => some (.broomArm .right)
  | 5 => some (.swing .left)
  | 6 => some (.swing .right)
  | 7 => some (.press .left)
  | 8 => some (.press .right)
  | 9 => some .pump
  | 22 => some (.lift .left)
  | 23 => some (.lift .right)
  | 24 => some .liftM
  | 25 => some .prime
  | n => if h : 10 ≤ n ∧ n < 22 then some (.nozzle ⟨n - 10, by omega⟩) else none

/-- The target may be driven by OUTPUT in SERVICE (02 R37 check 3). -/
def OutputTarget.reachable : OutputTarget → Bool
  | .driveFwd | .driveRev | .pump | .nozzle _ => false
  | .broomM | .broomArm _ | .swing _ | .press _ | .lift _ | .liftM | .prime => true

/-- A value is in the target's range (02 R37 check 4). -/
def OutputTarget.accepts : OutputTarget → Int → Bool
  | .broomM, v | .broomArm _, v | .press _, v => 0 ≤ v && v ≤ 1000
  | .swing _, v => -1000 ≤ v && v ≤ 1000
  | .lift _, v | .liftM, v | .prime, v => v == 0 || v == 1
  | .driveFwd, _ | .driveRev, _ | .pump, _ | .nozzle _, _ => false

end Sys2Proof.Machine
end

