-- ==== Sys2Proof/Machine/Flags.lean ====
section
/-! DEFINITION. Derived flags and values that more than one block or a READ uses: a role's engineering value, the
window monitor's indications and outputs, the lift-confirmed test, the drive map's validity and the readiness faults. -/

namespace Sys2Proof.Machine

/-! ### Lists of names -/

/-- The sixteen channels, also the sixteen chain positions. -/
def sixteen : List (Fin 16) := [0, 1, 2, 3, 4, 5, 6, 7, 8, 9, 10, 11, 12, 13, 14, 15]

/-- The six windows. -/
def sixWindows : List (Fin 6) := [0, 1, 2, 3, 4, 5]

/-- The twelve roles or nozzle groups. -/
def twelve : List (Fin 12) := [0, 1, 2, 3, 4, 5, 6, 7, 8, 9, 10, 11]

/-- The eight profile rows. -/
def eightRows : List (Fin 8) := [0, 1, 2, 3, 4, 5, 6, 7]

/-- A vector with one entry replaced. -/
def setAt {α : Type} {n : Nat} (v : Vector α n) (i : Fin n) (x : α) : Vector α n := v.set i.val x i.isLt

/-- The bits of a set of sixteen for which a test holds. -/
def maskOf (f : Fin 16 → Bool) : Mask :=
  BitVec.ofNat 16 (sixteen.foldl (fun n i => if f i then n + 2 ^ i.val else n) 0)

/-- The number of members of a set of nozzle groups. -/
def groupCount (x : GroupSet) : Nat := (twelve.filter fun i => x.getLsbD i.val).length

/-! ### Roles (03 R46, R47) -/

/-- A role's place in the role map. -/
def Role.index : Role → Fin 12
  | .drivePress => 0
  | .swashAngle => 1
  | .grade => 2
  | .armPosL => 3
  | .armPosR => 4
  | .armPressL => 5
  | .armPressR => 6
  | .broomPressM => 7
  | .tankLevel => 8
  | .waterPress => 9
  | .oilTemp => 10
  | .engineLoadAux => 11

/-- The range of a role's engineering value (03 section 3.1). -/
def Role.range : Role → Int × Int
  | .drivePress | .broomPressM => (0, 60000)
  | .swashAngle | .grade => (-1000, 1000)
  | .armPosL | .armPosR | .tankLevel | .engineLoadAux => (0, 1000)
  | .armPressL | .armPressR => (0, 25000)
  | .waterPress => (0, 5000)
  | .oilTemp => (-400, 1500)

/-- The channel is an entry of the scan list. -/
def Scanner.inList (c : Scanner) (ch : Fin 16) : Bool := c.scanList.any fun e => e.channel == ch

/-- The published raw result of a channel. -/
def Scanner.rawOf (c : Scanner) (ch : Fin 16) : Option Nat :=
  (c.published.find? fun r => r.channel == ch).map Reading.raw

/-- The calibration of 03 R47: the quotient truncates toward zero, then is clamped. -/
def engineering (offset : Nat) (scale : Int) (range : Int × Int) (raw : Nat) : Int :=
  clamp range.1 range.2 (Int.tdiv (((raw : Int) - offset) * scale) 1000)

/-- The engineering value of a role, or none (03 R47). -/
def Scanner.roleValue (c : Scanner) (r : Role) : Option Int :=
  let e := c.roleMap.get r.index
  match e.channel with
  | none => none
  | some ch => if c.inList ch then (c.rawOf ch).map (engineering e.offset e.scale r.range) else none

/-- The role has a channel and that channel is in the scan list (02 R30, ROLES). -/
def Scanner.roleReady (c : Scanner) (r : Role) : Bool :=
  match (c.roleMap.get r.index).channel with
  | none => false
  | some ch => c.inList ch

/-- The seven roles START requires (02 R30). -/
def requiredRoles : List Role := [.drivePress, .grade, .armPosL, .armPosR, .armPressL, .armPressR, .tankLevel]

/-! ### Window monitor (04 R70) -/

/-- A window's indication: some channel assigned to it has its latch set. -/
def Monitor.indication (m : Monitor) (w : Fin 6) : Bool :=
  sixteen.any fun c => (m.assignments.get c).window == some w && (m.assignments.get c).latched

/-- Some window of the action has an active indication. -/
def Monitor.acting (m : Monitor) (a : WindowAction) : Bool :=
  sixWindows.any fun w => (m.windows.get w).action == a && m.indication w

/-- The sum of the derate amounts of the active DERATE windows, not clamped (04 R71). -/
def Monitor.derateTotal (m : Monitor) : Nat :=
  (sixWindows.map fun w =>
    if (m.windows.get w).action == .derate && m.indication w then (m.windows.get w).derate else 0).sum

/-- The five outputs as the records stand. -/
def Monitor.derive (m : Monitor) : MonitorOutputs where
  derate := m.derateTotal
  cutWater := m.acting .cutWater
  liftArms := m.acting .liftArms
  stopTravel := m.acting .stopTravel
  halt := m.acting .halt

/-! ### Implements (08 R132) -/

/-- A side arm does not stand against reversing: STOWED, RAISED, or FAULT with its LIFT position not failed. -/
def armConfirmed (a : ArmState) (liftFailed : Bool) : Bool :=
  match a with
  | .stowed | .raised => true
  | .fault => !liftFailed
  | .swingingOut | .lowering | .working | .yielding | .raising | .swingingIn | .retryWait => false

/-- The main broom does not stand against reversing: UP, or FAULT with LIFT_M not failed. -/
def mainConfirmed (b : BroomState) (liftFailed : Bool) : Bool :=
  match b with
  | .up => true
  | .fault => !liftFailed
  | .lowering | .down | .lifting => false

/-- Lift-confirmed (08 R132). -/
def ImplementReport.liftConfirmed (r : ImplementReport) : Bool :=
  armConfirmed r.armL r.liftLFailed && armConfirmed r.armR r.liftRFailed && mainConfirmed r.main r.liftMFailed

/-- The implements not lift-confirmed: 1 left arm, 2 right arm, 4 main broom, added (08 R133). -/
def ImplementReport.unconfirmed (r : ImplementReport) : Nat :=
  (if armConfirmed r.armL r.liftLFailed then 0 else 1) + (if armConfirmed r.armR r.liftRFailed then 0 else 2) +
    (if mainConfirmed r.main r.liftMFailed then 0 else 4)

/-- The arm counts as done for stow completion (02 R35). -/
def ArmState.stowDone (a : ArmState) : Bool := a == .stowed || a == .fault

/-- The main broom counts as done for stow completion (02 R35). -/
def BroomState.stowDone (b : BroomState) : Bool := b == .up || b == .fault

/-! ### Readiness (02 R30, section 2.2) -/

/-- The drive map may be used (08 R122). -/
def DriveMap.valid (m : DriveMap) : Bool := 100 ≤ m.fullSpeed && 1 ≤ m.full && m.start ≤ m.full

/-- The readiness faults: ESTOP 1, HALT_TRIP 2, ROLES 4, PROFILE_0 8, DRIVE_MAP 16, added. -/
def State.readiness (s : State) : Nat :=
  (if s.mc.estopAsserted then 1 else 0) + (if s.mc.haltTrip then 2 else 0) +
    (if requiredRoles.all s.scanner.roleReady then 0 else 4) + (if (s.selector.rows.get 0).valid then 0 else 8) +
    (if s.governor.map.valid then 0 else 16)

/-- The lock byte: 1 soft, 2 hard, added (02 R44). -/
def ModeController.lockByte (m : ModeController) : Nat :=
  (if m.softLock then 1 else 0) + (if m.hardLock then 2 else 0)

end Sys2Proof.Machine
end

