-- ==== Sys2Proof/Machine/Budget.lean ====
section
/-! DEFINITION. The budget table (07): reserve, ceiling, the recompute, demands, ranks, writes, START and RESTART. -/

namespace Sys2Proof.Machine

/-! ### The recompute (07 R109 to R112) -/

/-- The consumers, in row order. -/
def consumers : List Consumer := [.travel, .main, .armL, .armR, .water]

/-- The rows in rank order (07 R109). -/
def BudgetRows.order (r : BudgetRows) : List Consumer :=
  [1, 2, 3, 4, 5].filterMap fun k => consumers.find? fun c => (r.get c).rank == k

/-- The sum of the five grants. -/
def BudgetRows.granted (r : BudgetRows) : Nat :=
  r.travel.grant + r.main.grant + r.armL.grant + r.armR.grant + r.water.grant

/-- A row that is FULL or TRIMMED at its turn (07 R109). -/
def BudgetRow.allocate (r : BudgetRow) (k : Coefficients) (now : Time) (p : Nat) : BudgetRow :=
  if r.demand ≤ p then { r with grant := r.demand, state := .full }
  else if r.demand * r.floor ≤ p * 100 then { r with grant := p, state := .trimmed }
  else { r with grant := 0, state := .held, holdExpiry := some (after now k.holdTime), holdTimer := true, holdOver := false }

/-- A hold ends: FULL, with no expiry and no timer. -/
def BudgetRow.endHold (r : BudgetRow) (grant : Nat) : BudgetRow :=
  { r with grant := grant, state := .full, holdExpiry := none, holdTimer := false, holdOver := false }

/-- A row that is HELD at its turn (07 R110). -/
def BudgetRow.tryResume (r : BudgetRow) (k : Coefficients) (p : Nat) : BudgetRow :=
  if r.holdOver && r.demand + k.margin ≤ p then r.endHold r.demand else { r with grant := 0 }

/-- A row at its turn, with `p` points remaining. -/
def BudgetRow.decide (r : BudgetRow) (k : Coefficients) (now : Time) (p : Nat) : BudgetRow :=
  match r.state with
  | .held => r.tryResume k p
  | .full | .trimmed => r.allocate k now p

/-- The notice of a row's turn (07 R112). -/
def rowNotice (c : Consumer) (old new : BudgetRow) : List Offer :=
  match old.state, new.state with
  | .held, .full => [.post .consumerResumed (consumerNumber c) new.grant]
  | .full, .held | .trimmed, .held => [.post .consumerHeld (consumerNumber c) new.demand]
  | _, _ => []

/-- The walk over the rows in the given order, with `p` points remaining. -/
def BudgetRows.walk (k : Coefficients) (now : Time) : List Consumer → Nat → BudgetRows → Emit BudgetRows
  | [], _, rows => .pure rows
  | c :: cs, p, rows =>
    let new := (rows.get c).decide k now p
    let rest := BudgetRows.walk k now cs (p - new.grant) (rows.set c new)
    ⟨rest.val, rowNotice c (rows.get c) new ++ rest.out⟩

/-- A row's grant and state, as a consumer block is offered them. -/
def BudgetRow.copy (r : BudgetRow) : GrantCopy := ⟨r.grant, r.state⟩

/-- The offers of the rows in which grant or state has changed (07 R111): the order is log 41's, and the sequencer's
three rows are one offer (log 44). -/
def grantOffers (old new : BudgetRows) : List Offer :=
  offerIf (new.travel.copy != old.travel.copy) (.governorGrant new.travel.copy) ++
    offerIf (new.main.copy != old.main.copy || new.armL.copy != old.armL.copy || new.armR.copy != old.armR.copy)
      (.sequencerGrants new.main.copy new.armL.copy new.armR.copy) ++
    offerIf (new.water.copy != old.water.copy) (.waterGrant new.water.copy)

/-- A recompute (07 R109), whose changes are offered against the rows as last offered. -/
def Budget.recomputeFrom (b : Budget) (offered : BudgetRows) (now : Time) : Emit Budget :=
  let w := BudgetRows.walk b.coefficients now b.rows.order b.ceiling b.rows
  ⟨{ b with rows := w.val }, w.out ++ grantOffers offered w.val⟩

/-- A recompute. -/
def Budget.recompute (b : Budget) (now : Time) : Emit Budget := b.recomputeFrom b.rows now

/-! ### Ceiling (07 R103) -/

/-- The ceiling is re-derived; a change is followed by a recompute. -/
def Budget.rederive (b : Budget) (now : Time) : Emit Budget :=
  let c := b.reserve - b.derate
  if c = b.ceiling then .pure b else Budget.recompute { b with ceiling := c } now

/-- A new derate total is offered (04 R71). -/
def Budget.takeDerate (b : Budget) (now : Time) (total : Nat) : Emit Budget :=
  Budget.rederive { b with derate := total } now

/-! ### Demands (07 R106) -/

/-- The demand a recompute uses. -/
def demandIn (m : Mode) (c : Consumer) (offered : Nat) : Nat :=
  match m with
  | .sweep => offered
  | .transport | .stowing =>
    match c with
    | .travel | .water => offered
    | .main | .armL | .armR => 0
  | .halted | .service => 0

/-- A consumer's block offers a demand. -/
def Budget.takeDemand (b : Budget) (now : Time) (c : Consumer) (points : Nat) : Emit Budget :=
  let r := b.rows.get c
  let d := demandIn b.mode c points
  let b' := { b with rows := b.rows.set c { r with offered := points, demand := d } }
  if d = r.demand then .pure b' else b'.recompute now

/-- The row with its demand derived for a mode. -/
def BudgetRow.forMode (r : BudgetRow) (m : Mode) (c : Consumer) : BudgetRow :=
  { r with demand := demandIn m c r.offered }

/-- The rows with their demands derived for a mode. -/
def BudgetRows.forMode (r : BudgetRows) (m : Mode) : BudgetRows where
  travel := r.travel.forMode m .travel
  main := r.main.forMode m .main
  armL := r.armL.forMode m .armL
  armR := r.armR.forMode m .armR
  water := r.water.forMode m .water

/-- The mode controller offers a mode. -/
def Budget.takeMode (b : Budget) (now : Time) (m : Mode) : Emit Budget :=
  let rows := b.rows.forMode m
  let b' := { b with mode := m, rows := rows }
  if rows = b.rows then .pure b' else b'.recompute now

/-! ### Ranks (07 R107) -/

/-- A consumer's rank under a shed order: its position, counted from 1. -/
def rankIn (order : List Consumer) (c : Consumer) : Nat := order.idxOf c + 1

/-- The rows with the ranks of a shed order. -/
def BudgetRows.ranked (r : BudgetRows) (order : List Consumer) : BudgetRows where
  travel := { r.travel with rank := rankIn order .travel }
  main := { r.main with rank := rankIn order .main }
  armL := { r.armL with rank := rankIn order .armL }
  armR := { r.armR with rank := rankIn order .armR }
  water := { r.water with rank := rankIn order .water }

/-- The profile selector offers a shed order. -/
def Budget.takeRanks (b : Budget) (now : Time) (order : List Consumer) : Emit Budget :=
  let rows := b.rows.ranked order
  if rows = b.rows then .pure b else Budget.recompute { b with rows := rows } now

/-! ### Reserve (07 R101, R102) -/

/-- The lease of a report, in ms. -/
def reserveLease : Nat := 500

/-- A RESERVE whose value is in range (07 R101). -/
def Budget.report (b : Budget) (now : Time) (p : Port) (points : Nat) : Emit Budget :=
  let back : List Offer :=
    match b.source with
    | .fallback => [.post .reserveBack (portNumber p) points]
    | .reported => []
  let e := Budget.rederive
    { b with reserve := points, source := .reported, lastReporter := some p,
             leaseExpiry := some (after now reserveLease) } now
  ⟨e.val, back ++ e.out⟩

/-- The reserve lease expires (07 R102). -/
def Budget.leaseEnds (b : Budget) (now : Time) : Emit Budget :=
  if due now b.leaseExpiry then
    let e := Budget.rederive
      { b with reserve := b.coefficients.fallback, source := .fallback, leaseExpiry := none } now
    ⟨e.val, .post .reserveLost (b.lastReporter.elim 0 portNumber) b.coefficients.fallback :: e.out⟩
  else .pure b

/-- A held row whose hold expiry is reached has expired (07 R110). -/
def BudgetRow.expire (r : BudgetRow) (now : Time) : BudgetRow :=
  { r with holdOver := r.holdOver || (r.state == .held && due now r.holdExpiry) }

/-- The rows with every hold expired that is reached. -/
def BudgetRows.expire (r : BudgetRows) (now : Time) : BudgetRows where
  travel := r.travel.expire now
  main := r.main.expire now
  armL := r.armL.expire now
  armR := r.armR.expire now
  water := r.water.expire now

/-- A row's hold timer expires (07 R110): the recompute finds every hold expired whose expiry is reached. Before the
first of these events the holds have not expired, at whatever event (R113; log 30). -/
def Budget.holdEnds (b : Budget) (now : Time) (c : Consumer) : Emit Budget :=
  let r := b.rows.get c
  if r.state == .held && r.holdTimer && due now r.holdExpiry then
    Budget.recompute { b with rows := (b.rows.set c { r with holdTimer := false }).expire now } now
  else .pure b

/-! ### Writes (07 R105, R115) -/

/-- A WRITE of BUDGET (07 R105): row 0 keeps its trim floor. -/
def Budget.writeFloor (b : Budget) (c : Consumer) (floor : Option Nat) : Emit Budget × Reply :=
  match c, floor with
  | .travel, _ | _, none => (.pure b, .done)
  | c, some f => (.pure { b with rows := b.rows.set c { b.rows.get c with floor := f } }, .done)

/-- A WRITE of COEFFICIENTS (07 R115): the coefficients are offered before the recompute's grants (log 41). -/
def Budget.writeCoefficients (b : Budget) (now : Time) (mode : Mode) (k : Coefficients) : Emit Budget × Reply :=
  if !mode.configurable then (.pure b, .no .wrongMode)
  else
    let b' := { b with coefficients := k }
    let e : Emit Budget :=
      match b.source with
      | .fallback => Budget.rederive { b' with reserve := k.fallback } now
      | .reported => .pure b'
    (⟨e.val, [.governorCoefficients k.ct k.cg, .sequencerCoefficients k.cm k.cb, .waterCoefficient k.cw] ++ e.out⟩,
      .done)

/-! ### START and RESTART (07 R108, R117) -/

/-- START: the TRANSPORT offer and the shed order of row 0, and a recompute whatever has changed (02 R31). -/
def Budget.start (b : Budget) (now : Time) (order : List Consumer) : Emit Budget :=
  Budget.recompute { b with mode := .transport, rows := (b.rows.forMode .transport).ranked order } now

/-- A row cleared at RESTART. -/
def BudgetRow.clear (r : BudgetRow) : BudgetRow := { r with offered := 0, demand := 0 }.endHold 0

/-- RESTART: the rows are cleared and a recompute offers what has changed. -/
def Budget.restart (b : Budget) (now : Time) : Emit Budget :=
  Budget.recomputeFrom
    { b with rows := ⟨b.rows.travel.clear, b.rows.main.clear, b.rows.armL.clear, b.rows.armR.clear,
                      b.rows.water.clear⟩ }
    b.rows now

end Sys2Proof.Machine
end

