-- ==== Sys2Proof/Machine/Chain.lean ====
section
/-! DEFINITION. The valve chain driver (10 section 10.6): wanted pattern, refreshes, checks, the failed set. -/

namespace Sys2Proof.Machine

/-! ### Positions -/

/-- The bits of N0..N11. -/
def nozzleMask : Mask := 0x0FFF
/-- The bits of LIFT_L, LIFT_R, LIFT_M. -/
def liftMask : Mask := 0x7000
/-- The bit of PRIME. -/
def primeMask : Mask := 0x8000

/-- The nozzle bits of a pattern as a set of groups. -/
def nozzlesOf (x : Mask) : GroupSet := x.truncate 12

/-- A pattern of the water controller's positions. -/
def waterPattern (nozzles : GroupSet) (prime : Bool) : Mask := nozzles.zeroExtend 16 ||| (if prime then primeMask else 0)

/-- A pattern of the implement sequencer's positions. -/
def liftPattern (l r m : Bool) : Mask :=
  (if l then 0x1000 else 0) ||| (if r then 0x2000 else 0) ||| (if m then 0x4000 else 0)

/-! ### Wanted pattern and refresh start (10 R169, R170) -/

/-- A refresh starts with a copy of the wanted pattern. -/
def Chain.startRefresh (c : Chain) : Chain := { c with shifted := c.wanted, shifting := true }

/-- A refresh is asked for: it starts while IDLE, and is pending while SHIFTING. -/
def Chain.wantRefresh (c : Chain) : Chain := if c.shifting then { c with waiting := true } else c.startRefresh

/-- The wanted pattern as requests, mode and failed set stand (10 R169). -/
def Chain.wantedNow (c : Chain) : Mask := if c.mode = .halted then 0 else c.requested &&& ~~~c.failed

/-- The wanted pattern is recomposed; a change asks for a refresh. -/
def Chain.recompose (c : Chain) : Chain :=
  let w := c.wantedNow
  if w = c.wanted then c else Chain.wantRefresh { c with wanted := w }

/-- The water controller's requests: what changes of them at one event is one request, with one recompose (10 R169;
log 40). -/
def Chain.takeWater (c : Chain) (nozzles : GroupSet) (prime : Bool) : Chain :=
  Chain.recompose { c with requested := (c.requested &&& liftMask) ||| waterPattern nozzles prime }

/-- The implement sequencer's requests: what changes of them at one event is one request, with one recompose (10 R169;
log 40). -/
def Chain.takeLifts (c : Chain) (l r m : Bool) : Chain :=
  Chain.recompose { c with requested := (c.requested &&& ~~~liftMask) ||| liftPattern l r m }

/-- A mode offer: SERVICE is entered and left with every request off, since the service values begin and end there
(02 R36, R37; log 10). -/
def Chain.takeMode (c : Chain) (m : Mode) : Chain :=
  Chain.recompose
    { c with mode := m, requested := if (m == .service) != (c.mode == .service) then 0 else c.requested }

/-- The refresh timer interval, in ms. -/
def refreshInterval : Nat := 20

/-- The refresh timer expires (10 R170). -/
def Chain.timerExpiry (c : Chain) (now : Time) : Chain :=
  if reached now c.timer then Chain.wantRefresh { c with timer := after c.timer refreshInterval } else c

/-! ### Completion (10 R171) -/

/-- Steps 1 and 2. -/
def Chain.load (c : Chain) (echo fault : Mask) : Chain :=
  { c with prevLoaded := c.loaded, loaded := c.shifted, echo := echo, fault := fault }

/-- A position shows a mismatch. -/
def Chain.mismatch (c : Chain) (i : Fin 16) : Bool :=
  c.echo.getLsbD i.val != c.prevLoaded.getLsbD i.val || c.fault.getLsbD i.val

/-- A position's count after its check (step 3); a failed position is not checked. -/
def Chain.nextCount (c : Chain) (i : Fin 16) : Nat :=
  if c.failed.getLsbD i.val then c.counts.get i else if c.mismatch i then c.counts.get i + 1 else 0

/-- The count at which a position is declared failed. -/
def failCount : Nat := 2

/-- A position enters the failed set at this completion (step 4). -/
def Chain.fails (c : Chain) (i : Fin 16) : Bool := !c.failed.getLsbD i.val && failCount ≤ c.nextCount i

/-- The value of CHAIN_FAILED: 0 an echo mismatch, 1 a fault bit, 2 both. -/
def Chain.failValue (c : Chain) (i : Fin 16) : Nat :=
  if c.fault.getLsbD i.val then (if c.echo.getLsbD i.val != c.prevLoaded.getLsbD i.val then 2 else 1) else 0

/-- The failed set offered to the owners of the positions in `changed`: one offer to an owner for all of its positions,
the sequencer's before the water controller's (10 R171; log 44). -/
def Chain.ownerOffers (c : Chain) (changed : Mask) : List Offer :=
  offerIf (changed &&& liftMask != 0)
      (.sequencerLiftFailed (c.failed.getLsbD 12) (c.failed.getLsbD 13) (c.failed.getLsbD 14)) ++
    offerIf (changed &&& ~~~liftMask != 0) (.waterFailed (nozzlesOf c.failed) (c.failed.getLsbD 15))

/-- Steps 1 to 4. The driver stays SHIFTING, so a wanted pattern that changes waits for step 5. The CHAIN_FAILED
notices of one completion are posted in chain order (log 33). -/
def Chain.complete (c : Chain) (echo fault : Mask) : Emit Chain :=
  let c := c.load echo fault
  let new := maskOf c.fails
  let posts : List Offer := (sixteen.filter c.fails).map fun i => .post .chainFailed i.val (c.failValue i)
  let c := Chain.recompose { c with counts := Vector.ofFn c.nextCount, failed := c.failed ||| new }
  ⟨c, posts ++ c.ownerOffers new⟩

/-- Step 5: a pending refresh starts, or the driver goes IDLE. -/
def Chain.afterCompletion (c : Chain) : Chain :=
  if c.waiting then Chain.startRefresh { c with waiting := false } else { c with shifting := false }

/-! ### CLEAR_FAILED and RESTART (02 R38, 10 R171) -/

/-- Positions leave the failed set, their counts become 0, and their owners are told. -/
def Chain.unfail (c : Chain) (set : Mask) : Emit Chain :=
  let removed := c.failed &&& set
  let c := Chain.recompose
    { c with failed := c.failed &&& ~~~set
             counts := Vector.ofFn fun i => if removed.getLsbD i.val then 0 else c.counts.get i }
  ⟨c, c.ownerOffers removed⟩

/-- CLEAR_FAILED (02 R38). -/
def Chain.clearFailed (c : Chain) (mode : Mode) (set : Mask) : Emit Chain × Reply :=
  if mode = .service then
    let e := c.unfail set
    (e, .okWith (bytes2 e.val.failed.toNat))
  else (.pure c, .no .wrongMode)

/-- RESTART (10 R171): the failed set is emptied and every count becomes 0. -/
def Chain.restart (c : Chain) : Emit Chain :=
  (c.unfail 0xFFFF).andThen fun c => .pure { c with counts := Vector.replicate 16 0 }

end Sys2Proof.Machine
end

