-- ==== Sys2Proof/Machine/Governor.lean ====
section
/-! DEFINITION. The travel governor (08): ceiling, target, demand, coils, states, reversing, traction cut. -/

namespace Sys2Proof.Machine

/-! ### Ceiling, target and demand (08 R124 to R126) -/

/-- The ceiling direction is reverse (08 R124). -/
def Governor.reverseward (g : Governor) : Bool :=
  match g.state with
  | .forward => false
  | .reverse => true
  | .standstill | .stopping | .directionHold _ => g.command < 0

/-- The grade term in a direction (08 R126). An absent grade counts as 0. -/
def Governor.gradeTerm (g : Governor) (reverse : Bool) : Nat :=
  let grade := g.copies.grade.getD 0
  ((max 0 (if reverse then -grade else grade)) * g.copies.cg / 100).toNat

/-- The direction cap (08 R124). -/
def Governor.directionCap (g : Governor) (reverse : Bool) : Nat :=
  match g.copies.mode with
  | .transport => g.copies.transportCap
  | .sweep | .stowing | .halted | .service =>
    if reverse then g.copies.revCap else min g.copies.speedCap g.copies.fwdCap

/-- A side arm in FAULT stands out of stow. -/
def ImplementReport.faultOut (r : ImplementReport) : Bool := r.outL || r.outR

/-- The creep term applies (08 R124). -/
def Governor.creeping (g : Governor) : Bool :=
  g.copies.stale || g.copies.ground == .lost || g.copies.implements.faultOut

/-- A term that applies under a condition. -/
def termIf (c : Bool) (t : CeilingTerm) (v : Nat) : List (CeilingTerm × Nat) := if c then [(t, v)] else []

/-- The grant speed (08 R124). -/
def Governor.grantSpeed (g : Governor) (reverse : Bool) : Nat :=
  (g.copies.grant - g.gradeTerm reverse) * 1000 / g.copies.ct

/-- The grant term, while the grant is less than the demand and Ct is not 0. -/
def Governor.grantTerm (g : Governor) (reverse : Bool) : List (CeilingTerm × Nat) :=
  termIf (g.copies.grant < g.demand && g.copies.ct != 0) .grant (g.grantSpeed reverse)

/-- The terms that apply before the grant's, in the order of the limiting term field. -/
def Governor.earlyTerms (g : Governor) (reverse : Bool) : List (CeilingTerm × Nat) :=
  termIf (!g.copies.mode.working) .mode 0 ++ termIf g.copies.stopTravel .stopTrip 0 ++
    termIf (reverse && !g.copies.implements.liftConfirmed) .interlock 0 ++
    termIf g.creeping .creep g.settings.creep

/-- The direction cap, in the working modes. -/
def Governor.capTerm (g : Governor) (reverse : Bool) : List (CeilingTerm × Nat) :=
  termIf g.copies.mode.working .direction (g.directionCap reverse)

/-- The least term, the first in order where several are least; at most 12000. -/
def leastTerm : List (CeilingTerm × Nat) → CeilingTerm × Nat
  | [] => (.mode, 12000)
  | [x] => (x.1, min 12000 x.2)
  | x :: y :: rest =>
    let best := leastTerm (y :: rest)
    if x.2 ≤ best.2 then x else best

/-- The travel ceiling and its limiting term (08 R124). -/
def Governor.ceilingNow (g : Governor) : CeilingTerm × Nat :=
  let r := g.reverseward
  leastTerm (g.earlyTerms r ++ g.grantTerm r ++ g.capTerm r)

/-- The wanted speed (08 R125 stage 1). -/
def Governor.wanted (g : Governor) : Nat :=
  match g.state with
  | .forward | .reverse =>
    let r := g.reverseward
    min g.request.natAbs (leastTerm (g.earlyTerms r ++ g.capTerm r)).2
  | .standstill | .stopping | .directionHold _ => 0

/-- The base target (08 R125 stage 2). -/
def Governor.baseTarget (g : Governor) : Nat := g.wanted * (10 - g.cutLevel) / 10

/-- The speed target (08 R125 stage 3). -/
def Governor.targetNow (g : Governor) : Int :=
  let m : Int := min g.baseTarget g.ceiling
  if g.reverseward then -m else m

/-- The travel demand (08 R126). -/
def Governor.demandNow (g : Governor) : Nat :=
  if g.baseTarget = 0 then 0
  else min 1000 (g.baseTarget * g.copies.ct / 1000 + g.gradeTerm g.reverseward)

/-! ### Command and coils (08 R128, R129) -/

/-- The coil of a command magnitude (08 R129). -/
def DriveMap.coil (m : DriveMap) (c : Nat) : Nat :=
  if m.fullSpeed ≤ c then m.full else m.start + (m.full - m.start) * c / m.fullSpeed

/-- The drive coils are set from the command (08 R129). -/
def Governor.setCoils (g : Governor) : Governor :=
  { g with
    driveFwd := if 0 < g.command then g.map.coil g.command.natAbs else 0
    driveRev := if g.command < 0 then g.map.coil g.command.natAbs else 0 }

/-- A magnitude with the sign of a command. -/
def signed (sign : Int) (m : Nat) : Int := if sign < 0 then -(m : Int) else m

/-- The lift wait, in ms (08 R133). -/
def liftWaitTime : Nat := 3000

/-- In DIRECTION_HOLD heading for reverse with a command of 0 the lift wait runs (08 R133; log 29). -/
def Governor.startLiftWait (g : Governor) (now : Time) : Governor :=
  match g.state, g.liftWait with
  | .directionHold .reverse, none =>
    if g.command = 0 then { g with liftWait := some (after now liftWaitTime) } else g
  | _, _ => g

/-- The ceiling as it stands, held with its term. -/
def Governor.takeCeiling (g : Governor) : Governor :=
  { g with ceiling := g.ceilingNow.2, limiting := g.ceilingNow.1 }

/-- A command above the ceiling is cut to it (08 R128). -/
def Governor.cut (g : Governor) (now : Time) : Governor :=
  if g.ceiling < g.command.natAbs then
    ({ g with command := signed g.command g.ceiling }.setCoils).startLiftWait now
  else g

/-- Ceiling, cut, the ceiling again (the cut may have changed the command's direction), target and demand (log 9). -/
def Governor.rederive (g : Governor) (now : Time) : Emit Governor :=
  let g := (g.takeCeiling.cut now).takeCeiling
  let g := { g with target := g.targetNow }
  let d := g.demandNow
  ⟨{ g with demand := d }, offerIf (d != g.demand) (.demand .travel d)⟩

/-! ### Governor states (08 R130, R131, R133) -/

/-- DIRECTION_HOLD heading for reverse is entered (08 R131). -/
def Governor.holdReverse (g : Governor) (now : Time) : Emit Governor :=
  ⟨{ g with state := .directionHold .reverse, liftForReverse := true, liftWait := none }.startLiftWait now,
    offerIf (!g.liftForReverse) (.liftForReverse true)⟩

/-- Another state is entered; the lift wait stops. -/
def Governor.enter (g : Governor) (st : GovernorState) : Emit Governor :=
  .pure { g with state := st, liftWait := none }

/-- STOPPING while the command is not 0, else STANDSTILL. -/
def Governor.settleState (g : Governor) : GovernorState := if g.command = 0 then .standstill else .stopping

/-- The state table of 08 R130, for the request sign `sign`. -/
def Governor.takeSign (g : Governor) (now : Time) (sign : Int) : Emit Governor :=
  if sign = 0 then
    match g.state with
    | .standstill | .stopping => .pure g
    | .forward | .reverse | .directionHold _ => g.enter g.settleState
  else if 0 < sign then
    match g.state with
    | .standstill => g.enter (if g.copies.direction = .reverse then .directionHold .forward else .forward)
    | .forward | .directionHold .forward => .pure g
    | .reverse => g.enter (.directionHold .forward)
    | .stopping => g.enter (if 0 ≤ g.command then .forward else .directionHold .forward)
    | .directionHold .reverse => g.enter .forward
  else
    match g.state with
    | .standstill | .forward => g.holdReverse now
    | .reverse | .directionHold .reverse => .pure g
    | .stopping => if g.command < 0 then g.enter .reverse else g.holdReverse now
    | .directionHold .forward =>
      if g.command < 0 || g.copies.implements.liftConfirmed then g.enter .reverse else g.holdReverse now

/-- A new request (08 R130): the reverse-blocked latch clears at a request of 0 or above, and while set makes a
negative request count as 0 (08 R133). -/
def Governor.newRequest (g : Governor) (now : Time) (r : Int) : Emit Governor :=
  let g := { g with request := r, reverseBlocked := g.reverseBlocked && r < 0 }
  (g.takeSign now (if g.reverseBlocked then 0 else r)).andThen fun g => g.rederive now

/-- The begin test (08 R131). -/
def Governor.beginTest (g : Governor) : Governor :=
  match g.state with
  | .directionHold .forward =>
    if g.command = 0 && g.copies.motorSpeed == 0 then { g with state := .forward, liftWait := none } else g
  | .directionHold .reverse =>
    if g.command = 0 && g.copies.motorSpeed == 0 && g.copies.implements.liftConfirmed then
      { g with state := .reverse, liftWait := none }
    else g
  | .standstill | .forward | .reverse | .stopping => g

/-- REVERSE is refused or abandoned: STANDSTILL with the latch set and REVERSE_BLOCKED posted (08 R132, R133). -/
def Governor.blockReverse (g : Governor) (subject : Nat) : Emit Governor :=
  ⟨{ g with state := .standstill, liftWait := none, reverseBlocked := true },
    [.post .reverseBlocked subject g.copies.implements.unconfirmed]⟩

/-- The lift wait expires (08 R133). -/
def Governor.liftWaitExpiry (g : Governor) (now : Time) : Emit Governor :=
  match g.state with
  | .directionHold .reverse =>
    if due now g.liftWait then (g.blockReverse 0).andThen fun g => g.rederive now else .pure g
  | .standstill | .forward | .reverse | .stopping | .directionHold .forward => .pure g

/-! ### Requests and the lease (08 R118 to R120) -/

/-- An accepted TRAVEL: a repeated request renews the lease and changes nothing else. -/
def Governor.travel (g : Governor) (now : Time) (r : Int) : Emit Governor :=
  let g := { g with leaseExpiry := some (after now g.settings.lease) }
  if r = g.request then .pure g else g.newRequest now r

/-- The request's lease expires (08 R119; log 22 for a request without holder). -/
def Governor.leaseEnds (g : Governor) (now : Time) (holder : Option Port) : Emit Governor :=
  if due now g.leaseExpiry then
    let e := Governor.newRequest { g with leaseExpiry := none } now 0
    ⟨e.val, .post .leaseExpired (holder.elim 0 portNumber) g.request :: e.out⟩
  else .pure g

/-- The holder of TRAVEL changes (08 R120). -/
def Governor.holderChanged (g : Governor) (now : Time) : Emit Governor :=
  Governor.newRequest { g with leaseExpiry := none } now 0

/-! ### The ramp step (08 R127) -/

/-- The ramp step interval, in ms. -/
def rampInterval : Nat := 10

/-- Step 1: the command moves toward the target. -/
def Governor.moveCommand (g : Governor) : Governor :=
  let t := g.target.natAbs
  let c := g.command.natAbs
  if c < t then { g with command := signed g.target (min t (c + g.settings.rampUp * rampInterval / 1000)) }
  else if t < c then { g with command := signed g.command (max t (c - g.settings.rampDown * rampInterval / 1000)) }
  else g

/-- Step 3: what a command of 0 does, by state. A command that a cut between ramp steps has brought to 0 counts as one
that has reached 0 at this step (log 42). -/
def Governor.atRest (g : Governor) (now : Time) : Governor :=
  if g.command = 0 then
    match g.state with
    | .stopping => { g with state := .standstill }
    | .directionHold _ => (g.startLiftWait now).beginTest
    | .standstill | .forward | .reverse => g
  else g

/-- Step 4: lift-for-reverse is cleared once the machine drives forward (08 R134). -/
def Governor.clearLift (g : Governor) : Emit Governor :=
  if g.state = .forward ∧ g.command ≠ 0 ∧ g.liftForReverse then
    ⟨{ g with liftForReverse := false }, [.liftForReverse false]⟩
  else .pure g

/-- The ramp step timer expires (08 R127). -/
def Governor.rampStep (g : Governor) (now : Time) : Emit Governor :=
  match g.rampTimer with
  | none => .pure g
  | some e =>
    if reached now e then
      ((({ g with rampTimer := some (after e rampInterval) }.moveCommand).setCoils.atRest now).clearLift).andThen
        fun g => g.rederive now
    else .pure g

/-! ### Traction cut (08 R135, R136) -/

/-- The least length of a slip window, in ms. -/
def slipWindowTime : Nat := 200

/-- A slip window that takes in a ratio. -/
def SlipWindow.take (w : SlipWindow) (limit slip : Nat) : SlipWindow :=
  { w with allAbove := w.allAbove && limit < slip, allBelow := w.allBelow && slip ≤ limit }

/-- A closed window is judged (08 R135). -/
def Governor.judge (g : Governor) (w : SlipWindow) : Emit Governor :=
  if w.allAbove && g.cutLevel < 5 then
    ⟨{ g with cutLevel := g.cutLevel + 1 }, [.post .tractionCut 0 (g.cutLevel + 1)]⟩
  else if w.allBelow && 0 < g.cutLevel then
    ⟨{ g with cutLevel := g.cutLevel - 1 }, if g.cutLevel = 1 then [.post .tractionRestored 0 0] else []⟩
  else .pure g

/-- A slip window opened at a window end. -/
def SlipWindow.openAt (now : Time) : SlipWindow := ⟨now, true, true⟩

/-- The slip windows at a window end (08 R135, R136). -/
def Governor.slipWindowEnd (g : Governor) (now : Time) : Emit Governor :=
  match g.slipWindow with
  | some w =>
    let w := w.take g.settings.slipLimit g.copies.slip
    if slipWindowTime ≤ interval now w.opened then
      ({ g with slipWindow := some (.openAt now) }).judge w
    else .pure { g with slipWindow := some w }
  | none => .pure (if g.slipArmed then { g with slipWindow := some (.openAt now), slipArmed := false } else g)

/-! ### Offers taken (08 R123) -/

/-- A copy is replaced and everything re-derived. -/
def Governor.takeCopies (g : Governor) (now : Time) (c : TravelCopies) : Emit Governor :=
  Governor.rederive { g with copies := c } now

/-- Motor speed, direction, ground speed and slip ratio (05 R85). -/
def Governor.takeMotor (g : Governor) (now : Time) (speed : Nat) (direction : Direction) (ground slip : Nat)
    (windowEnd : Bool) : Emit Governor :=
  let g := { g with copies := { g.copies with motorSpeed := speed, direction := direction, groundSpeed := ground,
                                              slip := slip } }
  ((if windowEnd then g.slipWindowEnd now else .pure g).andThen fun g => .pure g.beginTest).andThen
    fun g => g.rederive now

/-- Ground status, ground speed and slip ratio, at a loss or a regain (05 R85, 08 R136). -/
def Governor.takeGround (g : Governor) (now : Time) (status : GroundStatus) (ground slip : Nat) : Emit Governor :=
  let g := { g with copies := { g.copies with ground := status, groundSpeed := ground, slip := slip } }
  Governor.rederive
    (match status with
      | .lost => { g with slipWindow := none, slipArmed := false }
      | .present => { g with slipArmed := g.slipArmed || g.copies.mode.working }) now

/-- The implement sequencer's report (08 R131, R132). In DIRECTION_HOLD heading for forward, a report that ends
lift-confirmed cuts a negative command to 0 and is then an implement offer of R131 like any other: with motor speed 0 the
begin test holds and the state becomes FORWARD (log 32). -/
def Governor.takeImplements (g : Governor) (now : Time) (r : ImplementReport) : Emit Governor :=
  let ends := g.copies.implements.liftConfirmed && !r.liftConfirmed
  ((g.takeCopies now { g.copies with implements := r }).andThen fun g =>
    if ends && g.state == .reverse then g.blockReverse 1 else .pure g.beginTest).andThen fun g => g.rederive now

/-! ### HALTED, SERVICE, START (08 R137, R138) -/

/-- The entry of R137, at HALTED and SERVICE (offers: log 41). -/
def Governor.halt (g : Governor) (now : Time) (m : Mode) : Emit Governor :=
  let out := offerIf g.liftForReverse (.liftForReverse false) ++
    (if g.cutLevel = 0 then [] else [.post .tractionRestored 0 0])
  let e := Governor.rederive
    { g with
      copies := { g.copies with mode := m }
      command := 0, target := 0, driveFwd := 0, driveRev := 0
      request := 0, leaseExpiry := none, reverseBlocked := false
      state := .standstill, liftWait := none, liftForReverse := false
      cutLevel := 0, slipWindow := none, slipArmed := false, rampTimer := none } now
  ⟨e.val, out ++ e.out⟩

/-- The mode controller offers a mode. -/
def Governor.takeMode (g : Governor) (now : Time) (m : Mode) : Emit Governor :=
  if m.working then g.takeCopies now { g.copies with mode := m } else g.halt now m

/-- START (08 R138): the ramp step timer starts; a slip window opens at the next window end, or after the regain. -/
def Governor.start (g : Governor) (now : Time) : Emit Governor :=
  Governor.rederive
    { g with copies := { g.copies with mode := .transport }, rampTimer := some (after now rampInterval),
             slipArmed := g.copies.ground == .present } now

/-! ### Writes (08 R121, R122) -/

/-- A WRITE of TRAVEL (08 R121). -/
def Governor.writeSettings (g : Governor) (mode : Mode) (x : TravelSettings) : Emit Governor × Reply :=
  if mode.configurable then (.pure { g with settings := x }, .done) else (.pure g, .no .wrongMode)

/-- A WRITE of DRIVE_MAP (08 R122). -/
def Governor.writeMap (g : Governor) (mode : Mode) (x : DriveMap) : Emit Governor × Reply :=
  if mode.configurable then (.pure { g with map := x }, .okWith [flagByte x.valid]) else (.pure g, .no .wrongMode)

end Sys2Proof.Machine
end

