-- ==== Sys2Proof/Machine/ModeControl.lean ====
section
/-! DEFINITION. The mode controller (02): mode entries, emergency stop, halt trip, stow completion, claims, limits and
locks. Functions on its own record, with the offers they make. -/

namespace Sys2Proof.Machine

/-! ### Mode changes (02 R29) -/

/-- A mode is entered: time and cause are recorded, the mode is offered to the blocks in the order scanner (HALTED
alone), sequencer, governor, water, budget, chain (02 R29, R33, R34, R36; log 41), and MODE_CHANGED is posted last (log
16). -/
def ModeController.enterMode (c : ModeController) (m : Mode) (cause : Cause) : Emit ModeController :=
  ⟨{ c with mode := m, lastChange := c.time, lastCause := cause },
    offerIf (m == .halted) .scannerHalted ++
      [.sequencerMode m, .governorMode m, .waterMode m, .budgetMode m, .chainMode m,
        .post .modeChanged cause.number m.number]⟩

/-- An accepted START (02 R31): START is offered to the blocks in place of the mode; the budget table takes it with the
shed order that the profile selector offers. The valve chain driver takes its offer once they have acted (`exec` of
START). The order of the offers is log 41's; the pulse unit's is taken before the notices of the START event, whose
path mark is therefore 0 (log 37). -/
def ModeController.enterStart (c : ModeController) : Emit ModeController :=
  ⟨{ c with mode := .transport, lastChange := c.time, lastCause := .start },
    [.scannerStart, .pulseStart, .selectorStart, .sequencerStart, .governorStart, .waterStart,
      .post .modeChanged Cause.start.number Mode.transport.number]⟩

/-! ### Emergency stop (02 R28) -/

/-- The time the ESTOP line must stay inactive, in ms. -/
def estopReleaseTime : Nat := 20

/-- The ESTOP line goes to its active level. -/
def ModeController.estopActive (c : ModeController) : Emit ModeController :=
  let d := { c with estopLine := true, estopTimer := none, estopAsserted := true }
  if c.estopAsserted || c.mode == .halted then .pure d else d.enterMode .halted .estop

/-- The ESTOP line goes to its inactive level: in ASSERTED the 20 ms begin. -/
def ModeController.estopInactive (c : ModeController) : ModeController :=
  if c.estopAsserted && c.estopLine then
    { c with estopLine := false, estopTimer := some (after c.time estopReleaseTime) }
  else { c with estopLine := false }

/-- The line has been inactive for 20 ms: RELEASED. -/
def ModeController.estopReleased (c : ModeController) : ModeController :=
  if c.estopAsserted && !c.estopLine && due c.time c.estopTimer then
    { c with estopAsserted := false, estopTimer := none }
  else c

/-! ### Offers taken (02 R35, 04 R73) -/

/-- The window monitor's HALT output. -/
def ModeController.takeHalt (c : ModeController) (active : Bool) : Emit ModeController :=
  let d := { c with haltTrip := active }
  if active && c.mode != .halted then d.enterMode .halted .haltTrip else .pure d

/-- The stow-completion test (02 R35). -/
def ModeController.stowTest (c : ModeController) : Emit ModeController :=
  if c.mode == .stowing && c.armL.stowDone && c.armR.stowDone && c.main.stowDone then
    c.enterMode .transport .stowDone
  else .pure c

/-- The implement sequencer's states. -/
def ModeController.takeImplements (c : ModeController) (l r : ArmState) (m : BroomState) : Emit ModeController :=
  ModeController.stowTest { c with armL := l, armR := r, main := m }

/-! ### Claims (02 R40 to R42) -/

/-- The port holds the domain. -/
def ModeController.holds (c : ModeController) (p : Port) (d : Domain) : Bool := (c.claims.get d).holder == some p

/-- A domain gets a holder at this event. -/
def ModeController.grant (c : ModeController) (d : Domain) (p : Port) : ModeController :=
  { c with claims := c.claims.set d ⟨some p, c.time⟩ }

/-- A domain loses its holder. -/
def ModeController.free (c : ModeController) (d : Domain) : ModeController :=
  { c with claims := c.claims.set d ⟨none, 0⟩ }

/-- CLAIM (02 R40), with the requester's class and the classes of the ports. At a takeover CLAIM_LOST is posted before
the job is informed (log 46). -/
def ModeController.claim (c : ModeController) (classOf : Port → AuthorityClass) (p : Port) (domain : Nat) :
    Emit ModeController × Reply :=
  match Domain.ofNumber domain with
  | none => (.pure c, .no .badValue)
  | some d =>
    if d = .travel ∧ classOf p ≠ .operator then (.pure c, .no .notPermitted)
    else
      match (c.claims.get d).holder with
      | none => (⟨c.grant d p, [.holderChanged d]⟩, .done)
      | some h =>
        if h = p then (.pure c, .done)
        else if classOf h = .route ∧ classOf p = .operator then
          (⟨c.grant d p, [.postTo h .claimLost d.number (portNumber p), .holderChanged d]⟩, .done)
        else (.pure c, ⟨.heldByOther, [byte (portNumber h)]⟩)

/-- RELEASE (02 R41). -/
def ModeController.release (c : ModeController) (p : Port) (domain : Nat) : Emit ModeController × Reply :=
  match Domain.ofNumber domain with
  | none => (.pure c, .no .badValue)
  | some d => if c.holds p d then (⟨c.free d, [.holderChanged d]⟩, .done) else (.pure c, .no .notHolder)

/-- A domain held by a port that enters CUT_OFF is withdrawn (02 R42). -/
def ModeController.withdrawFrom (p : Port) (d : Domain) (c : ModeController) : Emit ModeController :=
  if c.holds p d then ⟨c.free d, [.holderChanged d]⟩ else .pure c

/-- Every domain held by a port that enters CUT_OFF is withdrawn (02 R42), in the order TRAVEL, IMPLEMENTS, WATER
(log 35). -/
def ModeController.withdrawPort (c : ModeController) (p : Port) : Emit ModeController :=
  ((c.withdrawFrom p .travel).andThen (ModeController.withdrawFrom p .implements)).andThen
    (ModeController.withdrawFrom p .water)

/-- A domain is withdrawn at RESTART, with CLAIM_LOST to its holder (02 R39 step 1). -/
def ModeController.withdraw (d : Domain) (c : ModeController) : Emit ModeController :=
  match (c.claims.get d).holder with
  | none => .pure c
  | some h => ⟨c.free d, [.postTo h .claimLost d.number (-1), .holderChanged d]⟩

/-- Every claim is withdrawn at RESTART (02 R39 step 1), in the order TRAVEL, IMPLEMENTS, WATER, with the CLAIM_LOST
notices and the reports to the jobs in that order (log 35). -/
def ModeController.withdrawAll (c : ModeController) : Emit ModeController :=
  ((ModeController.withdraw .travel c).andThen (ModeController.withdraw .implements)).andThen
    (ModeController.withdraw .water)

/-! ### Limits and locks (02 R43 to R45) -/

/-- A WRITE of LIMITS (02 R43; offers: log 41); `tooLow` says that a valid row's speed cap is above the new FWD_CAP. -/
def ModeController.writeLimits (c : ModeController) (tooLow : Bool) (l : Limits) : Emit ModeController × Reply :=
  if c.mode ≠ .service ∨ c.softLock ∨ c.hardLock then (.pure c, .no .locked)
  else if tooLow then (.pure c, .no .badValue)
  else (⟨{ c with limits := l }, [.governorLimits l, .sequencerLimits l]⟩, .done)

/-- LOCK of one kind (02 R44). -/
def ModeController.lock (c : ModeController) (hard : Bool) : ModeController :=
  if hard then { c with hardLock := true } else { c with softLock := true }

/-- UNLOCK (02 R45). -/
def ModeController.unlock (c : ModeController) : ModeController × Reply :=
  if c.hardLock then (c, .no .locked)
  else if c.mode ≠ .service then (c, .no .wrongMode)
  else ({ c with softLock := false }, .okWith [0])

end Sys2Proof.Machine
end

