-- ==== Sys2Proof/Machine/Ports.lean ====
section
/-! DEFINITION. The station port unit (01): receiver, link health, response buffer, notice queue, transmitter.
Functions on one unit; FRAME_END, which reaches the other blocks, is in Requests.lean. -/

namespace Sys2Proof.Machine

/-! ### Receiver (01 R1, R2) -/

/-- The number of bytes of a frame that are stored (01 R2). -/
def storedBytes : Nat := 37

/-- The number of ones among the data bits and the parity bit is even (01 R1). -/
def parityGood (data : Byte) (parityBit : Bool) : Bool :=
  let ones := ([0, 1, 2, 3, 4, 5, 6, 7].filter data.getLsbD).length + parityBit.toNat
  ones % 2 == 0

/-- A character taken as the next byte of the frame in progress (01 R1, R2). -/
def Receiver.take (r : Receiver) (data : Byte) (parityBit stopIdle : Bool) : Receiver :=
  { r with
    bytes := if r.bytes.length < storedBytes then r.bytes ++ [data] else r.bytes
    count := r.count + 1
    errors := r.errors || !parityGood data parityBit || !stopIdle }

/-- A character begins on the receive line (01 R2). In HUNTING it is discarded. -/
def Receiver.startBit (r : Receiver) (data : Byte) (parityBit stopIdle : Bool) : Receiver :=
  match r.state with
  | .hunting => r
  | .ready => Receiver.take ⟨.receiving, [], 0, false⟩ data parityBit stopIdle
  | .receiving => r.take data parityBit stopIdle

/-- The line has been idle for 2 character times: HUNTING goes READY (01 R2). -/
def Receiver.idle (r : Receiver) : Receiver :=
  match r.state with
  | .hunting => { r with state := .ready }
  | .ready | .receiving => r

/-- The receiver after a frame end (01 R2): READY, with no frame in progress. -/
def Receiver.ended : Receiver := ⟨.ready, [], 0, false⟩

/-- The length byte of a stored frame (01 section 1.2). -/
def lengthByte (bs : List Byte) : Nat := (bs.getD 2 0).toNat

/-- The frame is good (01 R3). -/
def Receiver.good (r : Receiver) : Bool :=
  !r.errors && 5 ≤ r.count && lengthByte r.bytes ≤ 32 && r.count == lengthByte r.bytes + 5 &&
    (r.bytes.drop (lengthByte r.bytes + 3)) ==
      bytes2 (crc (r.bytes.take (lengthByte r.bytes + 3))).toNat

/-! ### Responses, transmitter (01 R10, R13, R14) -/

/-- The port status byte (01 section 1.2). -/
def PortUnit.statusByte (u : PortUnit) : Byte :=
  byte (u.state.number + 4 * u.overrun.toNat + 8 * u.lostMarker.toNat + 16 * u.notices.length)

/-- The frame of a response, built as the unit stands (01 R13). -/
def PortUnit.buildResponse (u : PortUnit) (r : Response) : List Byte :=
  frame (r.kind ||| 0x80) r.tag (byte r.code.number :: u.statusByte :: r.data)

/-- A response enters the response buffer: it is built, and the overrun flag is cleared (01 R11, R13). -/
def PortUnit.fillBuffer (u : PortUnit) (r : Response) : PortUnit :=
  { u with buffer := some (u.buildResponse r), overrun := false }

/-- The payload of a notice (01 section 1.2). -/
def NoticeRecord.payload (n : NoticeRecord) : List Byte :=
  byte n.kind.classCode :: byte n.kind.number :: byte n.subject :: flagByte n.lost ::
    (bytes2s n.value ++ bytes4 n.path ++ bytes4 n.time.toNat)

/-- The frame of a notice (01 R16). -/
def NoticeRecord.frame (n : NoticeRecord) : List Byte := Machine.frame 0x40 0 n.payload

/-- The waiting response, if any, enters the emptied buffer and frees the slot (01 R10). -/
def PortUnit.moveWaiting (u : PortUnit) : PortUnit :=
  match u.slot with
  | some r => { u with slot := none }.fillBuffer r
  | none => u

/-- The transmitter chooses its next frame (01 R14): the buffered response, the oldest notice, or IDLE; nothing while
the port is CUT_OFF. -/
def PortUnit.choose (u : PortUnit) : PortUnit :=
  if u.state = .cutOff then { u with transmitter := .idle } else
  match u.buffer with
  | some f => { u with buffer := none, transmitter := .response f }.moveWaiting
  | none =>
    match u.notices with
    | n :: _ => { u with transmitter := .notice n.frame true }
    | [] => { u with transmitter := .idle }

/-- The transmitter chooses if it is IDLE (01 R14). -/
def PortUnit.chooseIfIdle (u : PortUnit) : PortUnit :=
  match u.transmitter with
  | .idle => u.choose
  | .response _ | .notice _ _ | .noticeGap _ => u

/-- A composed response is offered to the response buffer (01 R10): it enters an empty buffer, and otherwise waits in
the receive slot. -/
def PortUnit.respond (u : PortUnit) (r : Response) : PortUnit :=
  match u.buffer with
  | none => ({ u with slot := none }.fillBuffer r).chooseIfIdle
  | some _ => { u with slot := some r }

/-- The gap after a sent frame ends (01 R14). A notice whose last character has not been sent cannot end (log 4). -/
def PortUnit.frameSent (u : PortUnit) : PortUnit :=
  match u.transmitter with
  | .response _ | .noticeGap _ => u.choose
  | .idle | .notice _ _ => u

/-- The last character of a notice is sent: its record leaves the head of the queue, unless CUT_OFF has removed it
already (01 R7, R16). -/
def PortUnit.noticeSent (u : PortUnit) : PortUnit :=
  match u.transmitter with
  | .notice f queued =>
    { u with transmitter := .noticeGap f, notices := if queued then u.notices.drop 1 else u.notices }
  | .idle | .response _ | .noticeGap _ => u

/-! ### Notices (01 R15) -/

/-- The capacity of a notice queue (01 R15). -/
def noticeCapacity : Nat := 8

/-- A notice is offered to a port unit (01 R15). -/
def PortUnit.offerNotice (u : PortUnit) (n : NoticeRecord) : PortUnit :=
  if u.subscriptions.getLsbD n.kind.classCode = false then u
  else if u.state = .cutOff then { u with lostMarker := true }
  else if u.notices.length < noticeCapacity then
    { u with notices := u.notices ++ [{ n with lost := u.lostMarker }], lostMarker := false }.chooseIfIdle
  else { u with lostMarker := true }

/-- The notice of a kind as the part stands: stamped with the path counter and the time counter, its value clamped
(01 section 1.7). -/
def State.notice (s : State) (kind : NoticeKind) (subject : Nat) (value : Int) : NoticeRecord where
  kind := kind
  subject := subject
  lost := false
  value := clamp (-32768) 32767 value
  path := s.pulse.path
  time := s.mc.time

/-- The unit of a port. -/
def State.port (s : State) (p : Port) : PortUnit := s.ports.get p

/-- The state with one port unit replaced. -/
def State.setPort (s : State) (p : Port) (u : PortUnit) : State := s.setPorts (s.ports.set p u)

/-- A notice is offered to one port alone (01 section 1.7). -/
def State.postTo (s : State) (p : Port) (kind : NoticeKind) (subject : Nat) (value : Int) : State :=
  s.setPort p ((s.port p).offerNotice (s.notice kind subject value))

/-- A notice is offered to every port unit (01 section 1.7). -/
def State.post (s : State) (kind : NoticeKind) (subject : Nat) (value : Int) : State :=
  s.setPorts
    { s0 := s.ports.s0.offerNotice (s.notice kind subject value)
      s1 := s.ports.s1.offerNotice (s.notice kind subject value)
      s2 := s.ports.s2.offerNotice (s.notice kind subject value) }

/-- The other two ports (01 R9). -/
def otherPorts : Port → List Port
  | .s0 => [.s1, .s2]
  | .s1 => [.s0, .s2]
  | .s2 => [.s0, .s1]

/-! ### Link health (01 R5 to R8) -/

/-- The port state after the error count has risen to `count` (01 R6). -/
def stateAfterRise (count : Nat) : PortState :=
  if 192 ≤ count then .cutOff else if 96 ≤ count then .degraded else .healthy

/-- The port state after the error count has fallen to `count` (01 R6). -/
def stateAfterFall (old : PortState) (count : Nat) : PortState :=
  match old with
  | .degraded => if count < 96 then .healthy else .degraded
  | .healthy => .healthy
  | .cutOff => .cutOff

/-- What entry to CUT_OFF does inside the port unit (01 R7). -/
def PortUnit.cutOffEntry (u : PortUnit) : PortUnit :=
  { u with
    buffer := none
    slot := none
    lostMarker := u.lostMarker || !u.notices.isEmpty
    notices := []
    recoveryRun := 0
    transmitter :=
      match u.transmitter with
      | .notice f _ => .notice f false
      | .idle => .idle
      | .response f => .response f
      | .noticeGap f => .noticeGap f }

/-- A bad frame is evaluated (01 R5, R6, R7, R8). -/
def PortUnit.badFrame (u : PortUnit) : PortUnit :=
  match u.state with
  | .cutOff => { u with recoveryRun := 0 }
  | .healthy | .degraded =>
    let count := min 255 (u.errorCount + 8)
    let u := { u with errorCount := count, state := stateAfterRise count }
    if u.state = .cutOff then u.cutOffEntry else u

/-- A good frame is evaluated (01 R5, R6, R8); handing it over as a request is R10's. -/
def PortUnit.goodFrame (u : PortUnit) : PortUnit :=
  match u.state with
  | .cutOff =>
    if u.recoveryRun + 1 < 16 then { u with recoveryRun := u.recoveryRun + 1 }
    else { u with state := .healthy, errorCount := 0, recoveryRun := 0, overrun := false }
  | .healthy | .degraded =>
    { u with errorCount := u.errorCount - 1, state := stateAfterFall u.state (u.errorCount - 1) }

end Sys2Proof.Machine
end

