-- ==== Sys2Proof/Machine/Scanner.lean ====
section
/-! DEFINITION. The measurement scanner (03): role map and scan list writes, conversions, pass end, publish, holds,
the stale test, START, HALTED and RESTART. Functions on the scanner alone, with the offers they make. -/

namespace Sys2Proof.Machine

/-! ### The stale flag (03 R62) -/

/-- The offers of a new stale flag to the travel governor and the implement sequencer (order: log 41). -/
def staleOffers (flag : Bool) : List Offer := [.governorStale flag, .sequencerStale flag]

/-- The value of SENSOR_STALE: the scan number, or −1 when the set is empty. -/
def Scanner.staleValue (c : Scanner) : Int := if c.published.isEmpty then -1 else c.scanNumber.toNat

/-- The flag is set at an event that finds it clear; one that finds it set posts and offers nothing. -/
def Scanner.becomeStale (c : Scanner) : Emit Scanner :=
  if c.stale then .pure c
  else ⟨{ c with stale := true }, .post .sensorStale 0 c.staleValue :: staleOffers true⟩

/-- When the published set becomes stale: publish time, stale limit and 1 ms (03 R62). -/
def Scanner.staleMoment (publishTime : Time) (limit : Nat) : Time := after publishTime (limit + 1)

/-- The stale timer expires: the flag is set and SENSOR_STALE is posted (03 R62). -/
def Scanner.staleExpiry (c : Scanner) (now : Time) : Emit Scanner :=
  if due now c.staleTimer then
    ⟨{ c with stale := true, staleTimer := none },
      .post .sensorStale 0 c.staleValue :: (if c.stale then [] else staleOffers true)⟩
  else .pure c

/-! ### Publishing (03 R52, R53) -/

/-- The values of a new published set, offered to the blocks that read it (03 R53 step 5; order: log 41). -/
def Scanner.measureOffers (c : Scanner) : List Offer :=
  [.governorGrade (c.roleValue .grade),
    .sequencerMeasures (c.roleValue .armPosL) (c.roleValue .armPosR) (c.roleValue .armPressL)
      (c.roleValue .armPressR),
    .waterTank (c.roleValue .tankLevel)]

/-- WAITING while scanning is continuous, else STOPPED. -/
def Scanner.restState (c : Scanner) : ScanState := if c.continuous then .waiting else .stopped

/-- The live set is published (03 R53) and the scanner goes WAITING or STOPPED (03 R52). A stale moment equal to the
time counter counts as passed, so that the timer expires at the counter's next advance (03 R62; log 36). -/
def Scanner.publish (c : Scanner) (now : Time) : Emit Scanner :=
  let number := c.scanNumber + 1
  let moment := Scanner.staleMoment c.passEnd c.staleLimit
  let fresh : List Offer :=
    if c.stale then .post .sensorFresh 0 number.toNat :: staleOffers false else []
  let c' :=
    { c with
      published := c.live
      scanNumber := number
      publishTime := c.passEnd
      stale := false
      staleTimer := some (if reached now moment then after now 1 else moment)
      state := c.restState }
  ⟨c', fresh ++ c'.measureOffers⟩

/-! ### Conversions and passes (03 R50 to R52) -/

/-- The live set is cleared and the first conversion begins. -/
def Scanner.beginPass (c : Scanner) : Scanner := { c with live := [], state := .converting }

/-- The entry whose conversion is in progress. -/
def Scanner.converting? (c : Scanner) : Option ScanEntry :=
  match c.state with
  | .converting => c.scanList[c.live.length]?
  | .stopped | .waiting | .paused => none

/-- A raw result enters the live set (03 R50 step 1). -/
def Scanner.store (c : Scanner) (ch : Fin 16) (raw : Nat) : Scanner := { c with live := c.live ++ [⟨ch, raw⟩] }

/-- A pass is running and its last conversion is in the live set. -/
def Scanner.passComplete (c : Scanner) : Bool :=
  c.state == .converting && c.scanList.length ≤ c.live.length

/-- The pass ends (03 R52): published, or kept under a hold with SCAN_PAUSED. -/
def Scanner.passEnds (c : Scanner) (now : Time) : Emit Scanner :=
  let c := { c with passEnd := now }
  match c.hold with
  | none => c.publish now
  | some h =>
    ⟨{ c with state := .paused }, [.post .scanPaused (portNumber h.holder) (c.scanNumber + 1).toNat]⟩

/-- The period timer expires (03 R51): a pass begins from WAITING only. -/
def Scanner.periodExpiry (c : Scanner) (now : Time) : Scanner :=
  match c.periodTimer with
  | none => c
  | some e =>
    if reached now e then
      let c := { c with periodTimer := some (after e c.period) }
      if c.state = .waiting then c.beginPass else c
    else c

/-! ### START, HALTED, RESTART (03 R54 to R56) -/

/-- START (03 R54). -/
def Scanner.start (c : Scanner) (now : Time) : Scanner :=
  if c.continuous then c
  else
    let c := { c with continuous := true, periodTimer := some (after now c.period) }
    if c.state = .stopped then c.beginPass else c

/-- HALTED entry (03 R55). -/
def Scanner.halted (c : Scanner) : Scanner :=
  { c with continuous := false, periodTimer := none, live := [], state := .stopped }

/-- RESTART (03 R56). -/
def Scanner.restart (c : Scanner) : Emit Scanner :=
  { c.halted with hold := none, published := [], scanNumber := 0, staleTimer := none }.becomeStale

/-! ### Writes (03 R48, R49, R57, R58, R63) -/

/-- The scanner refuses configuration: CONVERTING or PAUSED. -/
def Scanner.busy (c : Scanner) : Bool := c.state == .converting || c.state == .paused

/-- A WRITE of ROLE_MAP (03 R48). -/
def Scanner.writeRole (c : Scanner) (mode : Mode) (i : Fin 12) (e : RoleEntry) : Emit Scanner × Reply :=
  if !mode.configurable then (.pure c, .no .wrongMode)
  else if c.busy then (.pure c, .no .busy)
  else (.pure { c with roleMap := setAt c.roleMap i e }, .done)

/-- The scan list after a WRITE, or none where the case table of 03 R49 says BAD_VALUE. -/
def newScanList (l : List ScanEntry) (i : Nat) (w : ScanListWrite) : Option (List ScanEntry) :=
  match w.channel with
  | none => if 1 ≤ i ∧ i < l.length then some (l.take i) else none
  | some ch =>
    if (l.eraseIdx i).any fun e => e.channel == ch then none
    else if i < l.length then some (l.set i ⟨ch, w.sample⟩)
    else if i = l.length ∧ i < 16 then some (l ++ [⟨ch, w.sample⟩])
    else none

/-- A WRITE of SCAN_LIST (03 R49). -/
def Scanner.writeList (c : Scanner) (mode : Mode) (i : Nat) (w : ScanListWrite) : Emit Scanner × Reply :=
  if !mode.configurable then (.pure c, .no .wrongMode)
  else if c.busy || c.hold.isSome then (.pure c, .no .busy)
  else
    match newScanList c.scanList i w with
    | none => (.pure c, .no .badValue)
    | some l =>
      (Scanner.becomeStale { c with scanList := l, published := [], live := [], staleTimer := none },
        .okWith [byte l.length])

/-- A new stale limit (03 R63; log 12). -/
def Scanner.newStaleLimit (c : Scanner) (now : Time) (limit : Nat) : Emit Scanner :=
  let c := { c with staleLimit := limit }
  if c.published.isEmpty then .pure c
  else if limit < interval now c.publishTime then Scanner.becomeStale { c with staleTimer := none }
  else .pure { c with staleTimer := some (Scanner.staleMoment c.publishTime limit) }

/-- A new scan period (03 R57). -/
def Scanner.newPeriod (c : Scanner) (now : Time) (period : Nat) : Scanner :=
  if period = c.period then c
  else { c with period := period, periodTimer := if c.continuous then some (after now period) else c.periodTimer }

/-- A WRITE of SCAN_CONTROL (03 R57, R58). -/
def Scanner.writeControl (c : Scanner) (now : Time) (mode : Mode) (w : ScanControlWrite) : Emit Scanner × Reply :=
  if !mode.configurable then (.pure c, .no .wrongMode)
  else if c.busy then (.pure c, .no .busy)
  else
    (((c.newPeriod now w.period).newStaleLimit now w.staleLimit).andThen fun c =>
      .pure (if w.single then c.beginPass else c), .done)

/-! ### Holds (03 R59 to R61) -/

/-- The lease of a HOLD_SET: 0 stands for 20 ms (03 R59). -/
def holdLease (x : Nat) : Option Nat :=
  if x = 0 then some 20 else if 5 ≤ x ∧ x ≤ 100 then some x else none

/-- HOLD_SET (03 R59). -/
def Scanner.holdSet (c : Scanner) (now : Time) (p : Port) (lease : Nat) : Emit Scanner × Reply :=
  match holdLease lease with
  | none => (.pure c, .no .badValue)
  | some ms =>
    let granted : Emit Scanner × Reply :=
      (.pure { c with hold := some ⟨p, after now ms⟩ }, .okWith [byte c.scanNumber.toNat, byte ms])
    match c.hold with
    | none => granted
    | some h => if h.holder = p then granted else (.pure c, ⟨.heldByOther, [byte (portNumber h.holder)]⟩)

/-- The hold ends; a kept set is published (03 R60, R61). -/
def Scanner.endHold (c : Scanner) (now : Time) : Emit Scanner :=
  let c := { c with hold := none }
  if c.state = .paused then c.publish now else .pure c

/-- RELEASE_SET (03 R60). -/
def Scanner.releaseSet (c : Scanner) (now : Time) (p : Port) : Emit Scanner × Reply :=
  match c.hold with
  | none => (.pure c, .no .notHolder)
  | some h =>
    if h.holder = p then
      let e := c.endHold now
      (e, .okWith [byte e.val.scanNumber.toNat])
    else (.pure c, .no .notHolder)

/-- The hold's lease expires (03 R61). -/
def Scanner.leaseExpiry (c : Scanner) (now : Time) : Emit Scanner :=
  match c.hold with
  | none => .pure c
  | some h => if reached now h.expiry then c.endHold now else .pure c

end Sys2Proof.Machine
end

