-- ==== Sys2Proof/Machine/Pulse.lean ====
section
/-! DEFINITION. The pulse unit (05): edges, speed windows, the path counter, ground loss and regain, slip. -/

namespace Sys2Proof.Machine

/-! ### Edges (05 R75, R76, R82) -/

/-- A rising edge of MOTOR_A (05 R75). -/
def Pulse.motorEdge (u : Pulse) (motorBHigh : Bool) : Pulse :=
  if motorBHigh then { u with reverseCount := countUp u.reverseCount }
  else { u with forwardCount := countUp u.forwardCount }

/-- The regain run after a ground edge (05 R82). -/
def Pulse.nextRun (u : Pulse) (now : Time) : Nat :=
  if interval now u.lastEdge < u.lossTime && 1 ≤ u.regainRun then u.regainRun + 1 else 1

/-- The return to GROUND_PRESENT (05 R82; offers: log 41). -/
def Pulse.regain (u : Pulse) (now : Time) : Emit Pulse :=
  ⟨{ u with status := .present, regainRun := 0, source := .ground, remainder := 0,
            lossTimer := some (after now u.lossTime) },
    [.post .groundRegained 0 u.motorSpeed, .governorGround .present u.groundSpeed u.slip,
      .waterGround .present u.groundSpeed]⟩

/-- A rising edge of GROUND (05 R76). -/
def Pulse.groundEdge (u : Pulse) (now : Time) : Emit Pulse :=
  let run := u.nextRun now
  let u := { u with groundCount := countUp u.groundCount, lastEdge := now }
  match u.status with
  | .present => .pure { u with lossTimer := some (after now u.lossTime) }
  | .lost => if 4 ≤ run then u.regain now else .pure { u with regainRun := run }

/-! ### Ground loss (05 R81) -/

/-- The motor speed above which a quiet wheel is lost. -/
def lossSpeed : Nat := 150

/-- The loss test (05 R81; log 26). -/
def Pulse.lossTest (u : Pulse) (now : Time) : Bool :=
  u.status == .present && u.lossTime ≤ interval now u.lastEdge && lossSpeed < u.motorSpeed

/-- The unit enters GROUND_LOST (05 R81; offers: log 41). -/
def Pulse.enterLost (u : Pulse) : Emit Pulse :=
  ⟨{ u with status := .lost, lossTimer := none, source := .motor, remainder := 0, groundSpeed := u.motorSpeed,
            slip := 0, regainRun := 0 },
    [.post .groundLost 0 u.motorSpeed, .governorGround .lost u.motorSpeed 0, .waterGround .lost u.motorSpeed]⟩

/-- The loss test is made, with what follows when it holds. -/
def Pulse.testLoss (u : Pulse) (now : Time) : Emit Pulse := if u.lossTest now then u.enterLost else .pure u

/-- The loss timer expires (05 R81). -/
def Pulse.lossExpiry (u : Pulse) (now : Time) : Emit Pulse :=
  if due now u.lossTimer then Pulse.testLoss { u with lossTimer := none } now else .pure u

/-! ### The end of a speed window (05 R78, R79, R83) -/

/-- The net count of the window. -/
def Pulse.net (u : Pulse) : Int := (u.forwardCount : Int) - u.reverseCount

/-- A speed from a count: count × 1 000 000 / (pulses per metre × window), at most 30000 mm/s. -/
def speedOf (count ppm window : Nat) : Nat := min 30000 (count * 1000000 / (ppm * window))

/-- The direction of a net count. -/
def directionOf (net : Int) : Direction := if 0 < net then .forward else if net < 0 then .reverse else .none

/-- Steps 1 and 2: motor speed, direction, ground speed. -/
def Pulse.takeSpeeds (u : Pulse) : Pulse :=
  let motor := speedOf u.net.natAbs u.motorPpm u.window
  { u with
    motorSpeed := motor
    direction := directionOf u.net
    groundSpeed :=
      match u.status with
      | .present => speedOf u.groundCount u.groundPpm u.window
      | .lost => motor }

/-- The advance of the path and the new remainder, in centimetres and hundredths of a pulse (05 R79). -/
def Pulse.advance (u : Pulse) : Nat × Nat :=
  let count := match u.source with
    | .ground => u.groundCount
    | .motor => u.net.natAbs
  let ppm := match u.source with
    | .ground => u.groundPpm
    | .motor => u.motorPpm
  let sum := u.remainder + count * 100
  (sum / ppm, sum % ppm)

/-- Step 3: the path counter, which saturates; a changed counter is offered (order: log 41). -/
def Pulse.takePath (u : Pulse) : Emit Pulse :=
  let a := u.advance
  let path := min max32 (u.path + a.1)
  ⟨{ u with path := path, remainder := a.2 },
    if path = u.path then [] else [.selectorPath path a.1, .waterPath path a.1]⟩

/-- The slip ratio (05 R83). -/
def slipRatio (motor ground : Nat) : Nat := (motor - ground) * 100 / motor

/-- Step 5: the slip ratio, 0 at or below 300 mm/s or while GROUND_LOST. -/
def Pulse.takeSlip (u : Pulse) : Pulse :=
  { u with slip := if 300 < u.motorSpeed && u.status == .present then slipRatio u.motorSpeed u.groundSpeed else 0 }

/-- Step 6, and what is handed on (05 R85; order: log 41). -/
def Pulse.closeWindow (u : Pulse) (next : Time) : Emit Pulse :=
  ⟨{ u with forwardCount := 0, reverseCount := 0, groundCount := 0, windowTimer := next },
    [.governorMotor u.motorSpeed u.direction u.groundSpeed u.slip true, .waterGround u.status u.groundSpeed]⟩

/-- The speed window timer expires (05 R78). R85 gives the offers of the event no order; the path and its advance go
first, so the water controller counts the advance in the state it had before the new ground speed (log 34). -/
def Pulse.windowEnd (u : Pulse) (now : Time) : Emit Pulse :=
  if reached now u.windowTimer then
    (u.takeSpeeds.takePath.andThen fun v => v.testLoss now).andThen fun v =>
      v.takeSlip.closeWindow (after u.windowTimer u.window)
  else .pure u

/-! ### START, RESTART, writes (05 R77, R80, R84) -/

/-- START (05 R80). -/
def Pulse.start (u : Pulse) : Pulse := { u with path := 0, remainder := 0 }

/-- RESTART (05 R84; offers: log 41). -/
def Pulse.restart (u : Pulse) (now : Time) : Emit Pulse :=
  let regained : List Offer :=
    match u.status with
    | .present => []
    | .lost => [.post .groundRegained 0 0, .governorGround .present 0 0]
  ⟨{ u with
      path := 0, remainder := 0, motorSpeed := 0, groundSpeed := 0, slip := 0, direction := .none,
      forwardCount := 0, reverseCount := 0, groundCount := 0, windowTimer := after now u.window,
      status := .present, source := .ground, regainRun := 0, lastEdge := now,
      lossTimer := some (after now u.lossTime) },
    regained ++ [.governorMotor 0 .none 0 0 false, .waterGround .present 0]⟩

/-- The writable fields replaced, with what a changed calibration or window does (05 R77). -/
def Pulse.rewrite (u : Pulse) (now : Time) (w : PulseWrite) : Pulse :=
  { u with
    motorPpm := w.motorPpm
    groundPpm := w.groundPpm
    remainder := if w.motorPpm = u.motorPpm ∧ w.groundPpm = u.groundPpm then u.remainder else 0
    window := w.window
    windowTimer := if w.window = u.window then u.windowTimer else after now w.window
    lossTime := w.lossTime }

/-- The loss time takes effect (05 R77): the timer is set afresh, or the loss test is made at once. An expiry that equals
the time counter counts as already passed (log 31). -/
def Pulse.applyLossTime (u : Pulse) (now : Time) : Emit Pulse :=
  match u.status with
  | .lost => .pure u
  | .present =>
    if u.lossTime ≤ interval now u.lastEdge then Pulse.testLoss { u with lossTimer := none } now
    else .pure { u with lossTimer := some (after u.lastEdge u.lossTime) }

/-- A WRITE of PULSE (05 R77). -/
def Pulse.write (u : Pulse) (now : Time) (mode : Mode) (w : PulseWrite) : Emit Pulse × Reply :=
  if mode.configurable then ((u.rewrite now w).applyLossTime now, .done) else (.pure u, .no .wrongMode)

end Sys2Proof.Machine
end

