-- ==== Sys2Proof/Machine/Selector.lean ====
section
/-! DEFINITION. The profile selector (06): rows, zone table, resolution, change queue, pin, START, RESTART. -/

namespace Sys2Proof.Machine

/-- The active profile's row. -/
def Selector.activeRow (x : Selector) : Profile := x.rows.get x.active

/-! ### Setting the active profile (06 R94, R95) -/

/-- A row's contents, offered to the travel governor, the implement sequencer and the water controller (06 R95; order:
log 41). -/
def Profile.jobOffers (r : Profile) : List Offer :=
  [.governorCap r.speedCap, .sequencerProfile r, .waterProfile r.groups r.dose]

/-- A row's contents, offered to the four receiving blocks (06 R95; order: log 41). -/
def Profile.offers (r : Profile) : List Offer := .budgetRanks r.shedOrder :: r.jobOffers

/-- A setting of the active profile: PROFILE_APPLIED always, the offers when the row changes or `always`. -/
def Selector.setActive (x : Selector) (row : Fin 8) (cause : ProfileCause) (always : Bool) : Emit Selector :=
  ⟨{ x with active := row },
    .post .profileApplied row.val cause.number ::
      (if always || row != x.active then (x.rows.get row).offers else [])⟩

/-- A change is applied (06 R94). -/
def Selector.applyChange (x : Selector) (row : Fin 8) (code : ZoneCode) : Emit Selector :=
  let y := { x with zoneProfile := row, lastCode := some code }
  if y.pinned then .pure y else y.setActive row .zone false

/-! ### The change queue (06 R92, R93) -/

/-- An entry goes after every entry whose mark is not greater (06 R92). -/
def insertChange (e : QueuedChange) : List QueuedChange → List QueuedChange
  | [] => [e]
  | x :: xs => if x.mark ≤ e.mark then x :: insertChange e xs else e :: x :: xs

/-- A path advance (06 R93): the entries it reaches leave, and the last of them is applied. -/
def Selector.pathAdvance (x : Selector) (path advance : Nat) : Emit Selector :=
  let x := { x with path := path, advance := advance }
  let passed := x.queue.takeWhile fun e => e.mark ≤ path
  match passed.getLast? with
  | none => .pure x
  | some e => Selector.applyChange { x with queue := x.queue.drop passed.length } e.profile e.code

/-! ### Resolution and ZONE_AHEAD (06 R90, R91) -/

/-- The mask an entry compares under (06 R90). -/
def Selector.maskFor (x : Selector) (z : Zone) : ZoneCode := z.ownMask.getD x.sharedMask

/-- An entry matches a code (06 R90). -/
def Selector.matches (x : Selector) (i : Fin 16) (code : ZoneCode) : Bool :=
  let z := x.zones.get i
  z.enabled && (code &&& x.maskFor z) == (z.code &&& x.maskFor z)

/-- The lowest matching entry's index (16 when none) and the resolved row (06 R90). -/
def Selector.resolve (x : Selector) (code : ZoneCode) : Nat × Fin 8 :=
  match sixteen.find? fun i => x.matches i code with
  | some i => (i.val, (x.zones.get i).profile)
  | none => (16, 0)

/-- The greatest distance ahead (06 R91). -/
def maxAhead : Nat := 50000

/-- The capacity of the change queue (06 R92). -/
def queueCapacity : Nat := 4

/-- ZONE_AHEAD (06 R91). The mark counts from the path counter as the selector holds it. -/
def Selector.zoneAhead (x : Selector) (mode : Mode) (code : ZoneCode) (distance : Nat) : Emit Selector × Reply :=
  if maxAhead < distance then (.pure x, .no .badValue)
  else if mode.configurable then (.pure x, .no .wrongMode)
  else
    let r := x.resolve code
    let mark := min max32 (x.path + distance)
    if !(x.rows.get r.2).valid then (.pure x, ⟨.badValue, [byte r.1, byte r.2.val]⟩)
    else if distance = 0 ∨ mark ≤ x.path then
      (x.applyChange r.2 code, .okWith [byte r.1, byte r.2.val, 0, byte x.queue.length])
    else if queueCapacity ≤ x.queue.length then (.pure x, .no .queueFull)
    else
      (.pure { x with queue := insertChange ⟨mark, r.2, code⟩ x.queue },
        .okWith [byte r.1, byte r.2.val, 1, byte (x.queue.length + 1)])

/-! ### PIN and UNPIN (06 R96, R97) -/

/-- PIN (06 R96); `holder` says that the station holds TRAVEL. -/
def Selector.pin (x : Selector) (mode : Mode) (holder : Bool) (row : Nat) : Emit Selector × Reply :=
  match below 8 row with
  | none => (.pure x, .no .badValue)
  | some r =>
    if !holder then (.pure x, .no .notHolder)
    else if mode.configurable then (.pure x, .no .wrongMode)
    else if !(x.rows.get r).valid then (.pure x, .no .badValue)
    else (Selector.setActive { x with pinned := true } r .pin false, .okWith [byte r.val, byte x.zoneProfile.val])

/-- UNPIN (06 R97). -/
def Selector.unpin (x : Selector) (mode : Mode) (holder : Bool) : Emit Selector × Reply :=
  if !holder then (.pure x, .no .notHolder)
  else if mode.configurable then (.pure x, .no .wrongMode)
  else if x.pinned then
    (Selector.setActive { x with pinned := false } x.zoneProfile .unpin false, .okWith [byte x.zoneProfile.val])
  else (.pure x, .okWith [byte x.active.val])

/-! ### Writes (06 R87 to R89) -/

/-- The shed order names each consumer exactly once (06 R87). -/
def goodShedOrder (l : List Consumer) : Bool :=
  l.length == 5 && ([.travel, .main, .armL, .armR, .water] : List Consumer).all fun c => l.contains c

/-- The row may not become invalid in a working mode: active, zone profile, or queued (06 R87 check 4). -/
def Selector.inUse (x : Selector) (i : Fin 8) : Bool :=
  i == x.active || i == x.zoneProfile || x.queue.any fun e => e.profile == i

/-- A WRITE of PROFILES (06 R87). -/
def Selector.writeRow (x : Selector) (mode : Mode) (fwdCap : Nat) (i : Fin 8) (r : Profile) : Emit Selector × Reply :=
  if !goodShedOrder r.shedOrder then (.pure x, .no .badValue)
  else if r.valid && fwdCap < r.speedCap then (.pure x, .no .badValue)
  else if mode == .sweep && i == x.active then (.pure x, .no .inUse)
  else if mode.working && !r.valid && x.inUse i then (.pure x, .no .inUse)
  else
    let y := { x with rows := setAt x.rows i r }
    (if i = x.active then y.setActive i .rewrite true else .pure y, .done)

/-- A WRITE of ZONES (06 R88): entries 0..11 have no own mask, entries 12..15 have one. -/
def Selector.writeZone (x : Selector) (i : Fin 16) (z : Zone) : Emit Selector × Reply :=
  if z.ownMask.isSome == decide (i.val < 12) then (.pure x, .no .badValue)
  else (.pure { x with zones := setAt x.zones i z }, .done)

/-- A WRITE of ZONE_MASK (06 R89). -/
def Selector.writeMask (x : Selector) (m : ZoneCode) : Emit Selector × Reply :=
  (.pure { x with sharedMask := m }, .done)

/-! ### START and RESTART (06 R98, R99) -/

/-- START (06 R98). The budget table takes the shed order of row 0 with START itself, so that it recomputes once with
the new ranks and demands (02 R31). The path copies follow the cleared counter (log 11). -/
def Selector.start (x : Selector) : Emit Selector :=
  let row := x.rows.get 0
  ⟨{ x with queue := [], pinned := false, zoneProfile := 0, active := 0, lastCode := none, path := 0, advance := 0 },
    .post .profileApplied 0 ProfileCause.start.number :: .budgetStart row.shedOrder :: row.jobOffers⟩

/-- RESTART (06 R99). The path copies follow the cleared counter (log 11). -/
def Selector.restart (x : Selector) : Emit Selector :=
  let y := { x with queue := [], pinned := false, path := 0, advance := 0 }
  if x.pinned then y.setActive x.zoneProfile .restart false else .pure y

/-- Some valid row's speed cap is above a forward cap (02 R43). -/
def Selector.capsAbove (x : Selector) (fwdCap : Nat) : Bool :=
  eightRows.any fun i => (x.rows.get i).valid && fwdCap < (x.rows.get i).speedCap

end Sys2Proof.Machine
end

