-- ==== Sys2Proof/Machine/Sequencer.lean ====
section
/-! DEFINITION. The implement sequencer (09): the two side arms, the main broom, motions and outcomes, lift causes,
stow requests, broom speeds, pressure regulation, HALTED, SERVICE, START and RESTART. -/

namespace Sys2Proof.Machine

/-- What the sequencer reads at an event: the time counter and the path counter. -/
structure Moment where
  now  : Time
  path : Nat
  deriving DecidableEq, Repr

/-! ### Fixed parameters (09 R139) -/

/-- Tolerance, per-mille. -/
def tolerance : Int := 20
/-- Yield band, per-mille. -/
def yieldBand : Int := 60
/-- Stow threshold, per-mille. -/
def stowThreshold : Int := 50
/-- Arm lift time, ms. -/
def armLiftTime : Nat := 600
/-- Arm lower time, ms. -/
def armLowerTime : Nat := 600
/-- Yield time, ms. -/
def yieldTime : Nat := 3000
/-- Backoff base, ms. -/
def backoffBase : Nat := 250
/-- Main broom lower time, ms. -/
def mainLowerTime : Nat := 800
/-- Main broom lift time, ms. -/
def mainLiftTime : Nat := 800
/-- Regulation step interval, ms. -/
def regulationInterval : Nat := 20

/-! ### Tests of an arm (09 R139, R143) -/

/-- The arm is deployed: at or above its reach less the tolerance. -/
def ArmRecord.deployed (a : ArmRecord) : Bool :=
  match a.position with
  | none => false
  | some p => (a.reach : Int) - tolerance ≤ p

/-- The arm stands at or below the stow threshold. -/
def ArmRecord.inStow (a : ArmRecord) : Bool :=
  match a.position with
  | none => false
  | some p => p ≤ stowThreshold

/-- The arm is below its reach less the yield band. -/
def ArmRecord.pushedIn (a : ArmRecord) : Bool :=
  match a.position with
  | none => false
  | some p => p < (a.reach : Int) - yieldBand

/-- The profile's side_arms_used names the arm. -/
def ArmsUsed.names : ArmsUsed → Side → Bool
  | .l, .left | .r, .right | .both, _ => true
  | .l, .right | .r, .left | .none, _ => false

/-- The arm is wanted out (09 R143). -/
def Sequencer.wantedOut (q : Sequencer) (x : Side) : Bool :=
  q.mode == .sweep &&
    match (q.arm x).command with
    | .out => true
    | .auto => q.armsUsed.names x
    | .in_ => false

/-- Lift causes: REVERSE, TRIP, BUDGET (09 R143). -/
structure Causes where
  reverse : Bool
  trip    : Bool
  budget  : Bool
  deriving DecidableEq, Repr

/-- Some lift cause is present. -/
def Causes.any (c : Causes) : Bool := c.reverse || c.trip || c.budget

/-- The lift causes of a record whose budget row is given. -/
def Sequencer.causesFor (q : Sequencer) (row : GrantCopy) : Causes := ⟨q.liftForReverse, q.liftArms, row.state == .held⟩

/-- The lift causes of an arm. -/
def Sequencer.armCauses (q : Sequencer) (x : Side) : Causes := q.causesFor (q.arm x).row

/-- The lift causes of the main broom (09 R155). -/
def Sequencer.mainCauses (q : Sequencer) : Causes := q.causesFor q.main.row

/-- The abort cause of a gained lift cause, if one is gained (09 R147). -/
def Causes.gained (old new : Causes) : Option AbortCause :=
  if new.reverse && !old.reverse then some .liftRequest
  else if new.trip && !old.trip then some .trip
  else if new.budget && !old.budget then some .budgetHeld
  else none

/-- The main broom is wanted down (09 R155). -/
def Sequencer.wantedDown (q : Sequencer) : Bool :=
  q.mode == .sweep && q.main.command == .auto && !q.mainCauses.any

/-! ### Broom speeds (09 R153, R155) -/

/-- The broom rpm under a budget row, for a target and a coefficient (09 R153; log 23): 0 while the row is HELD, also
where the coefficient is 0 (log 39). -/
def broomRpm (row : GrantCopy) (target coefficient : Nat) : Nat :=
  match row.state with
  | .full => target
  | .trimmed => if coefficient = 0 then target else min target (row.grant * 1000 / coefficient)
  | .held => 0

/-- The side broom speed target. -/
def Sequencer.sideTarget (q : Sequencer) : Nat := min q.sideRpm q.sideRpmMax

/-- The main broom speed target. -/
def Sequencer.mainTarget (q : Sequencer) : Nat := min q.mainRpm q.mainRpmMax

/-- An arm's broom rpm. -/
def Sequencer.armRpm (q : Sequencer) (x : Side) : Nat := broomRpm (q.arm x).row q.sideTarget q.cb

/-- The main broom's rpm. -/
def Sequencer.mainRpmNow (q : Sequencer) : Nat := broomRpm q.main.row q.mainTarget q.cm

/-- The brush is down and turning: WORKING or YIELDING. -/
def ArmState.sweeping (s : ArmState) : Bool := s == .working || s == .yielding

/-- The LIFT position is on: LOWERING, WORKING, YIELDING (09 R142). -/
def ArmState.lowered (s : ArmState) : Bool := s == .lowering || s.sweeping

/-- The main broom is let down: LOWERING, DOWN (09 R155). -/
def BroomState.lowered (s : BroomState) : Bool := s == .lowering || s == .down

/-- An arm's demand (09 R153). -/
def Sequencer.armDemand (q : Sequencer) (x : Side) : Nat :=
  if (q.arm x).state.lowered then q.sideTarget * q.cb / 1000 else 0

/-- The main broom's demand (09 R155). -/
def Sequencer.mainDemand (q : Sequencer) : Nat :=
  if q.main.state.lowered then q.mainTarget * q.cm / 1000 else 0

/-! ### Motions and outcomes (09 R150) -/

/-- Motion numbers. -/
def MotionKind.number : MotionKind → Nat
  | .swingOut => 0
  | .swingIn => 1
  | .yield => 2

/-- Outcome numbers. -/
def MotionOutcome.number : MotionOutcome → Nat
  | .done => 0
  | .timedOut => 1
  | .aborted => 2
  | .faulted => 3

/-- How many records an outcome stack holds. -/
def outcomeCapacity : Nat := 3

/-- The open motion is recorded with an outcome: pushed, and ARM_OUTCOME posted (09 R150). -/
def ArmRecord.closeMotion (a : ArmRecord) (x : Side) (t : Moment) (o : MotionOutcome) (abort : Option AbortCause) :
    Emit ArmRecord :=
  match a.motion with
  | none => .pure a
  | some m =>
    ⟨{ a with
        motion := none
        outcomes := (⟨m.kind, o, m.attempts, t.path, t.now - m.openedAt, abort⟩ :: a.outcomes).take outcomeCapacity },
      [.post .armOutcome (sideNumber x) ((o.number + 4 * m.kind.number : Nat) : Int)]⟩

/-- A motion opens (09 R150). -/
def ArmRecord.openMotion (a : ArmRecord) (t : Moment) (k : MotionKind) : ArmRecord :=
  { a with motion := some ⟨k, t.now, a.attempts⟩ }

/-! ### Entering a state (09 R142) -/

/-- The swing coil of a state (09 R142). -/
def ArmRecord.swingFor (a : ArmRecord) (s : ArmState) : Int :=
  match s with
  | .swingingOut => a.settings.swingDrive
  | .swingingIn => -(a.settings.swingDrive : Int)
  | .yielding => a.settings.yieldDrive
  | .stowed | .lowering | .working | .raising | .raised | .retryWait | .fault => 0

/-- A state is entered with its timer; the outputs of 09 R142 follow, but for the broom coil, which `drive` sets. The
pressure command survives between WORKING and YIELDING only (09 R154); WORKING and STOWED clear the attempt count
(09 R143); the mark of a raise after a failed attempt is cleared (09 R147). -/
def ArmRecord.enter (a : ArmRecord) (s : ArmState) (timer : Option Time) : ArmRecord :=
  { a with
    state := s
    timer := timer
    swing := a.swingFor s
    broom := if s.sweeping then a.broom else 0
    press := if s.sweeping then a.press else 0
    lift := s.lowered
    attempts := if s = .working ∨ s = .stowed then 0 else a.attempts
    afterFail := false }

/-- SWINGING_OUT with a new swing timer; the motion is as it stands. -/
def ArmRecord.swingOut (a : ArmRecord) (t : Moment) : ArmRecord :=
  a.enter .swingingOut (some (after t.now a.settings.swingLimit))

/-- SWINGING_IN with a new swing timer; the motion is as it stands. -/
def ArmRecord.swingIn (a : ArmRecord) (t : Moment) : ArmRecord :=
  a.enter .swingingIn (some (after t.now a.settings.swingLimit))

/-- SWINGING_OUT with a new motion. -/
def ArmRecord.startOut (a : ArmRecord) (t : Moment) : ArmRecord := (a.openMotion t .swingOut).swingOut t

/-- SWINGING_IN with a new motion. -/
def ArmRecord.startIn (a : ArmRecord) (t : Moment) : ArmRecord := (a.openMotion t .swingIn).swingIn t

/-- RAISING. -/
def ArmRecord.raise (a : ArmRecord) (t : Moment) : ArmRecord := a.enter .raising (some (after t.now armLiftTime))

/-- LOWERING. -/
def ArmRecord.lower (a : ArmRecord) (t : Moment) : ArmRecord := a.enter .lowering (some (after t.now armLowerTime))

/-- RETRY_WAIT with a new motion of a kind, for attempts × backoff base (09 R145). -/
def ArmRecord.wait (a : ArmRecord) (t : Moment) (k : MotionKind) : ArmRecord :=
  (a.openMotion t k).enter .retryWait (some (after t.now (a.attempts * backoffBase)))

/-- Fault cause numbers (09 R149). -/
def FaultCause.number : FaultCause → Nat
  | .retryLimit => 0
  | .liftFailed => 1

/-- FAULT (09 R149): an open motion is recorded FAULTED, and ARM_FAULT is posted. In SERVICE the coils follow the
service values (02 R37; log 14), so they are left. -/
def ArmRecord.toFault (a : ArmRecord) (x : Side) (t : Moment) (service : Bool) (c : FaultCause) : Emit ArmRecord :=
  (a.closeMotion x t .faulted none).andThen fun a =>
    let b := { a.enter .fault none with fault := some c }
    ⟨if service then { b with swing := a.swing, broom := a.broom, press := a.press } else b,
      [.post .armFault (sideNumber x) c.number]⟩

/-! ### Reactions to lift causes and stow requests (09 R144, R147, R148) -/

/-- An arm wanted out gains a lift cause (09 R147). -/
def ArmRecord.gainCause (a : ArmRecord) (x : Side) (t : Moment) (c : AbortCause) : Emit ArmRecord :=
  match a.state with
  | .stowed | .raising | .raised | .fault | .swingingIn => .pure a
  | .swingingOut | .retryWait =>
    (a.closeMotion x t .aborted (some c)).andThen fun a => .pure (a.enter .raised none)
  | .lowering | .working => .pure (a.raise t)
  | .yielding => (a.closeMotion x t .aborted (some c)).andThen fun a => .pure (a.raise t)

/-- The open motion retries a swing of a kind. -/
def ArmRecord.retries (a : ArmRecord) (k : MotionKind) : Bool :=
  match a.motion with
  | none => false
  | some m => m.kind == k

/-- An arm becomes wanted in (09 R148); its attempt count becomes 0 (09 R143). -/
def ArmRecord.becomeIn (a : ArmRecord) (x : Side) (t : Moment) : Emit ArmRecord :=
  let a := { a with attempts := 0 }
  let turn := (a.closeMotion x t .aborted (some .stowRequest)).andThen fun a => .pure (a.startIn t)
  match a.state with
  | .stowed | .swingingIn | .fault | .raising => .pure a
  | .swingingOut => turn
  | .retryWait => if a.retries .swingIn then .pure a else turn
  | .lowering | .working => .pure (a.raise t)
  | .yielding => (a.closeMotion x t .aborted (some .stowRequest)).andThen fun a => .pure (a.raise t)
  | .raised => .pure (a.startIn t)

/-- An arm becomes wanted out again (09 R148); its attempt count becomes 0 (09 R143). `cause`: a lift cause is
present. -/
def ArmRecord.becomeOut (a : ArmRecord) (x : Side) (t : Moment) (cause : Bool) : Emit ArmRecord :=
  let a := { a with attempts := 0 }
  let turn := (a.closeMotion x t .aborted (some .stowRequest)).andThen fun a =>
    .pure (if cause then a.enter .raised none else a.startOut t)
  match a.state with
  | .swingingIn => turn
  | .retryWait => if a.retries .swingIn then turn else .pure a
  | .raising => .pure (if cause then a else a.startOut t)
  | .stowed | .swingingOut | .lowering | .working | .yielding | .raised | .fault => .pure a

/-- STOWED and RAISED are left as soon as the arm is wanted out with no lift cause (09 R144, R147). -/
def ArmRecord.advance (a : ArmRecord) (t : Moment) (free : Bool) : ArmRecord :=
  match a.state with
  | .stowed => if free then a.startOut t else a
  | .raised => if free then (if a.deployed then a.lower t else a.startOut t) else a
  | .swingingOut | .lowering | .working | .yielding | .raising | .swingingIn | .retryWait | .fault => a

/-- The arm is wanted out and no lift cause is present. -/
def Sequencer.free (q : Sequencer) (x : Side) : Bool := q.wantedOut x && !(q.armCauses x).any

/-- An arm after an event that may have changed whether it is wanted out or its lift causes: `old` is the sequencer
before the event, `q` after it. -/
def Sequencer.reactArm (old q : Sequencer) (x : Side) (t : Moment) : Emit ArmRecord :=
  let turned : Emit ArmRecord :=
    match old.wantedOut x, q.wantedOut x with
    | true, false => (q.arm x).becomeIn x t
    | false, true => (q.arm x).becomeOut x t (q.armCauses x).any
    | true, true =>
      match (old.armCauses x).gained (q.armCauses x) with
      | some c => (q.arm x).gainCause x t c
      | none => .pure (q.arm x)
    | false, false => .pure (q.arm x)
  turned.andThen fun a => .pure (a.advance t (q.free x))

/-! ### The main broom (09 R155) -/

/-- A state of the main broom is entered with its timer; LIFT_M and a stopped coil follow. -/
def MainRecord.enter (b : MainRecord) (s : BroomState) (timer : Option Time) : MainRecord :=
  { b with state := s, timer := timer, lift := s.lowered, broom := if s = .down then b.broom else 0 }

/-- The main broom follows its wish. -/
def MainRecord.advance (b : MainRecord) (t : Moment) (down : Bool) : MainRecord :=
  match b.state with
  | .up => if down then b.enter .lowering (some (after t.now mainLowerTime)) else b
  | .lowering | .down => if down then b else b.enter .lifting (some (after t.now mainLiftTime))
  | .lifting | .fault => b

/-- LIFT_M is reported failed (09 R155); in SERVICE the coil follows its service value (log 14). -/
def MainRecord.toFault (b : MainRecord) (service : Bool) : Emit MainRecord :=
  let c := { b.enter .fault none with fault := some .liftFailed }
  ⟨if service then { c with broom := b.broom } else c, [.post .broomFault 0 1]⟩

/-! ### What the sequencer tells (09 R141) -/

/-- The report to the travel governor. -/
def Sequencer.report (q : Sequencer) : ImplementReport where
  armL := q.left.state
  armR := q.right.state
  main := q.main.state
  outL := q.left.state == .fault && !q.left.inStow
  outR := q.right.state == .fault && !q.right.inStow
  liftLFailed := q.left.liftFailed
  liftRFailed := q.right.liftFailed
  liftMFailed := q.main.liftFailed

/-- Some record's state differs. -/
def Sequencer.statesDiffer (old q : Sequencer) : Bool :=
  old.left.state != q.left.state || old.right.state != q.right.state || old.main.state != q.main.state

/-- Some LIFT position's wanted value differs. -/
def Sequencer.liftsDiffer (old q : Sequencer) : Bool :=
  old.left.lift != q.left.lift || old.right.lift != q.right.lift || old.main.lift != q.main.lift

/-- The state and LIFT offers (order: log 41; one offer for all records: log 44); `all` makes every one of them whether
or not it changed (09 R157). -/
def Sequencer.stateOffers (old q : Sequencer) (all : Bool) : List Offer :=
  offerIf (all || old.liftsDiffer q) (.chainLifts q.left.lift q.right.lift q.main.lift) ++
    offerIf (all || old.report != q.report) (.governorImplements q.report) ++
    offerIf (all || old.statesDiffer q) (.waterImplements q.left.state q.right.state q.main.state) ++
    offerIf (all || old.statesDiffer q) (.modeImplements q.left.state q.right.state q.main.state)

/-- The demands as the records stand. -/
def Sequencer.takeDemands (q : Sequencer) : Sequencer :=
  { q with
    left := { q.left with demand := q.armDemand .left }
    right := { q.right with demand := q.armDemand .right }
    main := { q.main with demand := q.mainDemand } }

/-- The offers of changed demands (order: log 41). -/
def Sequencer.demandOffers (old q : Sequencer) : List Offer :=
  offerIf (q.left.demand != old.left.demand) (.demand .armL q.left.demand) ++
    offerIf (q.right.demand != old.right.demand) (.demand .armR q.right.demand) ++
    offerIf (q.main.demand != old.main.demand) (.demand .main q.main.demand)

/-- The broom coils while the automation acts (09 R153, R155). -/
def Sequencer.drive (q : Sequencer) : Sequencer :=
  if q.mode.working then
    { q with
      left := { q.left with broom := if q.left.state.sweeping then q.armRpm .left else 0 }
      right := { q.right with broom := if q.right.state.sweeping then q.armRpm .right else 0 }
      main := { q.main with broom := if q.main.state = .down then q.mainRpmNow else 0 } }
  else q

/-- The end of an event: coils and demands follow, and what has changed since `old` is offered. -/
def Sequencer.finish (old q : Sequencer) (all : Bool) : Emit Sequencer :=
  let q := q.drive.takeDemands
  ⟨q, old.stateOffers q all ++ old.demandOffers q⟩

/-- The records react, in the modes in which the automation acts; the left arm's notices come before the right arm's
(log 38). -/
def Sequencer.react (old q : Sequencer) (t : Moment) : Emit Sequencer :=
  if q.mode.working then
    (old.reactArm q .left t).andThen fun l =>
      (old.reactArm q .right t).andThen fun r =>
        .pure { q with left := l, right := r, main := q.main.advance t q.wantedDown }
  else .pure q

/-- An event that has replaced copies or commands: the records react, and what has changed is offered. -/
def Sequencer.event (old q : Sequencer) (t : Moment) : Emit Sequencer :=
  (old.react q t).andThen fun q => old.finish q false

/-! ### Publishes and new reaches (09 R144, R146) -/

/-- A publish moves a swinging, working or yielding arm. -/
def ArmRecord.published (a : ArmRecord) (x : Side) (t : Moment) : Emit ArmRecord :=
  match a.state with
  | .swingingOut =>
    if a.deployed then (a.closeMotion x t .done none).andThen fun a => .pure (a.lower t) else .pure a
  | .swingingIn =>
    if a.inStow then (a.closeMotion x t .done none).andThen fun a => .pure (a.enter .stowed none) else .pure a
  | .working =>
    .pure (if a.pushedIn then (a.openMotion t .yield).enter .yielding (some (after t.now yieldTime)) else a)
  | .yielding =>
    if a.deployed then (a.closeMotion x t .done none).andThen fun a => .pure (a.enter .working none) else .pure a
  | .stowed | .lowering | .raising | .raised | .retryWait | .fault => .pure a

/-- A new reach finds a WORKING arm below its band (09 R146). -/
def ArmRecord.newReach (a : ArmRecord) (t : Moment) : ArmRecord :=
  if a.state = .working ∧ a.pushedIn then (a.openMotion t .yield).enter .yielding (some (after t.now yieldTime))
  else a

/-- A published set is offered; the left arm's notices come before the right arm's (log 38). -/
def Sequencer.takeMeasures (q : Sequencer) (t : Moment) (posL posR pressL pressR : Option Int) : Emit Sequencer :=
  let p := { q with left := { q.left with position := posL, pressure := pressL },
                    right := { q.right with position := posR, pressure := pressR } }
  if p.mode.working then
    ((p.left.published .left t).andThen fun l =>
      (p.right.published .right t).andThen fun r => .pure { p with left := l, right := r }).andThen
        fun p => q.finish p false
  else q.finish p false

/-- A profile row is offered. The arms react to what it makes of their being wanted out (09 R148) before the new reach
is tested on a WORKING arm (09 R146), so that an arm that becomes wanted in opens no YIELD motion (log 43). -/
def Sequencer.takeProfile (q : Sequencer) (t : Moment) (r : Profile) : Emit Sequencer :=
  let p := { q with
    left := { q.left with reach := r.reachL }, right := { q.right with reach := r.reachR }
    pressTarget := r.pressTarget, mainRpm := r.mainRpm, sideRpm := r.sideRpm, armsUsed := r.armsUsed }
  (q.react p t).andThen fun p =>
    q.finish
      (if p.mode.working then
        { p with
          left := if r.reachL = q.left.reach then p.left else p.left.newReach t
          right := if r.reachR = q.right.reach then p.right else p.right.newReach t }
      else p) false

/-! ### Other offers (09 R141) -/

/-- The stale flag; it acts at regulation steps only. -/
def Sequencer.takeStale (q : Sequencer) (flag : Bool) : Sequencer := { q with stale := flag }

/-- LIFT_ARMS. -/
def Sequencer.takeLift (q : Sequencer) (t : Moment) (active : Bool) : Emit Sequencer :=
  q.event { q with liftArms := active } t

/-- Lift-for-reverse. -/
def Sequencer.takeReverse (q : Sequencer) (t : Moment) (flag : Bool) : Emit Sequencer :=
  q.event { q with liftForReverse := flag } t

/-- The limits. -/
def Sequencer.takeLimits (q : Sequencer) (t : Moment) (l : Limits) : Emit Sequencer :=
  q.event { q with armPressMax := l.armPressMax, mainRpmMax := l.mainRpmMax, sideRpmMax := l.sideRpmMax } t

/-- Cm and Cb. -/
def Sequencer.takeCoefficients (q : Sequencer) (t : Moment) (cm cb : Nat) : Emit Sequencer :=
  q.event { q with cm := cm, cb := cb } t

/-- The three budget rows. -/
def Sequencer.takeGrants (q : Sequencer) (t : Moment) (m l r : GrantCopy) : Emit Sequencer :=
  q.event { q with main := { q.main with row := m }, left := { q.left with row := l },
                   right := { q.right with row := r } } t

/-- Every command is AUTO. -/
def Sequencer.autoCommands (q : Sequencer) : Sequencer :=
  { q with left := { q.left with command := .auto }, right := { q.right with command := .auto },
           main := { q.main with command := .auto } }

/-- The holder of IMPLEMENTS changes (09 R152). -/
def Sequencer.holderChanged (q : Sequencer) (t : Moment) : Emit Sequencer := q.event q.autoCommands t

/-- An arm's LIFT position is reported failed or no longer failed (09 R149). -/
def ArmRecord.takeFailed (a : ArmRecord) (x : Side) (t : Moment) (service failed : Bool) : Emit ArmRecord :=
  let b := { a with liftFailed := failed }
  if failed && !a.liftFailed then
    if a.state = .fault then .pure { b with lift := false } else b.toFault x t service .liftFailed
  else .pure b

/-- LIFT_M is reported failed or no longer failed (09 R155). -/
def MainRecord.takeFailed (b : MainRecord) (service failed : Bool) : Emit MainRecord :=
  let c := { b with liftFailed := failed }
  if failed && !b.liftFailed then
    if b.state = .fault then .pure { c with lift := false } else c.toFault service
  else .pure c

/-- The failed LIFT positions are offered; the left arm's notices come before the right arm's, and the main broom's last
(log 38). -/
def Sequencer.takeFailed (q : Sequencer) (t : Moment) (l r m : Bool) : Emit Sequencer :=
  let service := q.mode == .service
  (q.left.takeFailed .left t service l).andThen fun a =>
    (q.right.takeFailed .right t service r).andThen fun b =>
      (q.main.takeFailed service m).andThen fun c => q.finish { q with left := a, right := b, main := c } false

/-! ### Commands (09 R151, R152) -/

/-- An accepted ARM. -/
def Sequencer.armCommand (q : Sequencer) (t : Moment) (x : Side) (c : ArmCommand) : Emit Sequencer :=
  q.event (q.setArm x { q.arm x with command := c }) t

/-- An accepted BROOM. -/
def Sequencer.broomCommand (q : Sequencer) (t : Moment) (c : BroomCommand) : Emit Sequencer :=
  q.event { q with main := { q.main with command := c } } t

/-! ### State timers (09 R144 to R147) -/

/-- An arm's event in the modes in which the automation acts: its new record, then what has changed is offered. -/
def Sequencer.armEvent (q : Sequencer) (x : Side) (e : Emit ArmRecord) : Emit Sequencer :=
  e.andThen fun a => q.finish (q.setArm x a) false

/-- The state timer of an arm in a given state has run out. -/
def Sequencer.armDue (q : Sequencer) (x : Side) (t : Moment) : Bool := q.mode.working && due t.now (q.arm x).timer

/-- A failed attempt: the count rises; within the limit the motion is TIMED_OUT and `retry` follows, past it FAULT. -/
def ArmRecord.failAttempt (a : ArmRecord) (x : Side) (t : Moment) (retry : ArmRecord → ArmRecord) : Emit ArmRecord :=
  let a := { a with attempts := a.attempts + 1 }
  if a.attempts ≤ a.settings.retryLimit then
    (a.closeMotion x t .timedOut none).andThen fun a => .pure (retry a)
  else a.toFault x t false .retryLimit

/-- The swing timer expires (09 R145). -/
def Sequencer.swingExpiry (q : Sequencer) (t : Moment) (x : Side) : Emit Sequencer :=
  if q.armDue x t then
    match (q.arm x).state with
    | .swingingOut => q.armEvent x ((q.arm x).failAttempt x t fun a => a.wait t .swingOut)
    | .swingingIn => q.armEvent x ((q.arm x).failAttempt x t fun a => a.wait t .swingIn)
    | .stowed | .lowering | .working | .yielding | .raising | .raised | .retryWait | .fault => .pure q
  else .pure q

/-- The retry wait expires (09 R145): the swing starts again under the motion opened at its entry. -/
def Sequencer.retryExpiry (q : Sequencer) (t : Moment) (x : Side) : Emit Sequencer :=
  if q.armDue x t && (q.arm x).state == .retryWait then
    let a := q.arm x
    q.armEvent x (.pure (if a.retries .swingIn then a.swingIn t else a.swingOut t))
  else .pure q

/-- The lower time expires (09 R144). -/
def Sequencer.lowerExpiry (q : Sequencer) (t : Moment) (x : Side) : Emit Sequencer :=
  if q.armDue x t && (q.arm x).state == .lowering then
    q.armEvent x (.pure ((q.arm x).enter .working none))
  else .pure q

/-- The yield time expires (09 R146). -/
def Sequencer.yieldExpiry (q : Sequencer) (t : Moment) (x : Side) : Emit Sequencer :=
  if q.armDue x t && (q.arm x).state == .yielding then
    q.armEvent x ((q.arm x).failAttempt x t fun a => { a.raise t with afterFail := true })
  else .pure q

/-- The lift time expires (09 R147). -/
def Sequencer.liftExpiry (q : Sequencer) (t : Moment) (x : Side) : Emit Sequencer :=
  if q.armDue x t && (q.arm x).state == .raising then
    let a := q.arm x
    q.armEvent x
      (.pure
        (if !q.wantedOut x then { a with afterFail := false }.startIn t
        else if a.afterFail && !(q.armCauses x).any then a.wait t .swingOut
        else (a.enter .raised none).advance t (q.free x)))
  else .pure q

/-- The main broom's timer has run out in a working mode. -/
def Sequencer.mainDue (q : Sequencer) (t : Moment) : Bool := q.mode.working && due t.now q.main.timer

/-- The main broom's lower time expires (09 R155). -/
def Sequencer.mainLowerExpiry (q : Sequencer) (t : Moment) : Emit Sequencer :=
  if q.mainDue t && q.main.state == .lowering then q.finish { q with main := q.main.enter .down none } false
  else .pure q

/-- The main broom's lift time expires (09 R155): UP, and LOWERING at once if wanted down. -/
def Sequencer.mainLiftExpiry (q : Sequencer) (t : Moment) : Emit Sequencer :=
  if q.mainDue t && q.main.state == .lifting then
    q.finish { q with main := (q.main.enter .up none).advance t q.wantedDown } false
  else .pure q

/-! ### Pressure regulation (09 R154) -/

/-- The pressure command moves by 20 outside a band of 100 kPa about the target. -/
def regulate (target : Nat) (measured : Int) (press : Nat) : Nat :=
  if measured < (target : Int) - 100 then min 1000 (press + 20)
  else if (target : Int) + 100 < measured then press - 20
  else press

/-- One arm at a regulation step: frozen while the data are stale or the pressure has no value. -/
def ArmRecord.regulated (a : ArmRecord) (target : Nat) (stale : Bool) : ArmRecord :=
  if a.state.sweeping && !stale then
    match a.pressure with
    | some p => { a with press := regulate target p a.press }
    | none => a
  else a

/-- The regulation step timer expires (09 R154). -/
def Sequencer.regulationStep (q : Sequencer) (now : Time) : Sequencer :=
  match q.regTimer with
  | none => q
  | some e =>
    if reached now e then
      let target := min q.pressTarget q.armPressMax
      { q with regTimer := some (after e regulationInterval)
               left := q.left.regulated target q.stale
               right := q.right.regulated target q.stale }
    else q

/-! ### HALTED, SERVICE, START, RESTART (09 R156 to R158) -/

/-- An arm at HALTED or SERVICE entry. -/
def ArmRecord.halt (a : ArmRecord) (x : Side) (t : Moment) : Emit ArmRecord :=
  (a.closeMotion x t .aborted (some .halt)).andThen fun a =>
    .pure { a with timer := none, swing := 0, broom := 0, press := 0, lift := false }

/-- The main broom at HALTED or SERVICE entry. -/
def MainRecord.halt (b : MainRecord) : MainRecord := { b with timer := none, broom := 0, lift := false }

/-- The entry of R156 (log 10); the left arm's notices come before the right arm's (log 38). -/
def Sequencer.halt (q : Sequencer) (t : Moment) (m : Mode) : Emit Sequencer :=
  (q.left.halt .left t).andThen fun l =>
    (q.right.halt .right t).andThen fun r =>
      q.finish { q with mode := m, left := l, right := r, main := q.main.halt, regTimer := none } false

/-- The mode controller offers a mode. -/
def Sequencer.takeMode (q : Sequencer) (t : Moment) (m : Mode) : Emit Sequencer :=
  if m.working then q.event { q with mode := m } t else q.halt t m

/-- An arm re-evaluated at START (09 R157). -/
def ArmRecord.start (a : ArmRecord) (x : Side) (t : Moment) : Emit ArmRecord :=
  let a := { a with attempts := 0, fault := none }
  if a.liftFailed then a.toFault x t false .liftFailed
  else if a.inStow then .pure (a.enter .stowed none)
  else .pure (a.raise t)

/-- The main broom re-evaluated at START (09 R157; log 20). -/
def MainRecord.start (b : MainRecord) (t : Moment) : MainRecord :=
  let b := { b with fault := none }
  if b.liftFailed then { b.enter .fault none with fault := some .liftFailed }
  else if b.state = .up then b.enter .up none
  else b.enter .lifting (some (after t.now mainLiftTime))

/-- START (09 R157); the left arm's notices come before the right arm's (log 38). -/
def Sequencer.start (q : Sequencer) (t : Moment) : Emit Sequencer :=
  (q.left.start .left t).andThen fun l =>
    (q.right.start .right t).andThen fun r =>
      q.finish { q with mode := .transport, left := l, right := r, main := q.main.start t,
                        regTimer := some (after t.now regulationInterval) } true

/-- An arm at RESTART, after the HALTED entry (09 R158). -/
def ArmRecord.restart (a : ArmRecord) : ArmRecord :=
  { a with outcomes := [], attempts := 0, afterFail := false, fault := none, command := .auto
           state := if a.state = .fault then .raised else a.state }

/-- The main broom at RESTART (09 R158). -/
def MainRecord.restart (b : MainRecord) : MainRecord :=
  { b with fault := none, command := .auto, state := if b.state = .fault then .up else b.state }

/-- RESTART (09 R158), after the HALTED entry. -/
def Sequencer.restart (q : Sequencer) : Emit Sequencer :=
  q.finish { q with left := q.left.restart, right := q.right.restart, main := q.main.restart } false

/-! ### Writes and OUTPUT (09 R140, 02 R37) -/

/-- A WRITE of IMPLEMENTS (09 R140). -/
def Sequencer.writeSettings (q : Sequencer) (mode : Mode) (i : Nat) (x : ArmSettings) : Emit Sequencer × Reply :=
  if i = 2 then (.pure q, .no .notPermitted)
  else if !mode.configurable then (.pure q, .no .wrongMode)
  else if i = 0 then (.pure { q with left := { q.left with settings := x } }, .done)
  else (.pure { q with right := { q.right with settings := x } }, .done)

/-- A service value of a coil or a LIFT position is set (02 R37). -/
def Sequencer.output (q : Sequencer) (target : OutputTarget) (v : Int) : Emit Sequencer :=
  let p := match target with
    | .broomM => { q with main := { q.main with broom := v.toNat } }
    | .broomArm x => q.setArm x { q.arm x with broom := v.toNat }
    | .swing x => q.setArm x { q.arm x with swing := v }
    | .press x => q.setArm x { q.arm x with press := v.toNat }
    | .lift x => q.setArm x { q.arm x with lift := v == 1 }
    | .liftM => { q with main := { q.main with lift := v == 1 } }
    | .driveFwd | .driveRev | .pump | .nozzle _ | .prime => q
  q.finish p false

end Sys2Proof.Machine
end

