-- ==== Sys2Proof/Machine/Water.lean ====
section
/-! DEFINITION. The water controller (10 sections 10.1 to 10.5): eligibility, duties, demand, states, tank latch, auto
cut, the WATER request, HALTED, SERVICE, START and RESTART. -/

namespace Sys2Proof.Machine

/-! ### Eligibility, duty and demand (10 R161) -/

/-- An association is satisfied. -/
def WaterCopies.satisfies (c : WaterCopies) (a : Association) : Bool :=
  match a with
  | .none => true
  | .main => c.main == .down
  | .armL => c.armL == .working || c.armL == .yielding
  | .armR => c.armR == .working || c.armR == .yielding

/-- The groups whose association is satisfied. -/
def Water.satisfied (w : Water) : GroupSet :=
  BitVec.ofNat 12
    (twelve.foldl (fun n i => if w.copies.satisfies (w.associations.get i) then n + 2 ^ i.val else n) 0)

/-- The groups that are eligible but for the ground condition. -/
def Water.eligibleButGround (w : Water) : GroupSet :=
  w.copies.groups &&& ~~~w.exclusion &&& ~~~w.copies.failed &&& w.satisfied

/-- The eligible groups. -/
def Water.eligibleNow (w : Water) : GroupSet :=
  match w.copies.ground with
  | .present => w.eligibleButGround
  | .lost => w.eligibleButGround &&& w.settings.exempt

/-- The wanted duty for an eligible set. -/
def Water.wantedNow (w : Water) (eligible : GroupSet) : Nat :=
  min 1000 (w.copies.groundSpeed * groupCount eligible * w.copies.dose / 1000)

/-- The allowed duty for a wanted duty. -/
def Water.allowedNow (w : Water) (wanted : Nat) : Nat :=
  if w.copies.cw = 0 then wanted else min wanted (w.copies.row.grant * 1000 / w.copies.cw)

/-- The demand for a wanted duty. -/
def Water.demandNow (w : Water) (wanted : Nat) : Nat :=
  if w.copies.mode == .sweep && w.enable && !w.tankEmpty then wanted * w.copies.cw / 1000 else 0

/-- Eligible set, duties and demand worked out afresh. -/
def Water.takeDuties (w : Water) : Water :=
  let eligible := w.eligibleNow
  let wanted := w.wantedNow eligible
  { w with eligible := eligible, wanted := wanted, allowed := w.allowedNow wanted, demand := w.demandNow wanted }

/-! ### Conditions (10 R162, R163) -/

/-- What the prime and the spray conditions share. -/
def Water.open (w : Water) : Bool :=
  w.copies.mode == .sweep && w.enable && !w.tankEmpty && !w.copies.cutWater && w.eligible != 0 &&
    w.copies.row.state != .held

/-- The prime conditions (10 R162). -/
def Water.mayPrime (w : Water) : Bool := w.open && !w.copies.primeFailed

/-- The ground speed below which the machine is at standstill. -/
def standstillSpeed : Nat := 200

/-- The least allowed duty to spray. -/
def leastDuty : Nat := 150

/-- The spray conditions (10 R163). -/
def Water.maySpray (w : Water) : Bool :=
  w.open && standstillSpeed ≤ w.copies.groundSpeed && leastDuty ≤ w.allowed

/-! ### States (10 section 10.3) -/

/-- How long the lines are taken to be full, in ms. -/
def wetTime : Nat := 10000

/-- The pump's coil while priming. -/
def primeDuty : Nat := 400

/-- PRIMING is entered. -/
def Water.startPrime (w : Water) (now : Time) : Water :=
  { w with state := .priming, primeTimer := some (after now w.settings.primeTime) }

/-- IDLE_WAIT is entered with the lines full. -/
def Water.idleWet (w : Water) (now : Time) : Water :=
  { w with state := .idleWait, primeTimer := none, wetUntil := after now wetTime, wet := true }

/-- Another state is entered; the prime timer stops. -/
def Water.enter (w : Water) (s : WaterState) : Water := { w with state := s, primeTimer := none }

/-- The state OFF, with the prime conditions tested. -/
def Water.offOrPrime (w : Water) (now : Time) : Water :=
  if w.mayPrime then w.startPrime now else w.enter .off

/-- The mode is not SWEEP, or enable is off. -/
def Water.shut (w : Water) : Bool := w.copies.mode != .sweep || !w.enable

/-- The state after a re-evaluation (10 R162, R163, R165). -/
def Water.transit (w : Water) (now : Time) : Water :=
  match w.state with
  | .off =>
    if w.copies.mode == .sweep && w.tankEmpty then w.enter .empty else w.offOrPrime now
  | .priming =>
    if w.shut then w.enter .off
    else if w.tankEmpty then w.enter .empty
    else if w.mayPrime then w
    else w.enter .idleWait
  | .spraying =>
    if w.shut then w.enter .off
    else if w.tankEmpty then w.enter .empty
    else if w.maySpray then w
    else w.idleWet now
  | .idleWait =>
    if w.shut then w.enter .off
    else if w.tankEmpty then w.enter .empty
    else if w.maySpray then
      if w.wet then w.enter .spraying
      else if w.copies.primeFailed then w
      else w.startPrime now
    else w
  | .empty =>
    if w.copies.mode != .sweep then w.enter .off
    else if w.tankEmpty then w
    else w.offOrPrime now

/-- The coil and the requests of the state (10 R164). In SERVICE the PRIME request is the service value. -/
def Water.drive (w : Water) : Water :=
  { w with
    pump := match w.state with
      | .priming => primeDuty
      | .spraying => w.allowed
      | .off | .idleWait | .empty => 0
    nozzles := if w.state = .spraying then w.eligible else 0
    prime := if w.copies.mode = .service then w.prime else w.state == .priming }

/-- What has changed since `old` is offered (order: log 41). -/
def Water.finish (old w : Water) : Emit Water :=
  ⟨w, offerIf (w.nozzles != old.nozzles || w.prime != old.prime) (.chainWater w.nozzles w.prime) ++
    offerIf (w.demand != old.demand) (.demand .water w.demand)⟩

/-- A re-evaluation (10 R160): duties, state, outputs, offers. -/
def Water.reevaluate (old w : Water) (now : Time) : Emit Water :=
  old.finish (w.takeDuties.transit now).drive

/-- The prime timer expires (10 R162). -/
def Water.primeExpiry (w : Water) (now : Time) : Emit Water :=
  if w.state == .priming && due now w.primeTimer then
    w.finish (if w.maySpray then w.enter .spraying else w.idleWet now).drive
  else .pure w

/-- The wet-until time is reached (log 8). -/
def Water.tick (w : Water) (now : Time) : Water := if now = w.wetUntil then { w with wet := false } else w

/-! ### Offers taken (10 R160) -/

/-- A copy is replaced and the controller re-evaluates. -/
def Water.takeCopies (w : Water) (now : Time) (c : WaterCopies) : Emit Water :=
  w.reevaluate { w with copies := c } now

/-- The tank latch after a level (10 R165). -/
def Water.latch (w : Water) (level : Option Int) : Emit Water :=
  match level with
  | none => .pure w
  | some l =>
    if !w.tankEmpty && l < w.settings.emptyLevel then
      ⟨{ w with tankEmpty := true }, [.post .tankEmpty 0 l]⟩
    else if w.tankEmpty && (w.settings.refillLevel : Int) < l then
      ⟨{ w with tankEmpty := false }, [.post .tankRefilled 0 l]⟩
    else .pure w

/-- A published TANK_LEVEL. -/
def Water.takeTank (w : Water) (now : Time) (level : Option Int) : Emit Water :=
  (w.latch level).andThen fun v => w.reevaluate { v with copies := { v.copies with tankLevel := level } } now

/-- The path counter and an advance; the advance counts while SPRAYING (10 R164). -/
def Water.takePath (w : Water) (now : Time) (path advance : Nat) : Emit Water :=
  let sprayed := if w.state = .spraying then min max32 (w.sprayed + advance) else w.sprayed
  w.reevaluate { w with sprayed := sprayed, copies := { w.copies with path := path, advance := advance } } now

/-- A ground loss (10 R166): the auto cut flag is set when groups are cut while PRIMING or SPRAYING. -/
def Water.autoCutTest (w : Water) : Emit Water :=
  let count := groupCount (w.eligibleButGround &&& ~~~w.settings.exempt)
  if (w.state == .priming || w.state == .spraying) && 0 < count then
    ⟨{ w with autoCut := true }, [.post .autoCut 0 count]⟩
  else .pure w

/-- A regain (10 R166). -/
def Water.autoCutEnds (w : Water) : Emit Water :=
  if w.autoCut then ⟨{ w with autoCut := false }, [.post .autoCutEnd 0 (groupCount w.eligible)]⟩ else .pure w

/-- Ground status and ground speed. -/
def Water.takeGround (w : Water) (now : Time) (status : GroundStatus) (speed : Nat) : Emit Water :=
  let c := { w.copies with ground := status, groundSpeed := speed }
  match w.copies.ground, status with
  | .present, .lost => w.autoCutTest.andThen fun v => w.reevaluate { v with copies := c } now
  | .lost, .present => (w.takeCopies now c).andThen Water.autoCutEnds
  | .present, .present | .lost, .lost => w.takeCopies now c

/-- The failed positions; in SERVICE a failing PRIME loses its service value (02 R37). -/
def Water.takeFailed (w : Water) (now : Time) (groups : GroupSet) (prime : Bool) : Emit Water :=
  w.reevaluate
    { w with prime := w.prime && !(prime && !w.copies.primeFailed)
             copies := { w.copies with failed := groups, primeFailed := prime } } now

/-- Enable on, exclusion set empty. -/
def Water.defaults (w : Water) : Water := { w with enable := true, exclusion := 0 }

/-- The holder of WATER changes (10 R167). -/
def Water.holderChanged (w : Water) (now : Time) : Emit Water := w.reevaluate w.defaults now

/-- The mode controller offers a mode; entering SERVICE takes PRIME off (10 R168, 02 R36). -/
def Water.takeMode (w : Water) (now : Time) (m : Mode) : Emit Water :=
  w.reevaluate { w with prime := w.prime && m != .service, copies := { w.copies with mode := m } } now

/-- START (10 R168). The path copies follow the cleared counter (log 11). -/
def Water.start (w : Water) (now : Time) : Emit Water :=
  w.reevaluate { w with sprayed := 0, copies := { w.copies with mode := .transport, path := 0, advance := 0 } } now

/-- RESTART, after the HALTED entry (10 R168). The path copies follow the cleared counter (log 11). -/
def Water.restart (w : Water) (now : Time) : Emit Water :=
  w.reevaluate
    { w.defaults with wetUntil := 0, wet := false, sprayed := 0, copies := { w.copies with path := 0, advance := 0 } }
    now

/-! ### Requests and writes (10 R159, R167) -/

/-- A WATER whose values are in range and whose station holds WATER (10 R167). -/
def Water.request (w : Water) (now : Time) (enable : Bool) (exclusion : GroupSet) : Emit Water :=
  w.reevaluate { w with enable := enable, exclusion := exclusion } now

/-- A WRITE of WATER (10 R159). -/
def Water.writeSettings (w : Water) (mode : Mode) (x : WaterSettings) : Emit Water × Reply :=
  if !mode.configurable then (.pure w, .no .wrongMode)
  else if x.refillLevel ≤ x.emptyLevel then (.pure w, .no .badValue)
  else (.pure { w with settings := x }, .done)

/-- A WRITE of ASSOCIATION (10 R159). -/
def Water.writeAssociation (w : Water) (mode : Mode) (i : Fin 12) (a : Association) : Emit Water × Reply :=
  if mode.configurable then (.pure { w with associations := setAt w.associations i a }, .done)
  else (.pure w, .no .wrongMode)

/-- The service value of PRIME is set (02 R37). -/
def Water.outputPrime (w : Water) (v : Bool) : Emit Water := w.finish { w with prime := v }

end Sys2Proof.Machine
end

