-- ==== Sys2Proof/Machine/Windows.lean ====
section
/-! DEFINITION. The window monitor (04): evaluation of conversions, latches, outputs, writes, RESTART. -/

namespace Sys2Proof.Machine

/-- The outputs are derived afresh and each changed one is offered (04 R70 to R73; order: log 41). -/
def Monitor.rederive (m : Monitor) : Emit Monitor :=
  let o := m.derive
  ⟨{ m with outputs := o },
    offerIf (o.derate != m.outputs.derate) (.budgetDerate o.derate) ++
      offerIf (o.cutWater != m.outputs.cutWater) (.waterCut o.cutWater) ++
      offerIf (o.liftArms != m.outputs.liftArms) (.sequencerLift o.liftArms) ++
      offerIf (o.stopTravel != m.outputs.stopTravel) (.governorStop o.stopTravel) ++
      offerIf (o.halt != m.outputs.halt) (.haltOutput o.halt)⟩

/-- A condition is true of a raw result (04 R68). -/
def Sense.holds (x : Sense) (w : Window) (raw : Nat) : Bool :=
  match x with
  | .inside => w.low < raw && raw < w.high
  | .outside => raw < w.low || w.high < raw

/-- A conversion is evaluated (04 R68). -/
def Monitor.evaluate (m : Monitor) (now : Time) (ch : Fin 16) (raw : Nat) : Emit Monitor :=
  let a := m.assignments.get ch
  match a.window with
  | none => .pure m
  | some w =>
    if a.sense.holds (m.windows.get w) raw && !a.latched then
      let m := { m with assignments := setAt m.assignments ch { a with latched := true, tripRaw := raw, tripTime := now } }
      let e := m.rederive
      ⟨e.val, .post .windowTrip ch.val raw :: e.out⟩
    else .pure m

/-- A latch cleared. -/
def Assignment.clear (a : Assignment) : Assignment := { a with latched := false, tripRaw := 0, tripTime := 0 }

/-- The latches of a set of channels cleared. -/
def Monitor.clearLatches (m : Monitor) (set : Mask) : Monitor :=
  { m with
    assignments := Vector.ofFn fun ch =>
      let a := m.assignments.get ch
      if set.getLsbD ch.val && a.latched then a.clear else a }

/-- The channels latched. -/
def Monitor.latchedSet (m : Monitor) : Mask := maskOf fun ch => (m.assignments.get ch).latched

/-- CLEAR_LATCH (04 R69). -/
def Monitor.clearLatch (m : Monitor) (set : Mask) : Emit Monitor × Reply :=
  if set = 0 then (.pure m, .no .badValue)
  else
    let e := (m.clearLatches set).rederive
    (e, .okWith (bytes2 e.val.latchedSet.toNat))

/-- A WRITE of WINDOWS (04 R66). -/
def Monitor.writeWindow (m : Monitor) (i : Fin 6) (w : Window) : Emit Monitor × Reply :=
  if w.high < w.low then (.pure m, .no .badValue)
  else (Monitor.rederive { m with windows := setAt m.windows i w }, .done)

/-- An assignment after a WRITE: another window, or none, clears a set latch (04 R67). -/
def Assignment.rewrite (a : Assignment) (x : AssignmentWrite) : Assignment :=
  let a' := { a with window := x.window, sense := x.sense }
  if a.latched && x.window != a.window then a'.clear else a'

/-- A WRITE of ASSIGNMENTS (04 R67). -/
def Monitor.writeAssignment (m : Monitor) (i : Fin 16) (x : AssignmentWrite) : Emit Monitor × Reply :=
  (Monitor.rederive { m with assignments := setAt m.assignments i ((m.assignments.get i).rewrite x) }, .done)

/-- RESTART (04 R74). -/
def Monitor.restart (m : Monitor) : Emit Monitor := (m.clearLatches 0xFFFF).rederive

end Sys2Proof.Machine
end

