-- ==== Sys2Proof/Machine/Settle.lean ====
section
/-! DEFINITION. How offers reach their receivers: `deliver` takes one offer as one event of one block, `settle` takes
the offers of a command first in, first out, those made meanwhile going to the end (log 5). -/

namespace Sys2Proof.Machine

/-! ### A block's event in the state -/

/-- The mode controller after an event, with its offers. -/
def State.withMc (s : State) (e : Emit ModeController) : State := (s.setMc e.val).emit e.out
/-- The scanner after an event, with its offers. -/
def State.withScanner (s : State) (e : Emit Scanner) : State := (s.setScanner e.val).emit e.out
/-- The window monitor after an event, with its offers. -/
def State.withMonitor (s : State) (e : Emit Monitor) : State := (s.setMonitor e.val).emit e.out
/-- The pulse unit after an event, with its offers. -/
def State.withPulse (s : State) (e : Emit Pulse) : State := (s.setPulse e.val).emit e.out
/-- The profile selector after an event, with its offers. -/
def State.withSelector (s : State) (e : Emit Selector) : State := (s.setSelector e.val).emit e.out
/-- The budget table after an event, with its offers. -/
def State.withBudget (s : State) (e : Emit Budget) : State := (s.setBudget e.val).emit e.out
/-- The travel governor after an event, with its offers. -/
def State.withGovernor (s : State) (e : Emit Governor) : State := (s.setGovernor e.val).emit e.out
/-- The implement sequencer after an event, with its offers. -/
def State.withSequencer (s : State) (e : Emit Sequencer) : State := (s.setSequencer e.val).emit e.out
/-- The water controller after an event, with its offers. -/
def State.withWater (s : State) (e : Emit Water) : State := (s.setWater e.val).emit e.out
/-- The valve chain driver after an event, with its offers. -/
def State.withChain (s : State) (e : Emit Chain) : State := (s.setChain e.val).emit e.out

/-- The time counter and the path counter. -/
def State.moment (s : State) : Moment := ⟨s.mc.time, s.pulse.path⟩

/-! ### Offers by receiver -/

/-- The holder of a domain has changed: its job is informed (02 R42). -/
def State.holderChanged (s : State) : Domain → State
  | .travel => s.withGovernor (s.governor.holderChanged s.mc.time)
  | .implements => s.withSequencer (s.sequencer.holderChanged s.moment)
  | .water => s.withWater (s.water.holderChanged s.mc.time)

/-- One offer is taken by its receiver. -/
def deliver (o : Offer) (s : State) : State :=
  match o with
  | .post kind subject value => s.post kind subject value
  | .postTo port kind subject value => s.postTo port kind subject value
  | .scannerHalted => s.setScanner s.scanner.halted
  | .scannerStart => s.setScanner (s.scanner.start s.mc.time)
  | .scannerRestart => s.withScanner s.scanner.restart
  | .monitorRestart => s.withMonitor s.monitor.restart
  | .pulseStart => s.setPulse s.pulse.start
  | .pulseRestart => s.withPulse (s.pulse.restart s.mc.time)
  | .selectorStart => s.withSelector s.selector.start
  | .selectorRestart => s.withSelector s.selector.restart
  | .budgetMode m => s.withBudget (s.budget.takeMode s.mc.time m)
  | .budgetStart order => s.withBudget (s.budget.start s.mc.time order)
  | .budgetRestart => s.withBudget (s.budget.restart s.mc.time)
  | .governorMode m => s.withGovernor (s.governor.takeMode s.mc.time m)
  | .governorStart => s.withGovernor (s.governor.start s.mc.time)
  | .sequencerMode m => s.withSequencer (s.sequencer.takeMode s.moment m)
  | .sequencerStart => s.withSequencer (s.sequencer.start s.moment)
  | .sequencerRestart => s.withSequencer s.sequencer.restart
  | .waterMode m => s.withWater (s.water.takeMode s.mc.time m)
  | .waterStart => s.withWater (s.water.start s.mc.time)
  | .waterRestart => s.withWater (s.water.restart s.mc.time)
  | .chainMode m => s.setChain (s.chain.takeMode m)
  | .chainRestart => s.withChain s.chain.restart
  | .holderChanged d => s.holderChanged d
  | .governorLimits l =>
    s.withGovernor
      (s.governor.takeCopies s.mc.time
        { s.governor.copies with fwdCap := l.fwdCap, revCap := l.revCap, transportCap := l.transportCap })
  | .sequencerLimits l => s.withSequencer (s.sequencer.takeLimits s.moment l)
  | .governorStale flag =>
    s.withGovernor (s.governor.takeCopies s.mc.time { s.governor.copies with stale := flag })
  | .sequencerStale flag => s.setSequencer (s.sequencer.takeStale flag)
  | .governorGrade g => s.withGovernor (s.governor.takeCopies s.mc.time { s.governor.copies with grade := g })
  | .sequencerMeasures posL posR pressL pressR =>
    s.withSequencer (s.sequencer.takeMeasures s.moment posL posR pressL pressR)
  | .waterTank level => s.withWater (s.water.takeTank s.mc.time level)
  | .budgetDerate total => s.withBudget (s.budget.takeDerate s.mc.time total)
  | .waterCut active => s.withWater (s.water.takeCopies s.mc.time { s.water.copies with cutWater := active })
  | .sequencerLift active => s.withSequencer (s.sequencer.takeLift s.moment active)
  | .governorStop active =>
    s.withGovernor (s.governor.takeCopies s.mc.time { s.governor.copies with stopTravel := active })
  | .haltOutput active => s.withMc (s.mc.takeHalt active)
  | .selectorPath path advance => s.withSelector (s.selector.pathAdvance path advance)
  | .waterPath path advance => s.withWater (s.water.takePath s.mc.time path advance)
  | .governorMotor speed direction ground slip windowEnd =>
    s.withGovernor (s.governor.takeMotor s.mc.time speed direction ground slip windowEnd)
  | .governorGround status ground slip => s.withGovernor (s.governor.takeGround s.mc.time status ground slip)
  | .waterGround status speed => s.withWater (s.water.takeGround s.mc.time status speed)
  | .budgetRanks order => s.withBudget (s.budget.takeRanks s.mc.time order)
  | .governorCap cap => s.withGovernor (s.governor.takeCopies s.mc.time { s.governor.copies with speedCap := cap })
  | .sequencerProfile row => s.withSequencer (s.sequencer.takeProfile s.moment row)
  | .waterProfile groups dose =>
    s.withWater (s.water.takeCopies s.mc.time { s.water.copies with groups := groups, dose := dose })
  | .governorCoefficients ct cg =>
    s.withGovernor (s.governor.takeCopies s.mc.time { s.governor.copies with ct := ct, cg := cg })
  | .sequencerCoefficients cm cb => s.withSequencer (s.sequencer.takeCoefficients s.moment cm cb)
  | .waterCoefficient cw => s.withWater (s.water.takeCopies s.mc.time { s.water.copies with cw := cw })
  | .demand c points => s.withBudget (s.budget.takeDemand s.mc.time c points)
  | .governorGrant g =>
    s.withGovernor (s.governor.takeCopies s.mc.time { s.governor.copies with grant := g.grant })
  | .sequencerGrants main armL armR => s.withSequencer (s.sequencer.takeGrants s.moment main armL armR)
  | .waterGrant g => s.withWater (s.water.takeCopies s.mc.time { s.water.copies with row := g })
  | .liftForReverse flag => s.withSequencer (s.sequencer.takeReverse s.moment flag)
  | .governorImplements r => s.withGovernor (s.governor.takeImplements s.mc.time r)
  | .waterImplements armL armR main =>
    s.withWater
      (s.water.takeCopies s.mc.time { s.water.copies with armL := armL, armR := armR, main := main })
  | .modeImplements armL armR main => s.withMc (s.mc.takeImplements armL armR main)
  | .chainLifts l r m => s.setChain (s.chain.takeLifts l r m)
  | .chainWater nozzles prime => s.setChain (s.chain.takeWater nozzles prime)
  | .sequencerLiftFailed l r m => s.withSequencer (s.sequencer.takeFailed s.moment l r m)
  | .waterFailed groups prime => s.withWater (s.water.takeFailed s.mc.time groups prime)

/-- Offers are taken first in, first out, at most `n` of them. -/
def settleN : Nat → State → State
  | 0, s => s
  | n + 1, s =>
    match s.offers with
    | [] => s
    | o :: os => settleN n (deliver o (s.setOffers os))

/-- The offers of a command are taken (log 5). -/
def State.settle (s : State) : State := settleN Config.offerBound s

end Sys2Proof.Machine
end

