-- ==== Sys2Proof/Machine/Tables.lean ====
section
/-! DEFINITION. READ and WRITE (01 R18 to R21): the encoding of every table's records as they stand, the READ answer,
and what an accepted WRITE does by table. -/

namespace Sys2Proof.Machine

/-! ### Enumeration numbers of the records (01 R18) -/

/-- Scan states (03 section 3.6). -/
def ScanState.number : ScanState → Nat
  | .stopped => 0
  | .converting => 1
  | .waiting => 2
  | .paused => 3

/-- Window actions (04 R66). -/
def WindowAction.number : WindowAction → Nat
  | .notice => 0
  | .derate => 1
  | .cutWater => 2
  | .liftArms => 3
  | .stopTravel => 4
  | .halt => 5

/-- Senses (04 R67). -/
def Sense.number : Sense → Nat
  | .inside => 0
  | .outside => 1

/-- Directions (05 section 5.2). -/
def Direction.number : Direction → Nat
  | .forward => 0
  | .reverse => 1
  | .none => 2

/-- Ground status (05 section 5.2). -/
def GroundStatus.number : GroundStatus → Nat
  | .present => 0
  | .lost => 1

/-- Path sources (05 section 5.2). -/
def PathSource.number : PathSource → Nat
  | .ground => 0
  | .motor => 1

/-- Arms used (06 R86). -/
def ArmsUsed.number : ArmsUsed → Nat
  | .l => 0
  | .r => 1
  | .both => 2
  | .none => 3

/-- Row states (07 R104). -/
def RowState.number : RowState → Nat
  | .full => 0
  | .trimmed => 1
  | .held => 2

/-- Reserve sources (07 R114). -/
def ReserveSource.number : ReserveSource → Nat
  | .reported => 0
  | .fallback => 1

/-- Governor states (08 R121). -/
def GovernorState.number : GovernorState → Nat
  | .standstill => 0
  | .forward => 1
  | .reverse => 2
  | .directionHold _ => 3
  | .stopping => 4

/-- Limiting terms (08 R121). -/
def CeilingTerm.number : CeilingTerm → Nat
  | .mode => 0
  | .stopTrip => 1
  | .interlock => 2
  | .creep => 3
  | .grant => 4
  | .direction => 5

/-- Side-arm states (09 R140). -/
def ArmState.number : ArmState → Nat
  | .stowed => 0
  | .swingingOut => 1
  | .lowering => 2
  | .working => 3
  | .yielding => 4
  | .raising => 5
  | .raised => 6
  | .swingingIn => 7
  | .retryWait => 8
  | .fault => 9

/-- Main broom states, in the same list (09 R140). -/
def BroomState.number : BroomState → Nat
  | .lowering => 2
  | .fault => 9
  | .up => 10
  | .down => 11
  | .lifting => 12

/-- Arm commands (09 R140). -/
def ArmCommand.number : ArmCommand → Nat
  | .auto => 0
  | .out => 1
  | .in_ => 2

/-- Main broom commands (09 R140). -/
def BroomCommand.number : BroomCommand → Nat
  | .auto => 0
  | .up => 3

/-- Abort causes (09 R150). -/
def AbortCause.number : AbortCause → Nat
  | .liftRequest => 0
  | .stowRequest => 1
  | .halt => 2
  | .budgetHeld => 3
  | .trip => 4

/-- Water states (10 R159). -/
def WaterState.number : WaterState → Nat
  | .off => 0
  | .priming => 1
  | .spraying => 2
  | .idleWait => 3
  | .empty => 4

/-- Associations (10 R159). -/
def Association.number : Association → Nat
  | .none => 0
  | .main => 1
  | .armL => 2
  | .armR => 3

/-! ### Field encodings (01 R18) -/

/-- A number in one byte. -/
def enc1 (n : Nat) : List Byte := [byte n]

/-- A flag. -/
def encFlag (b : Bool) : List Byte := [flagByte b]

/-- An optional field whose value takes `size` bytes; absent, its bytes are zeros. -/
def encOption {α : Type} (size : Nat) (f : α → List Byte) : Option α → List Byte
  | some x => 1 :: f x
  | none => 0 :: List.replicate size 0

/-- A channel: X0..X15 as 0..15, NONE as 16. -/
def encChannel : Option (Fin 16) → List Byte
  | some c => enc1 c.val
  | none => enc1 16

/-- A port as an enumeration. -/
def encPort (p : Port) : List Byte := enc1 (portNumber p)

/-! ### Records by table -/

/-- PORTS (01 R21). -/
def encPortRecord (u : PortUnit) : List Byte :=
  enc1 u.state.number ++ enc1 u.errorCount ++ enc1 u.recoveryRun ++ encFlag u.overrun ++ enc1 u.authority.number ++
    enc1 u.subscriptions.toNat ++ enc1 u.notices.length ++ encFlag u.lostMarker

/-- CLAIMS (02 section 2.7). -/
def encClaim (c : Claim) : List Byte := encOption 1 encPort c.holder ++ bytes4 c.claimedAt.toNat

/-- LIMITS (02 section 2.8). -/
def encLimits (c : ModeController) : List Byte :=
  bytes2 c.limits.fwdCap ++ bytes2 c.limits.revCap ++ bytes2 c.limits.transportCap ++ bytes2 c.limits.armPressMax ++
    bytes2 c.limits.mainRpmMax ++ bytes2 c.limits.sideRpmMax ++ encFlag c.softLock ++ encFlag c.hardLock

/-- MACHINE (02 section 2.2). -/
def encMachine (s : State) : List Byte :=
  enc1 s.mc.mode.number ++ encFlag s.mc.estopAsserted ++ encFlag s.mc.haltTrip ++ enc1 s.readiness ++
    bytes4 s.mc.time.toNat ++ bytes4 s.mc.lastChange.toNat ++ enc1 s.mc.lastCause.number

/-- ROLE_MAP (03 R46). -/
def encRole (e : RoleEntry) : List Byte := encChannel e.channel ++ bytes2 e.offset ++ bytes2s e.scale

/-- SCAN_LIST (03 R49). -/
def encScanEntry (e : ScanEntry) : List Byte := enc1 e.channel.val ++ enc1 e.sample.val

/-- The data age (03 section 3.6). -/
def Scanner.dataAge (c : Scanner) (now : Time) : Nat :=
  if c.published.isEmpty then 65535 else min 65535 (interval now c.publishTime)

/-- SCAN_CONTROL (03 section 3.6); the action reads as NONE. -/
def encScanControl (c : Scanner) (now : Time) : List Byte :=
  enc1 c.period ++ bytes2 c.staleLimit ++ enc1 0 ++ enc1 c.state.number ++ encFlag c.continuous ++
    enc1 c.scanNumber.toNat ++ enc1 c.published.length ++ bytes4 c.publishTime.toNat ++ bytes2 (c.dataAge now) ++
    encFlag c.stale ++ encOption 1 encPort (c.hold.map Hold.holder) ++ enc1 (remaining now (c.hold.map Hold.expiry))

/-- The roles whose entry names a channel, as a set in role map order (03 R64). -/
def Scanner.rolesOf (c : Scanner) (ch : Fin 16) : Nat :=
  twelve.foldl (fun n i => if (c.roleMap.get i).channel = some ch then n + 2 ^ i.val else n) 0

/-- PUBLISHED_SET (03 R64). -/
def encPublished (c : Scanner) (r : Reading) : List Byte :=
  enc1 r.channel.val ++ bytes2 r.raw ++ bytes2 (c.rolesOf r.channel) ++ enc1 c.scanNumber.toNat

/-- WINDOWS (04 R66). -/
def encWindow (m : Monitor) (i : Fin 6) : List Byte :=
  bytes2 (m.windows.get i).low ++ bytes2 (m.windows.get i).high ++ enc1 (m.windows.get i).action.number ++
    bytes2 (m.windows.get i).derate ++ encFlag (m.indication i)

/-- ASSIGNMENTS (04 R67). -/
def encAssignment (a : Assignment) : List Byte :=
  enc1 (a.window.elim 6 Fin.val) ++ enc1 a.sense.number ++ encFlag a.latched ++ bytes2 a.tripRaw ++
    bytes4 a.tripTime.toNat

/-- PULSE (05 section 5.2). -/
def encPulse (u : Pulse) : List Byte :=
  bytes2 u.motorPpm ++ bytes2 u.groundPpm ++ enc1 u.window ++ bytes2 u.lossTime ++ bytes2 u.motorSpeed ++
    enc1 u.direction.number ++ bytes2 u.groundSpeed ++ enc1 u.status.number ++ enc1 u.source.number ++
    bytes4 u.path ++ bytes2 u.remainder ++ enc1 u.slip ++ enc1 u.regainRun

/-- PROFILES (06 R86). -/
def encProfile (r : Profile) : List Byte :=
  encFlag r.valid ++ bytes2 r.speedCap ++ bytes2 r.mainRpm ++ bytes2 r.sideRpm ++ bytes2 r.reachL ++
    bytes2 r.reachR ++ bytes2 r.pressTarget ++ bytes2 r.groups.toNat ++ enc1 r.dose ++
    (r.shedOrder.map fun c => byte (consumerNumber c)) ++ enc1 r.armsUsed.number

/-- ZONES (06 R88). -/
def encZone (z : Zone) : List Byte :=
  encFlag z.enabled ++ bytes4 z.code.toNat ++ enc1 z.profile.val ++
    encOption 4 (fun m : ZoneCode => bytes4 m.toNat) z.ownMask

/-- ZONE_MASK (06 R89). -/
def encZoneMask (x : Selector) : List Byte :=
  bytes4 x.sharedMask.toNat ++ enc1 x.zoneProfile.val ++ enc1 x.active.val ++ encFlag x.pinned ++
    enc1 x.queue.length ++ encOption 4 (fun m : ZoneCode => bytes4 m.toNat) x.lastCode

/-- CHANGE_QUEUE (06 R92). -/
def encChange (e : QueuedChange) : List Byte := bytes4 e.mark ++ enc1 e.profile.val ++ bytes4 e.code.toNat

/-- BUDGET (07 R104). -/
def encBudgetRow (r : BudgetRow) : List Byte :=
  bytes2 r.offered ++ bytes2 r.demand ++ bytes2 r.grant ++ enc1 r.rank ++ enc1 r.state.number ++
    encOption 4 (fun t : Time => bytes4 t.toNat) r.holdExpiry ++ enc1 r.floor

/-- COEFFICIENTS (07 R114). -/
def encCoefficients (b : Budget) (now : Time) : List Byte :=
  bytes2 b.coefficients.ct ++ bytes2 b.coefficients.cg ++ bytes2 b.coefficients.cm ++ bytes2 b.coefficients.cb ++
    bytes2 b.coefficients.cw ++ bytes2 b.coefficients.fallback ++ enc1 b.coefficients.margin ++
    bytes2 b.coefficients.holdTime ++ bytes2 b.reserve ++ enc1 b.source.number ++ encOption 1 encPort b.lastReporter ++
    bytes2 (remaining now b.leaseExpiry) ++ bytes2 b.derate ++ bytes2 b.ceiling ++ bytes2 b.rows.granted

/-- TRAVEL (08 R121). -/
def encTravel (g : Governor) (now : Time) : List Byte :=
  bytes2 g.settings.lease ++ bytes2 g.settings.rampUp ++ bytes2 g.settings.rampDown ++ bytes2 g.settings.creep ++
    enc1 g.settings.slipLimit ++ bytes2s g.request ++ bytes2 (remaining now g.leaseExpiry) ++ enc1 g.state.number ++
    bytes2s g.target ++ bytes2s g.command ++ bytes2 g.ceiling ++ enc1 g.limiting.number ++
    encFlag g.liftForReverse ++ encFlag g.reverseBlocked ++ enc1 g.cutLevel ++ bytes2 g.demand

/-- DRIVE_MAP (08 R122). -/
def encDriveMap (m : DriveMap) : List Byte :=
  bytes2 m.start ++ bytes2 m.full ++ bytes2 m.fullSpeed ++ encFlag m.valid

/-- A set of lift causes: REVERSE 1, TRIP 2, BUDGET 4 (09 R140). -/
def Causes.number (c : Causes) : Nat :=
  (if c.reverse then 1 else 0) + (if c.trip then 2 else 0) + (if c.budget then 4 else 0)

/-- The four settings of an IMPLEMENTS record. -/
def encArmSettings (x : ArmSettings) : List Byte :=
  bytes2 x.swingLimit ++ enc1 x.retryLimit ++ bytes2 x.swingDrive ++ bytes2 x.yieldDrive

/-- An optional fault cause. -/
def encFault (f : Option FaultCause) : List Byte := encOption 1 (fun c : FaultCause => enc1 c.number) f

/-- IMPLEMENTS, records 0 and 1 (09 R140; log 23). The pressure command is the coil as it stands, in SERVICE the service
value (log 47). -/
def encArm (q : Sequencer) (x : Side) (now : Time) : List Byte :=
  let a := q.arm x
  encArmSettings a.settings ++ enc1 a.state.number ++ enc1 a.command.number ++ enc1 a.attempts ++
    encOption 2 (fun p : Int => bytes2 p.toNat) a.position ++ bytes2 (q.armRpm x) ++ bytes2 a.press ++
    enc1 (q.armCauses x).number ++ encFault a.fault ++ bytes2 (remaining now a.timer)

/-- IMPLEMENTS, record 2 (09 R140). -/
def encMain (q : Sequencer) (now : Time) : List Byte :=
  encArmSettings q.main.settings ++ enc1 q.main.state.number ++ enc1 q.main.command.number ++ enc1 0 ++
    encOption 2 (fun p : Int => bytes2 p.toNat) none ++ bytes2 q.mainRpmNow ++ bytes2 0 ++
    enc1 q.mainCauses.number ++ encFault q.main.fault ++ bytes2 (remaining now q.main.timer)

/-- OUTCOMES_L and OUTCOMES_R (09 R150). -/
def encOutcome (r : OutcomeRecord) : List Byte :=
  enc1 r.motion.number ++ enc1 r.outcome.number ++ enc1 r.attempts ++ bytes4 r.path ++ bytes4 r.duration.toNat ++
    encOption 1 (fun c : AbortCause => enc1 c.number) r.abort

/-- WATER (10 R159). -/
def encWater (w : Water) : List Byte :=
  bytes2 w.settings.primeTime ++ bytes2 w.settings.exempt.toNat ++ bytes2 w.settings.emptyLevel ++
    bytes2 w.settings.refillLevel ++ encFlag w.enable ++ bytes2 w.exclusion.toNat ++ enc1 w.state.number ++
    encFlag w.tankEmpty ++ bytes2 w.eligible.toNat ++ bytes2 w.wanted ++ bytes2 w.allowed ++ bytes2 w.demand ++
    encFlag w.autoCut ++ bytes4 w.sprayed

/-- CHAIN (10 R169). -/
def encPosition (c : Chain) (i : Fin 16) : List Byte :=
  encFlag (c.requested.getLsbD i.val) ++ encFlag (c.wanted.getLsbD i.val) ++ encFlag (c.loaded.getLsbD i.val) ++
    encFlag (c.prevLoaded.getLsbD i.val) ++ encFlag (c.echo.getLsbD i.val) ++ encFlag (c.fault.getLsbD i.val) ++
    enc1 (c.counts.get i) ++ encFlag (c.failed.getLsbD i.val)

/-- The records of a table as they stand, in index order. -/
def State.records (s : State) (t : Table) : List (List Byte) :=
  match t with
  | .ports => [encPortRecord s.ports.s0, encPortRecord s.ports.s1, encPortRecord s.ports.s2]
  | .claims => [encClaim s.mc.claims.travel, encClaim s.mc.claims.implements, encClaim s.mc.claims.water]
  | .limits => [encLimits s.mc]
  | .machine => [encMachine s]
  | .roleMap => twelve.map fun i => encRole (s.scanner.roleMap.get i)
  | .scanList => s.scanner.scanList.map encScanEntry
  | .scanControl => [encScanControl s.scanner s.mc.time]
  | .publishedSet => s.scanner.published.map (encPublished s.scanner)
  | .windows => sixWindows.map (encWindow s.monitor)
  | .assignments => sixteen.map fun i => encAssignment (s.monitor.assignments.get i)
  | .pulse => [encPulse s.pulse]
  | .profiles => eightRows.map fun i => encProfile (s.selector.rows.get i)
  | .zones => sixteen.map fun i => encZone (s.selector.zones.get i)
  | .zoneMask => [encZoneMask s.selector]
  | .changeQueue => s.selector.queue.map encChange
  | .budget => consumers.map fun c => encBudgetRow (s.budget.rows.get c)
  | .coefficients => [encCoefficients s.budget s.mc.time]
  | .travel => [encTravel s.governor s.mc.time]
  | .driveMap => [encDriveMap s.governor.map]
  | .implements =>
    [encArm s.sequencer .left s.mc.time, encArm s.sequencer .right s.mc.time, encMain s.sequencer s.mc.time]
  | .outcomesL => s.sequencer.left.outcomes.map encOutcome
  | .outcomesR => s.sequencer.right.outcomes.map encOutcome
  | .water => [encWater s.water]
  | .association => twelve.map fun i => enc1 (s.water.associations.get i).number
  | .chain => sixteen.map (encPosition s.chain)

/-! ### READ (01 R19) -/

/-- How many data bytes of records a READ answer holds. -/
def readRoom : Nat := 29

/-- The records a READ returns. -/
def State.readRecords (s : State) (t : Table) (first count : Nat) : List (List Byte) :=
  ((s.records t).drop first).take (min count (readRoom / t.recordSize))

/-- READ (01 R19). -/
def State.read (s : State) (table first count : Nat) : Reply :=
  match Table.ofNumber table with
  | none => .no .badValue
  | some t =>
    if count = 0 ∨ t.capacity ≤ first then .no .badValue
    else
      let r := s.readRecords t first count
      .okWith (byte r.length :: r.flatten)

/-! ### WRITE (01 R20, 02 R25) -/

/-- The state after a block's part in a request, its offers taken, with the answer. -/
def State.took (s : State) (r : Reply) : State × Reply := (s.settle, r)

/-- A record that has passed the checks of 01 R20 and 02 R25 is taken by its owner. -/
def State.applyWrite (s : State) (index : Nat) (w : RecordWrite) : State × Reply :=
  match w with
  | .limits x =>
    let r := s.mc.writeLimits (s.selector.capsAbove x.fwdCap) x
    (s.withMc r.1).took r.2
  | .roleMap x =>
    match below 12 index with
    | none => (s, .no .badValue)
    | some i =>
      let r := s.scanner.writeRole s.mc.mode i x
      (s.withScanner r.1).took r.2
  | .scanList x =>
    let r := s.scanner.writeList s.mc.mode index x
    (s.withScanner r.1).took r.2
  | .scanControl x =>
    let r := s.scanner.writeControl s.mc.time s.mc.mode x
    (s.withScanner r.1).took r.2
  | .windows x =>
    match below 6 index with
    | none => (s, .no .badValue)
    | some i =>
      let r := s.monitor.writeWindow i x
      (s.withMonitor r.1).took r.2
  | .assignments x =>
    match below 16 index with
    | none => (s, .no .badValue)
    | some i =>
      let r := s.monitor.writeAssignment i x
      (s.withMonitor r.1).took r.2
  | .pulse x =>
    let r := s.pulse.write s.mc.time s.mc.mode x
    (s.withPulse r.1).took r.2
  | .profiles x =>
    match below 8 index with
    | none => (s, .no .badValue)
    | some i =>
      let r := s.selector.writeRow s.mc.mode s.mc.limits.fwdCap i x
      (s.withSelector r.1).took r.2
  | .zones x =>
    match below 16 index with
    | none => (s, .no .badValue)
    | some i =>
      let r := s.selector.writeZone i x
      (s.withSelector r.1).took r.2
  | .zoneMask x =>
    let r := s.selector.writeMask x
    (s.withSelector r.1).took r.2
  | .budget x =>
    match consumerOfNumber index with
    | none => (s, .no .badValue)
    | some c =>
      let r := s.budget.writeFloor c x
      (s.withBudget r.1).took r.2
  | .coefficients x =>
    let r := s.budget.writeCoefficients s.mc.time s.mc.mode x
    (s.withBudget r.1).took r.2
  | .travel x =>
    let r := s.governor.writeSettings s.mc.mode x
    (s.withGovernor r.1).took r.2
  | .driveMap x =>
    let r := s.governor.writeMap s.mc.mode x
    (s.withGovernor r.1).took r.2
  | .implements x =>
    let r := s.sequencer.writeSettings s.mc.mode index x
    (s.withSequencer r.1).took r.2
  | .water x =>
    let r := s.water.writeSettings s.mc.mode x
    (s.withWater r.1).took r.2
  | .association x =>
    match below 12 index with
    | none => (s, .no .badValue)
    | some i =>
      let r := s.water.writeAssociation s.mc.mode i x
      (s.withWater r.1).took r.2

/-- The table has some writing class (02 R25). -/
def Table.writable (t : Table) : Bool := t.writableBy .service

/-- A WRITE of a named table: length, index and encoding (01 R20), then the class (02 R25), then the owner's rule. -/
def State.writeTable (s : State) (p : Port) (t : Table) (index : Nat) (record : List Byte) : State × Reply :=
  if record.length ≠ t.recordSize ∨ t.capacity ≤ index then (s, .no .badValue)
  else if !t.writable then (s, .no .notPermitted)
  else
    match parseRecord t index record with
    | none => (s, .no .badValue)
    | some w => if t.writableBy (s.port p).authority then s.applyWrite index w else (s, .no .notPermitted)

/-- A WRITE by its payload: table identifier, index, record (01 R20). -/
def State.writePayload (s : State) (p : Port) (payload : List Byte) : State × Reply :=
  match payload with
  | table :: index :: record =>
    match Table.ofNumber table.toNat with
    | none => (s, .no .badValue)
    | some t => s.writeTable p t index.toNat record
  | _ => (s, .no .badValue)

/-- The SCAN_CONTROL record of a SINGLE, its read-only fields zero (03 R58; log 21). -/
def singleRecord (period : Byte) (staleLimit : BitVec 16) : List Byte :=
  period :: (bytes2 staleLimit.toNat ++ 1 :: List.replicate 14 0)

end Sys2Proof.Machine
end

