-- ==== Sys2Proof/Machine/Requests.lean ====
section
/-! DEFINITION. Requests (01 R10 to R13, 02 R24): examination and answer, the part of each request's owning block, and
FRAME_END, which hands a good frame over as a request. -/

namespace Sys2Proof.Machine

/-! ### Examination and answer -/

/-- The request kinds (01 R12). -/
inductive RequestKind
  | claim | release | travel | mode | start | restart | pin | unpin | zoneAhead | reserve | arm | broom | water
  | holdSet | releaseSet | clearLatch | clearFailed | output | read | write | subscribe | lock | unlock
  deriving DecidableEq, Repr

/-- The kind byte of a request (01 R12). -/
def RequestKind.number : RequestKind → Nat
  | .claim => 0x01
  | .release => 0x02
  | .travel => 0x03
  | .mode => 0x04
  | .start => 0x05
  | .restart => 0x06
  | .pin => 0x07
  | .unpin => 0x08
  | .zoneAhead => 0x09
  | .reserve => 0x0A
  | .arm => 0x0B
  | .broom => 0x0C
  | .water => 0x0D
  | .holdSet => 0x0E
  | .releaseSet => 0x0F
  | .clearLatch => 0x10
  | .clearFailed => 0x11
  | .output => 0x12
  | .read => 0x13
  | .write => 0x14
  | .subscribe => 0x15
  | .lock => 0x16
  | .unlock => 0x17

/-- All request kinds. -/
def requestKinds : List RequestKind :=
  [.claim, .release, .travel, .mode, .start, .restart, .pin, .unpin, .zoneAhead, .reserve, .arm, .broom, .water,
    .holdSet, .releaseSet, .clearLatch, .clearFailed, .output, .read, .write, .subscribe, .lock, .unlock]

/-- The request kind of a kind byte (01 R12 step 1). -/
def RequestKind.ofNumber (n : Nat) : Option RequestKind := requestKinds.find? fun k => k.number == n

/-- The classes a kind is allowed to (02 R24). -/
def RequestKind.allows (k : RequestKind) (c : AuthorityClass) : Bool :=
  match k with
  | .claim | .release | .arm | .broom | .water => c == .operator || c == .route
  | .travel | .restart | .pin | .unpin | .clearLatch => c == .operator
  | .mode | .start => c == .operator || c == .service
  | .zoneAhead => c == .route
  | .reserve => c == .engine
  | .holdSet | .releaseSet | .write => c != .engine
  | .clearFailed | .output | .lock | .unlock => c == .service
  | .read | .subscribe => true

/-- What an owning block does with a request: the new state and the answer. -/
abbrev RequestBody := State → State × Reply

/-- An answer reaches the port's response buffer (01 R10). -/
def State.respond (s : State) (p : Port) (kind tag : Byte) (r : Reply) : State :=
  s.setPort p ((s.port p).respond ⟨kind, tag, r.code, r.data⟩)

/-- A request of a known kind is taken: authority (02 R24), then its owning block (01 R12). -/
def State.answer (s : State) (p : Port) (k : RequestKind) (tag : Byte) (body : RequestBody) : State :=
  if k.allows (s.port p).authority then (body s).1.respond p (byte k.number) tag (body s).2
  else s.respond p (byte k.number) tag (.no .notPermitted)

/-- A request that comes in on a port (log 2): nothing while CUT_OFF (01 R8), lost to overrun while the receive slot is
occupied (01 R11), else taken. -/
def State.serve (s : State) (p : Port) (k : RequestKind) (tag : Byte) (body : RequestBody) : State :=
  if (s.port p).state = .cutOff then s
  else if (s.port p).slot.isSome then s.setPort p { s.port p with overrun := true }
  else s.answer p k tag body

/-! ### Mode controller -/

/-- The class of a port. -/
def State.classOf (s : State) (p : Port) : AuthorityClass := (s.port p).authority

/-- CLAIM (02 R40). -/
def claimBody (p : Port) (domain : Nat) : RequestBody := fun s =>
  let r := s.mc.claim s.classOf p domain
  (s.withMc r.1).took r.2

/-- RELEASE (02 R41). -/
def releaseBody (p : Port) (domain : Nat) : RequestBody := fun s =>
  let r := s.mc.release p domain
  (s.withMc r.1).took r.2

/-- An accepted MODE answers with the mode after the request (02 R32). -/
def modeReply (s : State) : State × Reply := (s, .okWith [byte s.mc.mode.number])

/-- A mode is entered, its offers taken, and the mode answered. -/
def State.changeMode (s : State) (m : Mode) : State := (s.withMc (s.mc.enterMode m .mode)).settle

/-- MODE(HALT) (02 R32). -/
def modeHaltBody (p : Port) : RequestBody := fun s =>
  if s.classOf p ≠ .operator then (s, .no .notPermitted)
  else if s.mc.mode = .halted then modeReply s
  else modeReply (s.changeMode .halted)

/-- MODE(TRANSPORT) (02 R34), with the stow-completion test made once the implement sequencer has reacted. -/
def modeTransportBody (p : Port) : RequestBody := fun s =>
  if s.classOf p ≠ .operator then (s, .no .notPermitted)
  else
    match s.mc.mode with
    | .halted | .service => (s, .no .wrongMode)
    | .transport | .stowing => modeReply s
    | .sweep =>
      if s.mc.holds p .travel then
        let t := s.changeMode .stowing
        modeReply (t.withMc t.mc.stowTest).settle
      else (s, .no .notHolder)

/-- MODE(SWEEP) (02 R33). -/
def modeSweepBody (p : Port) : RequestBody := fun s =>
  if s.classOf p ≠ .operator then (s, .no .notPermitted)
  else
    match s.mc.mode with
    | .halted | .service => (s, .no .wrongMode)
    | .sweep => modeReply s
    | .transport | .stowing =>
      if !s.mc.holds p .travel then (s, .no .notHolder)
      else if s.selector.activeRow.speedCap < s.governor.command.natAbs then (s, .no .notReady)
      else modeReply (s.changeMode .sweep)

/-- MODE(SERVICE) (02 R36). -/
def modeServiceBody (p : Port) : RequestBody := fun s =>
  if s.classOf p ≠ .service then (s, .no .notPermitted)
  else
    match s.mc.mode with
    | .halted => (s, .no .wrongMode)
    | .service => modeReply s
    | .transport | .sweep | .stowing =>
      if s.governor.state = .standstill then modeReply (s.changeMode .service) else (s, .no .wrongMode)

/-- MODE with a target byte (02 R32). -/
def modeBody (p : Port) (target : Nat) : RequestBody :=
  match target with
  | 0 => modeHaltBody p
  | 1 => modeTransportBody p
  | 2 => modeSweepBody p
  | 3 => modeServiceBody p
  | _ => fun s => (s, .no .badValue)

/-- The parts of an accepted START (02 R31). The valve chain driver takes the mode offer last, once the jobs have
handed it their requests (log 41). The notices of the event come after the pulse unit's part (log 37). -/
def State.started (s : State) : State :=
  let t := (s.withMc s.mc.enterStart).settle
  (t.setChain (t.chain.takeMode t.mc.mode)).settle

/-- START (02 R30). -/
def startBody : RequestBody := fun s =>
  match s.mc.mode with
  | .transport | .sweep | .stowing => (s, .no .wrongMode)
  | .halted | .service =>
    if s.readiness ≠ 0 then (s, ⟨.notReady, [byte s.readiness]⟩)
    else (s.started, .okWith [byte Mode.transport.number])

/-- What RESTART offers to the blocks (02 R39 step 3; order: log 41); the travel governor's part is its HALTED entry. -/
def restartOffers : List Offer :=
  [.scannerRestart, .monitorRestart, .pulseRestart, .selectorRestart, .budgetRestart, .sequencerRestart,
    .waterRestart, .chainRestart]

/-- RESTART (02 R39): claims withdrawn, HALTED entered, RESTART offered. The notices of steps 1 and 2 are stamped before
the path counter is cleared, those that the blocks post at step 3 after it (log 37). -/
def State.restarted (s : State) : State :=
  let a := (s.withMc s.mc.withdrawAll).settle
  let b := (a.withMc (a.mc.enterMode .halted .restart)).settle
  (b.emit restartOffers).settle

/-- RESTART (02 R39). -/
def restartBody : RequestBody := fun s => (s.restarted, .done)

/-- LOCK of one kind (02 R44). -/
def lockKindBody (hard : Bool) : RequestBody := fun s =>
  let c := s.mc.lock hard
  (s.setMc c, .okWith [byte c.lockByte])

/-- LOCK with its payload byte (02 R44). -/
def lockBody (kind : Nat) : RequestBody :=
  match kind with
  | 0 => lockKindBody false
  | 1 => lockKindBody true
  | _ => fun s => (s, .no .badValue)

/-- UNLOCK (02 R45). -/
def unlockBody : RequestBody := fun s =>
  let r := s.mc.unlock
  (s.setMc r.1, r.2)

/-! ### Travel governor and profile selector -/

/-- The greatest magnitude of a travel request (08 R118). -/
def maxSpeed : Int := 12000

/-- TRAVEL (08 R118). -/
def travelBody (p : Port) (speed : Int) : RequestBody := fun s =>
  if speed < -maxSpeed ∨ maxSpeed < speed then (s, .no .badValue)
  else if !s.mc.holds p .travel then (s, .no .notHolder)
  else if s.mc.mode.configurable then (s, .no .wrongMode)
  else
    let t := (s.withGovernor (s.governor.travel s.mc.time speed)).settle
    (t, .okWith (enc1 t.governor.state.number ++ bytes2s t.governor.command ++ bytes2 t.governor.ceiling))

/-- PIN (06 R96). -/
def pinBody (p : Port) (row : Nat) : RequestBody := fun s =>
  let r := s.selector.pin s.mc.mode (s.mc.holds p .travel) row
  (s.withSelector r.1).took r.2

/-- UNPIN (06 R97). -/
def unpinBody (p : Port) : RequestBody := fun s =>
  let r := s.selector.unpin s.mc.mode (s.mc.holds p .travel)
  (s.withSelector r.1).took r.2

/-- ZONE_AHEAD (06 R91). -/
def zoneAheadBody (code : ZoneCode) (distance : Nat) : RequestBody := fun s =>
  let r := s.selector.zoneAhead s.mc.mode code distance
  (s.withSelector r.1).took r.2

/-! ### Budget table, implement sequencer, water controller -/

/-- The greatest reserve (07 R101). -/
def maxReserve : Nat := 1000

/-- RESERVE (07 R101). -/
def reserveBody (p : Port) (points : Nat) : RequestBody := fun s =>
  if maxReserve < points then (s, .no .badValue)
  else
    let t := (s.withBudget (s.budget.report s.mc.time p points)).settle
    (t, .okWith (bytes2 t.budget.ceiling ++ bytes2 t.budget.rows.granted))

/-- ARM (09 R151). -/
def armBody (p : Port) (side command : Nat) : RequestBody := fun s =>
  match sideOfNumber side, ArmCommand.ofNumber command with
  | some x, some c =>
    if s.mc.holds p .implements then
      let t := (s.withSequencer (s.sequencer.armCommand s.moment x c)).settle
      (t, .okWith (enc1 (t.sequencer.arm x).state.number))
    else (s, .no .notHolder)
  | _, _ => (s, .no .badValue)

/-- BROOM (09 R152). -/
def broomBody (p : Port) (command : Nat) : RequestBody := fun s =>
  match BroomCommand.ofNumber command with
  | some c =>
    if s.mc.holds p .implements then
      let t := (s.withSequencer (s.sequencer.broomCommand s.moment c)).settle
      (t, .okWith (enc1 t.sequencer.main.state.number))
    else (s, .no .notHolder)
  | none => (s, .no .badValue)

/-- WATER (10 R167). -/
def waterBody (p : Port) (enable exclusion : Nat) : RequestBody := fun s =>
  if 1 < enable ∨ 4096 ≤ exclusion then (s, .no .badValue)
  else if !s.mc.holds p .water then (s, .no .notHolder)
  else
    let t := (s.withWater (s.water.request s.mc.time (enable == 1) (BitVec.ofNat 12 exclusion))).settle
    (t, .okWith (enc1 t.water.state.number ++ bytes2 t.water.eligible.toNat))

/-! ### Scanner, window monitor, valve chain driver -/

/-- HOLD_SET (03 R59). -/
def holdSetBody (p : Port) (lease : Nat) : RequestBody := fun s =>
  let r := s.scanner.holdSet s.mc.time p lease
  (s.withScanner r.1).took r.2

/-- RELEASE_SET (03 R60). -/
def releaseSetBody (p : Port) : RequestBody := fun s =>
  let r := s.scanner.releaseSet s.mc.time p
  (s.withScanner r.1).took r.2

/-- CLEAR_LATCH (04 R69). -/
def clearLatchBody (set : Mask) : RequestBody := fun s =>
  let r := s.monitor.clearLatch set
  (s.withMonitor r.1).took r.2

/-- CLEAR_FAILED (02 R38). -/
def clearFailedBody (set : Mask) : RequestBody := fun s =>
  let r := s.chain.clearFailed s.mc.mode set
  (s.withChain r.1).took r.2

/-- The chain position of a target is in the failed set (02 R37 check 5). -/
def Chain.targetFailed (c : Chain) : OutputTarget → Bool
  | .lift .left => c.failed.getLsbD 12
  | .lift .right => c.failed.getLsbD 13
  | .liftM => c.failed.getLsbD 14
  | .prime => c.failed.getLsbD 15
  | .driveFwd | .driveRev | .broomM | .broomArm _ | .swing _ | .press _ | .pump | .nozzle _ => false

/-- An accepted OUTPUT reaches the block that drives the target. -/
def State.setOutput (s : State) (target : OutputTarget) (v : Int) : State :=
  match target with
  | .prime => (s.withWater (s.water.outputPrime (v == 1))).settle
  | .driveFwd | .driveRev | .broomM | .broomArm _ | .swing _ | .press _ | .pump | .nozzle _ | .lift _ | .liftM =>
    (s.withSequencer (s.sequencer.output target v)).settle

/-- OUTPUT (02 R37). -/
def outputBody (target : Nat) (v : Int) : RequestBody := fun s =>
  match OutputTarget.ofNumber target with
  | none => (s, .no .badValue)
  | some x =>
    if s.mc.mode ≠ .service then (s, .no .wrongMode)
    else if !x.reachable then (s, .no .notPermitted)
    else if !x.accepts v then (s, .no .badValue)
    else if s.chain.targetFailed x then (s, .no .notReady)
    else (s.setOutput x v, .done)

/-! ### Port unit -/

/-- SUBSCRIBE (01 R17). -/
def subscribeBody (p : Port) (classes : Byte) : RequestBody := fun s =>
  if 64 ≤ classes.toNat then (s, .no .badValue)
  else (s.setPort p { s.port p with subscriptions := classes.truncate 6 }, .okWith [classes])

/-- READ (01 R19). -/
def readBody (table first count : Nat) : RequestBody := fun s => (s, s.read table first count)

/-- A WRITE of a named table (01 R20). -/
def writeBody (p : Port) (t : Table) (index : Nat) (record : List Byte) : RequestBody := fun s =>
  s.writeTable p t index record

/-- A WRITE by its payload (01 R20). -/
def writePayloadBody (p : Port) (payload : List Byte) : RequestBody := fun s => s.writePayload p payload

/-! ### Frames (01 R3, R5 to R12) -/

/-- The two bytes of a payload at an offset as a set or an unsigned number. -/
def word16 (x : List Byte) (o : Nat) : BitVec 16 := BitVec.ofNat 16 (field2 x o)

/-- The zone code in the first three bytes of a ZONE_AHEAD (06 R91). -/
def zoneCodeOf (x : List Byte) : ZoneCode :=
  BitVec.ofNat 24 (field1 x 0 * 65536 + field1 x 1 * 256 + field1 x 2)

/-- The payload length of a kind; a WRITE's depends on its table (01 R20). -/
def RequestKind.payloadLength : RequestKind → Option Nat
  | .claim | .release | .mode | .pin | .broom | .holdSet | .subscribe | .lock => some 1
  | .travel | .reserve | .arm | .clearLatch | .clearFailed => some 2
  | .start | .restart | .unpin | .releaseSet | .unlock => some 0
  | .zoneAhead => some 5
  | .water | .output | .read => some 3
  | .write => none

/-- What the owning block of a request does with its payload. -/
def RequestKind.body (k : RequestKind) (p : Port) (x : List Byte) : RequestBody :=
  match k with
  | .claim => claimBody p (field1 x 0)
  | .release => releaseBody p (field1 x 0)
  | .travel => travelBody p (field2s x 0)
  | .mode => modeBody p (field1 x 0)
  | .start => startBody
  | .restart => restartBody
  | .pin => pinBody p (field1 x 0)
  | .unpin => unpinBody p
  | .zoneAhead => zoneAheadBody (zoneCodeOf x) (field2 x 3)
  | .reserve => reserveBody p (field2 x 0)
  | .arm => armBody p (field1 x 0) (field1 x 1)
  | .broom => broomBody p (field1 x 0)
  | .water => waterBody p (field1 x 0) (field2 x 1)
  | .holdSet => holdSetBody p (field1 x 0)
  | .releaseSet => releaseSetBody p
  | .clearLatch => clearLatchBody (word16 x 0)
  | .clearFailed => clearFailedBody (word16 x 0)
  | .output => outputBody (field1 x 0) (field2s x 1)
  | .read => readBody (field1 x 0) (field1 x 1) (field1 x 2)
  | .write => writePayloadBody p x
  | .subscribe => subscribeBody p (x.getD 0 0)
  | .lock => lockBody (field1 x 0)
  | .unlock => unlockBody

/-- The length step (01 R12 step 3), then the owning block. -/
def RequestKind.checkedBody (k : RequestKind) (p : Port) (x : List Byte) : RequestBody := fun s =>
  match k.payloadLength with
  | none => k.body p x s
  | some n => if x.length = n then k.body p x s else (s, .no .badValue)

/-- A good frame is handed over as a request (01 R10, R12). -/
def State.handOver (s : State) (p : Port) (bytes : List Byte) : State :=
  let kind := bytes.getD 0 0
  let tag := bytes.getD 1 0
  match RequestKind.ofNumber kind.toNat with
  | none => s.respond p kind tag (.no .unknown)
  | some k => s.answer p k tag (k.checkedBody p ((bytes.drop 3).take (lengthByte bytes)))

/-- A change of port state: LINK_STATE to the other two ports (01 R9), and at CUT_OFF entry the withdrawal of the
port's claims (01 R7, 02 R42; log 16). -/
def State.linkChanged (s : State) (p : Port) (old : PortState) : State :=
  let new := (s.port p).state
  if new = old then s
  else
    let t := (s.emit ((otherPorts p).map fun q => .postTo q .linkState (portNumber p) new.number)).settle
    if new = .cutOff then (t.withMc (t.mc.withdrawPort p)).settle else t

/-- A received frame ends (01 R2, R3, R11). -/
def State.frameEnd (s : State) (p : Port) : State :=
  let u := s.port p
  let v := { u with receiver := .ended }
  if u.receiver.state ≠ .receiving then s
  else if u.slot.isSome then s.setPort p { v with overrun := true }
  else if u.receiver.good then
    let t := (s.setPort p v.goodFrame).linkChanged p u.state
    if u.state = .cutOff then t else t.handOver p u.receiver.bytes
  else (s.setPort p v.badFrame).linkChanged p u.state

end Sys2Proof.Machine
end

