-- ==== Sys2Proof/Machine/Links.lean ====
section
/-! DEFINITION. The commands of power and of the station links (01, 02 R23, R26). -/

namespace Sys2Proof.Machine

/-- The answer of every command: the part goes on (no command faults). -/
abbrev Step := Host.Outcome State Fault Refusal

/-- POWER_ON (02 R26): every block takes its power-on state; the commands that wait stay (log 1, log 6). -/
def execPowerOn (straps : Straps) (rate : LinkRate) (estopActive : Bool) (s : State) : Step :=
  .next (.powerOn straps rate estopActive s.pending)

/-- RECEIVER_READY (01 R2). -/
def execReceiverReady (p : Port) (s : State) : Step :=
  .next (s.setPort p { s.port p with receiver := (s.port p).receiver.idle })

/-- START_BIT (01 R1, R2). -/
def execStartBit (p : Port) (data : Byte) (parityBit stopIdle : Bool) (s : State) : Step :=
  .next (s.setPort p { s.port p with receiver := (s.port p).receiver.startBit data parityBit stopIdle })

/-- FRAME_END (01 R3). -/
def execFrameEnd (p : Port) (s : State) : Step := .next (s.frameEnd p)

/-- TRANSMITTER_FRAME_END (01 R14). -/
def execTransmitterFrameEnd (p : Port) (s : State) : Step := .next (s.setPort p (s.port p).frameSent)

/-- NOTICE_RECORD_SENT (01 R16). -/
def execNoticeRecordSent (p : Port) (s : State) : Step := .next (s.setPort p (s.port p).noticeSent)

/-- SUBSCRIBE (01 R17). -/
def execSubscribe (p : Port) (tag classes : Byte) (s : State) : Step :=
  .next (s.serve p .subscribe tag (subscribeBody p classes))

/-- READ (01 R19). -/
def execRead (p : Port) (tag table first count : Byte) (s : State) : Step :=
  .next (s.serve p .read tag (readBody table.toNat first.toNat count.toNat))

end Sys2Proof.Machine
end

