-- ==== Sys2Proof/Machine/Lines.lean ====
section
/-! DEFINITION. The commands of the direct lines: ESTOP, the converter, the pulse lines, the valve chain's return. -/

namespace Sys2Proof.Machine

/-- ESTOP_ASSERTION (02 R28, R29). -/
def execEstopAssertion (s : State) : Step := .next (s.withMc s.mc.estopActive).settle

/-- ESTOP_LINE_INACTIVE (02 R28). -/
def execEstopLineInactive (s : State) : Step := .next (s.setMc s.mc.estopInactive)

/-- ESTOP_RELEASE (02 R28). -/
def execEstopRelease (s : State) : Step := .next (s.setMc s.mc.estopReleased)

/-- The result enters the live set, and the window monitor evaluates it (03 R50 steps 1 and 2). -/
def State.convert (s : State) (ch : Fin 16) (raw : Nat) : State :=
  ((s.setScanner (s.scanner.store ch raw)).withMonitor (s.monitor.evaluate s.mc.time ch raw)).settle

/-- The pass ends if its last conversion is complete and it has not been abandoned (03 R50 step 4, R52). -/
def State.endPass (s : State) : State :=
  if s.scanner.passComplete then (s.withScanner (s.scanner.passEnds s.mc.time)).settle else s

/-- CONVERSION_COMPLETE (03 R50). -/
def execConversionComplete (raw : BitVec 12) (s : State) : Step :=
  match s.scanner.converting? with
  | none => .next s
  | some e => .next (s.convert e.channel raw.toNat).endPass

/-- MOTOR_PULSE (05 R75). -/
def execMotorPulse (motorBHigh : Bool) (s : State) : Step := .next (s.setPulse (s.pulse.motorEdge motorBHigh))

/-- GROUND_PULSE (05 R76, R82). -/
def execGroundPulse (s : State) : Step := .next (s.withPulse (s.pulse.groundEdge s.mc.time)).settle

/-- The completion of a refresh: steps 1 to 4 with what the owners make of them, then step 5 (10 R171; log 45). -/
def State.completeRefresh (s : State) (echo fault : Mask) : State :=
  let t := (s.withChain (s.chain.complete echo fault)).settle
  t.setChain t.chain.afterCompletion

/-- REFRESH_COMPLETION (10 R171). -/
def execRefreshCompletion (echo fault : Mask) (s : State) : Step :=
  .next (if s.chain.shifting then s.completeRefresh echo fault else s)

end Sys2Proof.Machine
end

