-- ==== Sys2Proof/Machine/Stations.lean ====
section
/-! DEFINITION. The request commands other than READ, SUBSCRIBE and the WRITEs. -/

namespace Sys2Proof.Machine

/-- CLAIM (02 R40). -/
def execClaim (p : Port) (tag domain : Byte) (s : State) : Step :=
  .next (s.serve p .claim tag (claimBody p domain.toNat))

/-- RELEASE (02 R41). -/
def execRelease (p : Port) (tag domain : Byte) (s : State) : Step :=
  .next (s.serve p .release tag (releaseBody p domain.toNat))

/-- TRAVEL (08 R118). -/
def execTravel (p : Port) (tag : Byte) (speed : BitVec 16) (s : State) : Step :=
  .next (s.serve p .travel tag (travelBody p (signed16 speed)))

/-- MODE_HALT (02 R32). -/
def execModeHalt (p : Port) (tag : Byte) (s : State) : Step := .next (s.serve p .mode tag (modeHaltBody p))

/-- MODE_TRANSPORT (02 R34). -/
def execModeTransport (p : Port) (tag : Byte) (s : State) : Step :=
  .next (s.serve p .mode tag (modeTransportBody p))

/-- MODE_SWEEP (02 R33). -/
def execModeSweep (p : Port) (tag : Byte) (s : State) : Step := .next (s.serve p .mode tag (modeSweepBody p))

/-- MODE_SERVICE (02 R36). -/
def execModeService (p : Port) (tag : Byte) (s : State) : Step := .next (s.serve p .mode tag (modeServiceBody p))

/-- START (02 R30, R31). -/
def execStart (p : Port) (tag : Byte) (s : State) : Step := .next (s.serve p .start tag startBody)

/-- RESTART (02 R39). -/
def execRestart (p : Port) (tag : Byte) (s : State) : Step := .next (s.serve p .restart tag restartBody)

/-- PIN (06 R96). -/
def execPin (p : Port) (tag row : Byte) (s : State) : Step := .next (s.serve p .pin tag (pinBody p row.toNat))

/-- UNPIN (06 R97). -/
def execUnpin (p : Port) (tag : Byte) (s : State) : Step := .next (s.serve p .unpin tag (unpinBody p))

/-- ZONE_AHEAD (06 R91). -/
def execZoneAhead (p : Port) (tag : Byte) (code : ZoneCode) (distance : BitVec 16) (s : State) : Step :=
  .next (s.serve p .zoneAhead tag (zoneAheadBody code distance.toNat))

/-- RESERVE (07 R101). -/
def execReserve (p : Port) (tag : Byte) (points : BitVec 16) (s : State) : Step :=
  .next (s.serve p .reserve tag (reserveBody p points.toNat))

/-- ARM (09 R151). -/
def execArm (p : Port) (tag side command : Byte) (s : State) : Step :=
  .next (s.serve p .arm tag (armBody p side.toNat command.toNat))

/-- BROOM (09 R152). -/
def execBroom (p : Port) (tag command : Byte) (s : State) : Step :=
  .next (s.serve p .broom tag (broomBody p command.toNat))

/-- WATER (10 R167). -/
def execWater (p : Port) (tag enable : Byte) (exclusion : BitVec 16) (s : State) : Step :=
  .next (s.serve p .water tag (waterBody p enable.toNat exclusion.toNat))

/-- HOLD_SET (03 R59). -/
def execHoldSet (p : Port) (tag lease : Byte) (s : State) : Step :=
  .next (s.serve p .holdSet tag (holdSetBody p lease.toNat))

/-- RELEASE_SET (03 R60). -/
def execReleaseSet (p : Port) (tag : Byte) (s : State) : Step :=
  .next (s.serve p .releaseSet tag (releaseSetBody p))

/-- CLEAR_LATCH (04 R69). -/
def execClearLatch (p : Port) (tag : Byte) (channels : Mask) (s : State) : Step :=
  .next (s.serve p .clearLatch tag (clearLatchBody channels))

/-- CLEAR_FAILED (02 R38). -/
def execClearFailed (p : Port) (tag : Byte) (positions : Mask) (s : State) : Step :=
  .next (s.serve p .clearFailed tag (clearFailedBody positions))

/-- OUTPUT (02 R37). -/
def execOutput (p : Port) (tag target : Byte) (value : BitVec 16) (s : State) : Step :=
  .next (s.serve p .output tag (outputBody target.toNat (signed16 value)))

/-- LOCK_SOFT (02 R44). -/
def execLockSoft (p : Port) (tag : Byte) (s : State) : Step := .next (s.serve p .lock tag (lockKindBody false))

/-- LOCK_HARD (02 R44). -/
def execLockHard (p : Port) (tag : Byte) (s : State) : Step := .next (s.serve p .lock tag (lockKindBody true))

/-- UNLOCK (02 R45). -/
def execUnlock (p : Port) (tag : Byte) (s : State) : Step := .next (s.serve p .unlock tag unlockBody)

end Sys2Proof.Machine
end

