-- ==== Sys2Proof/Machine/Timers.lean ====
section
/-! DEFINITION. The commands of the part's clock: the time counter and the expiry of every timer and lease. An expiry acts
when its timer runs and the counter has reached it (log 3). -/

namespace Sys2Proof.Machine

/-- TIME_COUNTER_ADVANCE (02 R27). -/
def execTimeCounterAdvance (s : State) : Step :=
  let now := s.mc.time + 1
  .next ((s.setMc { s.mc with time := now }).setWater (s.water.tick now))

/-- SCAN_PERIOD_EXPIRY (03 R51). -/
def execScanPeriodExpiry (s : State) : Step := .next (s.setScanner (s.scanner.periodExpiry s.mc.time))

/-- HOLD_LEASE_EXPIRY (03 R61). -/
def execHoldLeaseExpiry (s : State) : Step := .next (s.withScanner (s.scanner.leaseExpiry s.mc.time)).settle

/-- STALE_TIMER_EXPIRY (03 R62). -/
def execStaleTimerExpiry (s : State) : Step := .next (s.withScanner (s.scanner.staleExpiry s.mc.time)).settle

/-- SPEED_WINDOW_END (05 R78). -/
def execSpeedWindowEnd (s : State) : Step := .next (s.withPulse (s.pulse.windowEnd s.mc.time)).settle

/-- LOSS_TIMER_EXPIRY (05 R81). -/
def execLossTimerExpiry (s : State) : Step := .next (s.withPulse (s.pulse.lossExpiry s.mc.time)).settle

/-- RESERVE_LEASE_EXPIRY (07 R102). -/
def execReserveLeaseExpiry (s : State) : Step := .next (s.withBudget (s.budget.leaseEnds s.mc.time)).settle

/-- HOLD_EXPIRY (07 R110). -/
def execHoldExpiry (row : Consumer) (s : State) : Step := .next (s.withBudget (s.budget.holdEnds s.mc.time row)).settle

/-- TRAVEL_LEASE_EXPIRY (08 R119). -/
def execTravelLeaseExpiry (s : State) : Step :=
  .next (s.withGovernor (s.governor.leaseEnds s.mc.time s.mc.claims.travel.holder)).settle

/-- RAMP_STEP (08 R127). -/
def execRampStep (s : State) : Step := .next (s.withGovernor (s.governor.rampStep s.mc.time)).settle

/-- LIFT_WAIT_EXPIRY (08 R133). -/
def execLiftWaitExpiry (s : State) : Step := .next (s.withGovernor (s.governor.liftWaitExpiry s.mc.time)).settle

/-- REGULATION_STEP (09 R154). -/
def execRegulationStep (s : State) : Step := .next (s.setSequencer (s.sequencer.regulationStep s.mc.time))

/-- SWING_TIMER_EXPIRY (09 R145). -/
def execSwingTimerExpiry (x : Side) (s : State) : Step :=
  .next (s.withSequencer (s.sequencer.swingExpiry s.moment x)).settle

/-- RETRY_WAIT_EXPIRY (09 R145). -/
def execRetryWaitExpiry (x : Side) (s : State) : Step :=
  .next (s.withSequencer (s.sequencer.retryExpiry s.moment x)).settle

/-- LOWER_TIME_EXPIRY (09 R144). -/
def execLowerTimeExpiry (x : Side) (s : State) : Step :=
  .next (s.withSequencer (s.sequencer.lowerExpiry s.moment x)).settle

/-- YIELD_TIME_EXPIRY (09 R146). -/
def execYieldTimeExpiry (x : Side) (s : State) : Step :=
  .next (s.withSequencer (s.sequencer.yieldExpiry s.moment x)).settle

/-- LIFT_TIME_EXPIRY (09 R147). -/
def execLiftTimeExpiry (x : Side) (s : State) : Step :=
  .next (s.withSequencer (s.sequencer.liftExpiry s.moment x)).settle

/-- MAIN_BROOM_LOWER_EXPIRY (09 R155). -/
def execMainBroomLowerExpiry (s : State) : Step :=
  .next (s.withSequencer (s.sequencer.mainLowerExpiry s.moment)).settle

/-- MAIN_BROOM_LIFT_EXPIRY (09 R155). -/
def execMainBroomLiftExpiry (s : State) : Step :=
  .next (s.withSequencer (s.sequencer.mainLiftExpiry s.moment)).settle

/-- PRIME_TIMER_EXPIRY (10 R162). -/
def execPrimeTimerExpiry (s : State) : Step := .next (s.withWater (s.water.primeExpiry s.mc.time)).settle

/-- REFRESH_TIMER_EXPIRY (10 R170). -/
def execRefreshTimerExpiry (s : State) : Step := .next (s.setChain (s.chain.timerExpiry s.mc.time))

end Sys2Proof.Machine
end

