-- ==== Sys2Proof/Machine/Writes.lean ====
section
/-! DEFINITION. The WRITE commands (01 R20, 02 R25): one per writable table, SINGLE, and the WRITE of any payload. -/

namespace Sys2Proof.Machine

/-- WRITE_LIMITS (02 R43). -/
def execWriteLimits (p : Port) (tag index : Byte) (record : List Byte) (s : State) : Step :=
  .next (s.serve p .write tag (writeBody p .limits index.toNat record))

/-- WRITE_ROLE_MAP (03 R48). -/
def execWriteRoleMap (p : Port) (tag index : Byte) (record : List Byte) (s : State) : Step :=
  .next (s.serve p .write tag (writeBody p .roleMap index.toNat record))

/-- WRITE_SCAN_LIST (03 R49). -/
def execWriteScanList (p : Port) (tag index : Byte) (record : List Byte) (s : State) : Step :=
  .next (s.serve p .write tag (writeBody p .scanList index.toNat record))

/-- WRITE_SCAN_CONTROL (03 R57). -/
def execWriteScanControl (p : Port) (tag index : Byte) (record : List Byte) (s : State) : Step :=
  .next (s.serve p .write tag (writeBody p .scanControl index.toNat record))

/-- WRITE_WINDOWS (04 R66). -/
def execWriteWindows (p : Port) (tag index : Byte) (record : List Byte) (s : State) : Step :=
  .next (s.serve p .write tag (writeBody p .windows index.toNat record))

/-- WRITE_ASSIGNMENTS (04 R67). -/
def execWriteAssignments (p : Port) (tag index : Byte) (record : List Byte) (s : State) : Step :=
  .next (s.serve p .write tag (writeBody p .assignments index.toNat record))

/-- WRITE_PULSE (05 R77). -/
def execWritePulse (p : Port) (tag index : Byte) (record : List Byte) (s : State) : Step :=
  .next (s.serve p .write tag (writeBody p .pulse index.toNat record))

/-- WRITE_PROFILES (06 R87). -/
def execWriteProfiles (p : Port) (tag index : Byte) (record : List Byte) (s : State) : Step :=
  .next (s.serve p .write tag (writeBody p .profiles index.toNat record))

/-- WRITE_ZONES (06 R88). -/
def execWriteZones (p : Port) (tag index : Byte) (record : List Byte) (s : State) : Step :=
  .next (s.serve p .write tag (writeBody p .zones index.toNat record))

/-- WRITE_ZONE_MASK (06 R89). -/
def execWriteZoneMask (p : Port) (tag index : Byte) (record : List Byte) (s : State) : Step :=
  .next (s.serve p .write tag (writeBody p .zoneMask index.toNat record))

/-- WRITE_BUDGET (07 R105). -/
def execWriteBudget (p : Port) (tag index : Byte) (record : List Byte) (s : State) : Step :=
  .next (s.serve p .write tag (writeBody p .budget index.toNat record))

/-- WRITE_COEFFICIENTS (07 R115). -/
def execWriteCoefficients (p : Port) (tag index : Byte) (record : List Byte) (s : State) : Step :=
  .next (s.serve p .write tag (writeBody p .coefficients index.toNat record))

/-- WRITE_TRAVEL (08 R121). -/
def execWriteTravel (p : Port) (tag index : Byte) (record : List Byte) (s : State) : Step :=
  .next (s.serve p .write tag (writeBody p .travel index.toNat record))

/-- WRITE_DRIVE_MAP (08 R122). -/
def execWriteDriveMap (p : Port) (tag index : Byte) (record : List Byte) (s : State) : Step :=
  .next (s.serve p .write tag (writeBody p .driveMap index.toNat record))

/-- WRITE_IMPLEMENTS (09 R140). -/
def execWriteImplements (p : Port) (tag index : Byte) (record : List Byte) (s : State) : Step :=
  .next (s.serve p .write tag (writeBody p .implements index.toNat record))

/-- WRITE_WATER (10 R159). -/
def execWriteWater (p : Port) (tag index : Byte) (record : List Byte) (s : State) : Step :=
  .next (s.serve p .write tag (writeBody p .water index.toNat record))

/-- WRITE_ASSOCIATION (10 R159). -/
def execWriteAssociation (p : Port) (tag index : Byte) (record : List Byte) (s : State) : Step :=
  .next (s.serve p .write tag (writeBody p .association index.toNat record))

/-- SINGLE (03 R58): a WRITE of SCAN_CONTROL whose action is SINGLE. -/
def execSingle (p : Port) (tag period : Byte) (staleLimit : BitVec 16) (s : State) : Step :=
  .next (s.serve p .write tag (writeBody p .scanControl 0 (singleRecord period staleLimit)))

/-- WRITE (01 R20). -/
def execWrite (p : Port) (tag : Byte) (payload : List Byte) (s : State) : Step :=
  .next (s.serve p .write tag (writePayloadBody p payload))

end Sys2Proof.Machine
end

