-- ==== Sys2Proof/Machine/Dispatch.lean ====
section
/-! DEFINITION. One arm per command, each a direct call of its meaning. -/

namespace Sys2Proof.Machine

/-- What a command does to everything but the queue of commands. -/
def exec (i : Instr) (s : State) : Host.Outcome State Fault Refusal :=
  match i with
  | .powerOn straps rate estopActive => Sys2Proof.Machine.execPowerOn straps rate estopActive s
  | .receiverReady port => Sys2Proof.Machine.execReceiverReady port s
  | .frameEnd port => Sys2Proof.Machine.execFrameEnd port s
  | .transmitterFrameEnd port => Sys2Proof.Machine.execTransmitterFrameEnd port s
  | .noticeRecordSent port => Sys2Proof.Machine.execNoticeRecordSent port s
  | .claim port tag domain => Sys2Proof.Machine.execClaim port tag domain s
  | .release port tag domain => Sys2Proof.Machine.execRelease port tag domain s
  | .travel port tag speed => Sys2Proof.Machine.execTravel port tag speed s
  | .modeHalt port tag => Sys2Proof.Machine.execModeHalt port tag s
  | .modeTransport port tag => Sys2Proof.Machine.execModeTransport port tag s
  | .modeSweep port tag => Sys2Proof.Machine.execModeSweep port tag s
  | .modeService port tag => Sys2Proof.Machine.execModeService port tag s
  | .start port tag => Sys2Proof.Machine.execStart port tag s
  | .restart port tag => Sys2Proof.Machine.execRestart port tag s
  | .pin port tag row => Sys2Proof.Machine.execPin port tag row s
  | .unpin port tag => Sys2Proof.Machine.execUnpin port tag s
  | .zoneAhead port tag code distance => Sys2Proof.Machine.execZoneAhead port tag code distance s
  | .reserve port tag points => Sys2Proof.Machine.execReserve port tag points s
  | .arm port tag side command => Sys2Proof.Machine.execArm port tag side command s
  | .broom port tag command => Sys2Proof.Machine.execBroom port tag command s
  | .water port tag enable exclusion => Sys2Proof.Machine.execWater port tag enable exclusion s
  | .holdSet port tag lease => Sys2Proof.Machine.execHoldSet port tag lease s
  | .releaseSet port tag => Sys2Proof.Machine.execReleaseSet port tag s
  | .clearLatch port tag channels => Sys2Proof.Machine.execClearLatch port tag channels s
  | .clearFailed port tag positions => Sys2Proof.Machine.execClearFailed port tag positions s
  | .output port tag target value => Sys2Proof.Machine.execOutput port tag target value s
  | .read port tag table first count => Sys2Proof.Machine.execRead port tag table first count s
  | .subscribe port tag classes => Sys2Proof.Machine.execSubscribe port tag classes s
  | .lockSoft port tag => Sys2Proof.Machine.execLockSoft port tag s
  | .lockHard port tag => Sys2Proof.Machine.execLockHard port tag s
  | .unlock port tag => Sys2Proof.Machine.execUnlock port tag s
  | .writeLimits port tag index record => Sys2Proof.Machine.execWriteLimits port tag index record s
  | .writeRoleMap port tag index record => Sys2Proof.Machine.execWriteRoleMap port tag index record s
  | .writeScanList port tag index record => Sys2Proof.Machine.execWriteScanList port tag index record s
  | .writeScanControl port tag index record => Sys2Proof.Machine.execWriteScanControl port tag index record s
  | .single port tag period staleLimit => Sys2Proof.Machine.execSingle port tag period staleLimit s
  | .writeWindows port tag index record => Sys2Proof.Machine.execWriteWindows port tag index record s
  | .writeAssignments port tag index record => Sys2Proof.Machine.execWriteAssignments port tag index record s
  | .writePulse port tag index record => Sys2Proof.Machine.execWritePulse port tag index record s
  | .writeProfiles port tag index record => Sys2Proof.Machine.execWriteProfiles port tag index record s
  | .writeZones port tag index record => Sys2Proof.Machine.execWriteZones port tag index record s
  | .writeZoneMask port tag index record => Sys2Proof.Machine.execWriteZoneMask port tag index record s
  | .writeBudget port tag index record => Sys2Proof.Machine.execWriteBudget port tag index record s
  | .writeCoefficients port tag index record => Sys2Proof.Machine.execWriteCoefficients port tag index record s
  | .writeTravel port tag index record => Sys2Proof.Machine.execWriteTravel port tag index record s
  | .writeDriveMap port tag index record => Sys2Proof.Machine.execWriteDriveMap port tag index record s
  | .writeImplements port tag index record => Sys2Proof.Machine.execWriteImplements port tag index record s
  | .writeWater port tag index record => Sys2Proof.Machine.execWriteWater port tag index record s
  | .writeAssociation port tag index record => Sys2Proof.Machine.execWriteAssociation port tag index record s
  | .write port tag payload => Sys2Proof.Machine.execWrite port tag payload s
  | .estopAssertion => Sys2Proof.Machine.execEstopAssertion s
  | .estopRelease => Sys2Proof.Machine.execEstopRelease s
  | .conversionComplete raw => Sys2Proof.Machine.execConversionComplete raw s
  | .scanPeriodExpiry => Sys2Proof.Machine.execScanPeriodExpiry s
  | .holdLeaseExpiry => Sys2Proof.Machine.execHoldLeaseExpiry s
  | .staleTimerExpiry => Sys2Proof.Machine.execStaleTimerExpiry s
  | .motorPulse motorBHigh => Sys2Proof.Machine.execMotorPulse motorBHigh s
  | .groundPulse => Sys2Proof.Machine.execGroundPulse s
  | .speedWindowEnd => Sys2Proof.Machine.execSpeedWindowEnd s
  | .lossTimerExpiry => Sys2Proof.Machine.execLossTimerExpiry s
  | .reserveLeaseExpiry => Sys2Proof.Machine.execReserveLeaseExpiry s
  | .holdExpiry row => Sys2Proof.Machine.execHoldExpiry row s
  | .travelLeaseExpiry => Sys2Proof.Machine.execTravelLeaseExpiry s
  | .rampStep => Sys2Proof.Machine.execRampStep s
  | .liftWaitExpiry => Sys2Proof.Machine.execLiftWaitExpiry s
  | .regulationStep => Sys2Proof.Machine.execRegulationStep s
  | .swingTimerExpiry side => Sys2Proof.Machine.execSwingTimerExpiry side s
  | .retryWaitExpiry side => Sys2Proof.Machine.execRetryWaitExpiry side s
  | .lowerTimeExpiry side => Sys2Proof.Machine.execLowerTimeExpiry side s
  | .yieldTimeExpiry side => Sys2Proof.Machine.execYieldTimeExpiry side s
  | .liftTimeExpiry side => Sys2Proof.Machine.execLiftTimeExpiry side s
  | .mainBroomLowerExpiry => Sys2Proof.Machine.execMainBroomLowerExpiry s
  | .mainBroomLiftExpiry => Sys2Proof.Machine.execMainBroomLiftExpiry s
  | .primeTimerExpiry => Sys2Proof.Machine.execPrimeTimerExpiry s
  | .refreshTimerExpiry => Sys2Proof.Machine.execRefreshTimerExpiry s
  | .refreshCompletion echo fault => Sys2Proof.Machine.execRefreshCompletion echo fault s
  | .startBit port data parityBit stopIdle => Sys2Proof.Machine.execStartBit port data parityBit stopIdle s
  | .estopLineInactive => Sys2Proof.Machine.execEstopLineInactive s
  | .timeCounterAdvance => Sys2Proof.Machine.execTimeCounterAdvance s

end Sys2Proof.Machine
end

