-- ==== Sys2Proof/Safety.lean ====
section
/-! DEFINITION. What statements about the part are made of: runs and properties that every step keeps; when a port hears
a request; what a command's offers never change; and the invariants that are stated. -/

namespace Sys2Proof

/-- A step from `s` ends in `t`. -/
def StepsTo (s t : Machine.State) : Prop := Machine.step s = .next t

/-- A property of states that every step keeps. -/
def KeptByStep (P : Machine.State → Prop) : Prop := ∀ s t, P s → StepsTo s t → P t

namespace Machine

/-! ### Requests -/

/-- The classes a request kind is allowed to, written from the table of 02 R24. -/
def RequestKind.classes : RequestKind → List AuthorityClass
  | .claim | .release | .arm | .broom | .water => [.operator, .route]
  | .travel | .restart | .pin | .unpin | .clearLatch => [.operator]
  | .mode | .start => [.operator, .service]
  | .zoneAhead => [.route]
  | .reserve => [.engine]
  | .holdSet | .releaseSet | .write => [.operator, .route, .service]
  | .clearFailed | .output | .lock | .unlock => [.service]
  | .read | .subscribe => [.operator, .route, .engine, .service]

/-- A request of a kind that comes in on a port is heard: the port is not CUT_OFF (01 R8), its receive slot is free
(01 R11), and its class is allowed the kind (01 R12, 02 R24). -/
def State.hears (s : State) (p : Port) (k : RequestKind) : Prop :=
  (s.port p).state ≠ .cutOff ∧ (s.port p).slot = none ∧ (s.port p).authority ∈ k.classes

/-- `t` is `s` once port `p`, not CUT_OFF, has evaluated a good frame: the receiver is READY, the error count has gone
down by 1 (01 R5), a DEGRADED port whose count is below 96 is HEALTHY (R6), in which case LINK_STATE is offered to the
other two ports (R9), and nothing else differs. -/
def State.takesGoodFrame (s : State) (p : Port) (t : State) : Prop :=
  t = s.setPorts t.ports ∧
    t.port p =
      { s.port p with
        receiver := ⟨.ready, [], 0, false⟩
        errorCount := (s.port p).errorCount - 1
        state :=
          if (s.port p).state = .degraded ∧ (s.port p).errorCount - 1 < 96 then .healthy else (s.port p).state } ∧
    ∀ q, q ≠ p →
      t.port q =
        if (s.port p).state = .degraded ∧ (s.port p).errorCount - 1 < 96 then
          (s.port q).offerNotice ⟨.linkState, portNumber p, false, 0, s.pulse.path, s.mc.time⟩
        else s.port q

/-- Some character of a frame is bad: an odd number of ones, or a stop bit at the active level (01 R1). -/
def badCharacter (data : Byte) (parityBit stopIdle : Bool) : Bool :=
  (((List.range 8).filter data.getLsbD).length + parityBit.toNat) % 2 == 1 || !stopIdle

end Machine

open Machine in
/-- The port, kind and tag of a request command; none for the other commands. -/
def Instr.request : Instr → Option (Port × RequestKind × Byte)
  | .claim p t _ => some (p, .claim, t)
  | .release p t _ => some (p, .release, t)
  | .travel p t _ => some (p, .travel, t)
  | .modeHalt p t | .modeTransport p t | .modeSweep p t | .modeService p t => some (p, .mode, t)
  | .start p t => some (p, .start, t)
  | .restart p t => some (p, .restart, t)
  | .pin p t _ => some (p, .pin, t)
  | .unpin p t => some (p, .unpin, t)
  | .zoneAhead p t _ _ => some (p, .zoneAhead, t)
  | .reserve p t _ => some (p, .reserve, t)
  | .arm p t _ _ => some (p, .arm, t)
  | .broom p t _ => some (p, .broom, t)
  | .water p t _ _ => some (p, .water, t)
  | .holdSet p t _ => some (p, .holdSet, t)
  | .releaseSet p t => some (p, .releaseSet, t)
  | .clearLatch p t _ => some (p, .clearLatch, t)
  | .clearFailed p t _ => some (p, .clearFailed, t)
  | .output p t _ _ => some (p, .output, t)
  | .read p t _ _ _ => some (p, .read, t)
  | .subscribe p t _ => some (p, .subscribe, t)
  | .lockSoft p t | .lockHard p t => some (p, .lock, t)
  | .unlock p t => some (p, .unlock, t)
  | .writeLimits p t _ _ | .writeRoleMap p t _ _ | .writeScanList p t _ _ | .writeScanControl p t _ _
  | .single p t _ _ | .writeWindows p t _ _ | .writeAssignments p t _ _ | .writePulse p t _ _
  | .writeProfiles p t _ _ | .writeZones p t _ _ | .writeZoneMask p t _ _ | .writeBudget p t _ _
  | .writeCoefficients p t _ _ | .writeTravel p t _ _ | .writeDriveMap p t _ _ | .writeImplements p t _ _
  | .writeWater p t _ _ | .writeAssociation p t _ _ | .write p t _ => some (p, .write, t)
  | .powerOn .. | .receiverReady .. | .frameEnd .. | .transmitterFrameEnd .. | .noticeRecordSent ..
  | .estopAssertion | .estopRelease | .conversionComplete .. | .scanPeriodExpiry | .holdLeaseExpiry
  | .staleTimerExpiry | .motorPulse .. | .groundPulse | .speedWindowEnd | .lossTimerExpiry | .reserveLeaseExpiry
  | .holdExpiry .. | .travelLeaseExpiry | .rampStep | .liftWaitExpiry | .regulationStep | .swingTimerExpiry ..
  | .retryWaitExpiry .. | .lowerTimeExpiry .. | .yieldTimeExpiry .. | .liftTimeExpiry ..
  | .mainBroomLowerExpiry | .mainBroomLiftExpiry | .primeTimerExpiry | .refreshTimerExpiry
  | .refreshCompletion .. | .startBit .. | .estopLineInactive | .timeCounterAdvance => none

/-- The payload bytes of the frame that carries a request command (01 section 1.2, R12, R20 and the rule of each kind);
none for the other commands. -/
def Instr.payload : Instr → Option (List Byte)
  | .claim _ _ d | .release _ _ d => some [d]
  | .travel _ _ v => some (Machine.bytes2 v.toNat)
  | .modeHalt .. => some [0]
  | .modeTransport .. => some [1]
  | .modeSweep .. => some [2]
  | .modeService .. => some [3]
  | .start .. | .restart .. | .unpin .. | .releaseSet .. | .unlock .. => some []
  | .pin _ _ r => some [r]
  | .zoneAhead _ _ z d => some ((Machine.bytes4 z.toNat).drop 1 ++ Machine.bytes2 d.toNat)
  | .reserve _ _ n => some (Machine.bytes2 n.toNat)
  | .arm _ _ x c => some [x, c]
  | .broom _ _ c => some [c]
  | .water _ _ e x => some (e :: Machine.bytes2 x.toNat)
  | .holdSet _ _ l => some [l]
  | .clearLatch _ _ m | .clearFailed _ _ m => some (Machine.bytes2 m.toNat)
  | .output _ _ x v => some (x :: Machine.bytes2 v.toNat)
  | .read _ _ t f c => some [t, f, c]
  | .subscribe _ _ c => some [c]
  | .lockSoft .. => some [0]
  | .lockHard .. => some [1]
  | .writeLimits _ _ i r => some (3 :: i :: r)
  | .writeRoleMap _ _ i r => some (5 :: i :: r)
  | .writeScanList _ _ i r => some (6 :: i :: r)
  | .writeScanControl _ _ i r => some (7 :: i :: r)
  | .single _ _ n l => some (7 :: 0 :: n :: (Machine.bytes2 l.toNat ++ 1 :: List.replicate 14 0))
  | .writeWindows _ _ i r => some (9 :: i :: r)
  | .writeAssignments _ _ i r => some (10 :: i :: r)
  | .writePulse _ _ i r => some (11 :: i :: r)
  | .writeProfiles _ _ i r => some (12 :: i :: r)
  | .writeZones _ _ i r => some (13 :: i :: r)
  | .writeZoneMask _ _ i r => some (14 :: i :: r)
  | .writeBudget _ _ i r => some (16 :: i :: r)
  | .writeCoefficients _ _ i r => some (17 :: i :: r)
  | .writeTravel _ _ i r => some (18 :: i :: r)
  | .writeDriveMap _ _ i r => some (19 :: i :: r)
  | .writeImplements _ _ i r => some (20 :: i :: r)
  | .writeWater _ _ i r => some (23 :: i :: r)
  | .writeAssociation _ _ i r => some (24 :: i :: r)
  | .write _ _ x => some x
  | .powerOn .. | .receiverReady .. | .frameEnd .. | .transmitterFrameEnd .. | .noticeRecordSent ..
  | .estopAssertion | .estopRelease | .conversionComplete .. | .scanPeriodExpiry | .holdLeaseExpiry
  | .staleTimerExpiry | .motorPulse .. | .groundPulse | .speedWindowEnd | .lossTimerExpiry | .reserveLeaseExpiry
  | .holdExpiry .. | .travelLeaseExpiry | .rampStep | .liftWaitExpiry | .regulationStep | .swingTimerExpiry ..
  | .retryWaitExpiry .. | .lowerTimeExpiry .. | .yieldTimeExpiry .. | .liftTimeExpiry ..
  | .mainBroomLowerExpiry | .mainBroomLiftExpiry | .primeTimerExpiry | .refreshTimerExpiry
  | .refreshCompletion .. | .startBit .. | .estopLineInactive | .timeCounterAdvance => none

/-- The command is POWER_ON. -/
def Instr.isPowerOn : Instr → Bool
  | .powerOn .. => true
  | _ => false

/-- The commands that may change a configuration record: a WRITE, a frame that may carry one, power-on. -/
def Instr.configures (c : Instr) : Bool :=
  match c with
  | .powerOn .. | .frameEnd .. => true
  | _ =>
    match c.request with
    | some (_, .write, _) => true
    | _ => false

namespace Machine

/-! ### What the offers of a command never change -/

/-- The configuration records, which only a WRITE changes (01 R20). -/
structure Configuration where
  limits       : Limits
  roleMap      : Vector RoleEntry 12
  scanList     : List ScanEntry
  period       : Nat
  staleLimit   : Nat
  windows      : Vector Window 6
  assigned     : List (Option (Fin 6) × Sense)
  pulse        : Nat × Nat × Nat × Nat
  rows         : Vector Profile 8
  zones        : Vector Zone 16
  sharedMask   : ZoneCode
  floors       : List Nat
  coefficients : Coefficients
  travel       : TravelSettings
  driveMap     : DriveMap
  implements   : ArmSettings × ArmSettings × ArmSettings
  water        : WaterSettings
  associations : Vector Association 12

/-- The configuration of a state. -/
def State.configuration (s : State) : Configuration where
  limits := s.mc.limits
  roleMap := s.scanner.roleMap
  scanList := s.scanner.scanList
  period := s.scanner.period
  staleLimit := s.scanner.staleLimit
  windows := s.monitor.windows
  assigned := sixteen.map fun c => ((s.monitor.assignments.get c).window, (s.monitor.assignments.get c).sense)
  pulse := (s.pulse.motorPpm, s.pulse.groundPpm, s.pulse.window, s.pulse.lossTime)
  rows := s.selector.rows
  zones := s.selector.zones
  sharedMask := s.selector.sharedMask
  floors := consumers.map fun c => (s.budget.rows.get c).floor
  coefficients := s.budget.coefficients
  travel := s.governor.settings
  driveMap := s.governor.map
  implements := (s.sequencer.left.settings, s.sequencer.right.settings, s.sequencer.main.settings)
  water := s.water.settings
  associations := s.water.associations

/-- What a port unit keeps whatever notices are offered to it and whatever responses it sends. -/
structure LinkRecord where
  receiver      : Receiver
  errorCount    : Nat
  state         : PortState
  recoveryRun   : Nat
  authority     : AuthorityClass
  subscriptions : BitVec 6

/-- The link record of a port unit. -/
def PortUnit.link (u : PortUnit) : LinkRecord :=
  ⟨u.receiver, u.errorCount, u.state, u.recoveryRun, u.authority, u.subscriptions⟩

/-- The rest of what no offer changes: the links, the clock, claims, locks and emergency stop, the reserve report, and
what the chain holds. -/
structure Standing where
  rate       : LinkRate
  pending    : List Instr
  s0         : LinkRecord
  s1         : LinkRecord
  s2         : LinkRecord
  time       : Time
  claims     : Claims
  locks      : Bool × Bool
  estop      : Bool × Bool × Option Time
  reserve    : Nat
  source     : ReserveSource
  reporter   : Option Port
  lease      : Option Time
  loaded     : Mask
  prevLoaded : Mask
  echo       : Mask
  fault      : Mask

/-- The standing records of a state. -/
def State.standing (s : State) : Standing where
  rate := s.rate
  pending := s.pending
  s0 := s.ports.s0.link
  s1 := s.ports.s1.link
  s2 := s.ports.s2.link
  time := s.mc.time
  claims := s.mc.claims
  locks := (s.mc.softLock, s.mc.hardLock)
  estop := (s.mc.estopAsserted, s.mc.estopLine, s.mc.estopTimer)
  reserve := s.budget.reserve
  source := s.budget.source
  reporter := s.budget.lastReporter
  lease := s.budget.leaseExpiry
  loaded := s.chain.loaded
  prevLoaded := s.chain.prevLoaded
  echo := s.chain.echo
  fault := s.chain.fault

/-- What every offer leaves unchanged: configuration and standing records. -/
def Kept (s t : State) : Prop := t.configuration = s.configuration ∧ t.standing = s.standing

/-! ### Modes -/

/-- No offer waits and every block's copy of the machine mode is the machine mode (log 5). -/
def State.inStep (s : State) : Prop :=
  s.offers = [] ∧ s.sequencer.mode = s.mc.mode ∧ s.governor.copies.mode = s.mc.mode ∧
    s.water.copies.mode = s.mc.mode ∧ s.budget.mode = s.mc.mode ∧ s.chain.mode = s.mc.mode

/-- Every coil of the drives, arms, brooms and pump is at 0, and no chain position is wanted on (02 R29, R36). -/
def State.drivesNothing (s : State) : Prop :=
  s.governor.driveFwd = 0 ∧ s.governor.driveRev = 0 ∧
    (∀ x, (s.sequencer.arm x).swing = 0 ∧ (s.sequencer.arm x).broom = 0 ∧ (s.sequencer.arm x).press = 0) ∧
    s.sequencer.main.broom = 0 ∧ s.water.pump = 0 ∧ s.chain.wanted = 0

/-- A role has a channel assigned, and that channel is an entry of the scan list (02 R30). -/
def State.roleAssigned (s : State) (r : Role) : Prop :=
  ∃ ch e, (s.scanner.roleMap.get r.index).channel = some ch ∧ e ∈ s.scanner.scanList ∧ e.channel = ch

/-- The prerequisites of START (02 R30). -/
def State.mayStart (s : State) : Prop :=
  s.mc.estopAsserted = false ∧ s.mc.haltTrip = false ∧
    (∀ r ∈ ([.drivePress, .grade, .armPosL, .armPosR, .armPressL, .armPressR, .tankLevel] : List Role),
      s.roleAssigned r) ∧
    (s.selector.rows.get 0).valid = true ∧
    100 ≤ s.governor.map.fullSpeed ∧ 1 ≤ s.governor.map.full ∧ s.governor.map.start ≤ s.governor.map.full

/-- The coils that OUTPUT reaches, its targets 2 to 8: BROOM_M, BROOM_L, BROOM_R, SWING_L, SWING_R, PRESS_L, PRESS_R (02
R37). -/
def State.implementCoils (s : State) : List Int :=
  [s.sequencer.main.broom, s.sequencer.left.broom, s.sequencer.right.broom, s.sequencer.left.swing,
    s.sequencer.right.swing, s.sequencer.left.press, s.sequencer.right.press]

/-- Every claim is held by a port that is not CUT_OFF, of class OPERATOR or ROUTE, and TRAVEL by an OPERATOR (02 R24,
R40). -/
def State.claimsSound (s : State) : Prop :=
  ∀ d p, (s.mc.claims.get d).holder = some p →
    (s.port p).state ≠ .cutOff ∧
      ((s.port p).authority = .operator ∨ (s.port p).authority = .route ∧ d ≠ .travel)

/-! ### Station ports -/

/-- What holds of a port unit in every run: error count and state agree (01 R5 to R8), the queue holds at most 8 records
(R15), a response waits only behind a full buffer (R10), and nothing waits for an idle transmitter (R14). -/
def PortUnit.sound (u : PortUnit) : Prop :=
  (u.state = .healthy → u.errorCount < 96 ∧ u.recoveryRun = 0) ∧
    (u.state = .degraded → 96 ≤ u.errorCount ∧ u.errorCount < 192 ∧ u.recoveryRun = 0) ∧
    (u.state = .cutOff → 192 ≤ u.errorCount ∧ u.errorCount ≤ 255 ∧ u.recoveryRun < 16 ∧ u.slot = none ∧
      u.buffer = none ∧ u.notices = []) ∧
    u.notices.length ≤ 8 ∧ (u.buffer = none → u.slot = none) ∧
    (u.transmitter = .idle → u.buffer = none ∧ u.notices = [])

/-- Every port unit is sound. -/
def State.portsSound (s : State) : Prop := ∀ p, (s.port p).sound

/-! ### Budget, travel, water, chain -/

/-- A shed order names each consumer (06 R87): five members, all of them. -/
def namesEachOnce (l : List Consumer) : Prop := l.length = 5 ∧ ∀ c, c ∈ l

/-- What holds of the budget table in every run: the ceiling is the reserve less the derate total (07 R103), the grants
do not exceed it, the ranks are those of a shed order, and grants go with states (R109, R110). -/
def Budget.sound (b : Budget) : Prop :=
  b.ceiling = b.reserve - b.derate ∧
    b.rows.travel.grant + b.rows.main.grant + b.rows.armL.grant + b.rows.armR.grant + b.rows.water.grant ≤ b.ceiling ∧
    (∃ l, namesEachOnce l ∧ ∀ c, (b.rows.get c).rank = l.idxOf c + 1) ∧
    ∀ c, ((b.rows.get c).state = .full → (b.rows.get c).grant = (b.rows.get c).demand) ∧
      ((b.rows.get c).state = .trimmed → (b.rows.get c).grant < (b.rows.get c).demand) ∧
      ((b.rows.get c).state = .held → (b.rows.get c).grant = 0)

/-- The budget table is sound, every profile row's shed order is one, and so is every shed order on its way. -/
def State.budgetSound (s : State) : Prop :=
  s.budget.sound ∧ (∀ i, namesEachOnce (s.selector.rows.get i).shedOrder) ∧
    ∀ o ∈ s.offers, ∀ l, o = .budgetRanks l ∨ o = .budgetStart l → namesEachOnce l

/-- What holds of the travel governor in every run: the command does not exceed the ceiling (08 R128), the coils follow
the command (R129), the signs of target and command go with the state (R125, R130), a reverse command has the
implements lifted (R132), and the lift wait runs only at rest in DIRECTION_HOLD heading for reverse (R133). -/
def Governor.sound (g : Governor) : Prop :=
  g.command.natAbs ≤ g.ceiling ∧
    g.driveFwd = (if 0 < g.command then g.map.coil g.command.natAbs else 0) ∧
    g.driveRev = (if g.command < 0 then g.map.coil g.command.natAbs else 0) ∧
    (match g.state with
      | .standstill => g.command = 0
      | .forward | .directionHold .reverse => 0 ≤ g.command
      | .reverse | .directionHold .forward => g.command ≤ 0
      | .stopping => True) ∧
    (match g.state with
      | .forward => 0 ≤ g.target
      | .reverse => g.target ≤ 0
      | .standstill | .stopping | .directionHold _ => g.target = 0) ∧
    (g.command < 0 → g.copies.implements.liftConfirmed = true) ∧
    (g.liftWait.isSome = true → g.state = .directionHold .reverse ∧ g.command = 0) ∧
    (g.copies.mode.working = false → g.command = 0)

/-- What holds of the water controller in every run (10 R161 to R164). -/
def Water.sound (w : Water) : Prop :=
  w.nozzles = (if w.state = .spraying then w.eligible else 0) ∧
    w.pump = (match w.state with
      | .priming => 400
      | .spraying => w.allowed
      | .off | .idleWait | .empty => 0) ∧
    w.allowed ≤ w.wanted ∧ w.wanted ≤ 1000 ∧ (w.primeTimer.isSome = true ↔ w.state = .priming)

/-- What holds of the chain driver in every run: the wanted pattern is the requests without the failed positions, all
off in HALTED (10 R169), and a position that has not failed has at most one mismatch counted (R171). -/
def Chain.sound (c : Chain) : Prop :=
  c.wanted = (if c.mode = .halted then 0 else c.requested &&& ~~~c.failed) ∧
    (c.waiting = true → c.shifting = true) ∧
    ∀ i : Fin 16, c.counts.get i ≤ 2 ∧ (c.failed.getLsbD i.val = false → c.counts.get i ≤ 1)

/-! ### Measurement, profiles, outcomes -/

/-- A raw result on a channel latches it: the channel has a window, its latch is clear, and its condition is true of the
result (04 R68). -/
def Monitor.trips (m : Monitor) (ch : Fin 16) (raw : Nat) : Prop :=
  (m.assignments.get ch).latched = false ∧
    ∃ w, (m.assignments.get ch).window = some w ∧
      ((m.assignments.get ch).sense = .inside ∧ (m.windows.get w).low < raw ∧ raw < (m.windows.get w).high ∨
        (m.assignments.get ch).sense = .outside ∧ (raw < (m.windows.get w).low ∨ (m.windows.get w).high < raw))

/-- The scanner once the last result of a pass has come in under a hold: the set is kept (03 R52). -/
def Scanner.passKept (c : Scanner) (x : Reading) (now : Time) : Scanner :=
  { c with live := c.live ++ [x], passEnd := now, state := .paused }

/-- The scanner once the last result of a pass has come in without a hold: the set is published (03 R52, R53, R62). -/
def Scanner.passPublished (c : Scanner) (x : Reading) (now : Time) : Scanner :=
  { c with
    live := c.live ++ [x]
    passEnd := now
    published := c.live ++ [x]
    scanNumber := c.scanNumber + 1
    publishTime := now
    stale := false
    staleTimer := some (now + BitVec.ofNat 32 (c.staleLimit + 1))
    state := if c.continuous then .waiting else .stopped }

/-- What holds of the scanner in every run: the list has 1 to 16 entries of different channels (03 R49), a running pass
has an entry to convert (R50), PAUSED has a hold (R52), and the period timer runs while scanning is continuous (R54).
-/
def Scanner.sound (c : Scanner) : Prop :=
  1 ≤ c.scanList.length ∧ c.scanList.length ≤ 16 ∧ (c.scanList.map ScanEntry.channel).Nodup ∧
    (c.state = .converting → c.live.length < c.scanList.length) ∧ (c.state = .paused → c.hold.isSome = true) ∧
    (c.periodTimer.isSome = true ↔ c.continuous = true) ∧ (c.state = .waiting → c.continuous = true)

/-- What holds of the measurement records, the change queue, the profile rows and the outcome stacks in every run: the
outputs are what latches and windows give (04 R70), at most 4 changes are queued, in mark order and with marks above the
path counter as the selector holds it (06 R92), no valid row's speed cap is above the forward cap (06 R87, 02 R43), and
at most 3 outcomes are kept (09 R150). -/
def State.recordsSound (s : State) : Prop :=
  s.scanner.sound ∧ s.monitor.outputs = s.monitor.derive ∧ s.selector.queue.length ≤ 4 ∧
    (s.selector.queue.map QueuedChange.mark).Pairwise (· ≤ ·) ∧ (∀ e ∈ s.selector.queue, s.selector.path < e.mark) ∧
    (∀ i, (s.selector.rows.get i).valid = true → (s.selector.rows.get i).speedCap ≤ s.mc.limits.fwdCap) ∧
    ∀ x, (s.sequencer.arm x).outcomes.length ≤ 3

/-! ### Side arms -/

/-- An arm stands in a state with its timer and open motion, and with the outputs of the table of 09 R142. -/
def ArmRecord.entered (a : ArmRecord) (st : ArmState) (timer : Option Time) (motion : Option Motion) : Prop :=
  a.state = st ∧ a.timer = timer ∧ a.motion = motion ∧
    a.swing =
      (match st with
        | .swingingOut => (a.settings.swingDrive : Int)
        | .swingingIn => -(a.settings.swingDrive : Int)
        | .yielding => (a.settings.yieldDrive : Int)
        | .stowed | .lowering | .working | .raising | .raised | .retryWait | .fault => 0) ∧
    (a.lift = true ↔ st = .lowering ∨ st = .working ∨ st = .yielding) ∧
    (st ≠ .working → st ≠ .yielding → a.broom = 0 ∧ a.press = 0)

/-- From `a` to `b` nothing of an arm's course changes. -/
def ArmRecord.stays (a b : ArmRecord) : Prop :=
  b.state = a.state ∧ b.timer = a.timer ∧ b.motion = a.motion ∧ b.outcomes = a.outcomes ∧ b.swing = a.swing ∧
    b.lift = a.lift ∧ b.fault = a.fault

/-- From `a` to `b` the open motion is recorded with an outcome: on top of the stack, of which three records stay, and
as ARM_OUTCOME among the offers `out` (09 R150). -/
def ArmRecord.records (a b : ArmRecord) (x : Side) (t : Moment) (o : MotionOutcome) (abort : Option AbortCause)
    (out : List Offer) : Prop :=
  ∀ m, a.motion = some m →
    b.outcomes = (⟨m.kind, o, m.attempts, t.path, t.now - m.openedAt, abort⟩ :: a.outcomes).take 3 ∧
      .post .armOutcome (sideNumber x)
        (([MotionOutcome.done, .timedOut, .aborted, .faulted].idxOf o +
          4 * [MotionKind.swingOut, .swingIn, .yield].idxOf m.kind : Nat) : Int) ∈ out

/-- Wanted out (09 R143): in SWEEP, by the command OUT, or by AUTO and a profile that names the arm. -/
def Sequencer.wishedOut (q : Sequencer) (x : Side) : Prop :=
  q.mode = .sweep ∧
    ((q.arm x).command = .out ∨
      (q.arm x).command = .auto ∧ (q.armsUsed = .both ∨ q.armsUsed = .l ∧ x = .left ∨ q.armsUsed = .r ∧ x = .right))

/-- A lift cause of an arm is present (09 R143). -/
def Sequencer.caused (q : Sequencer) (x : Side) : Prop :=
  q.liftForReverse = true ∨ q.liftArms = true ∨ (q.arm x).row.state = .held

/-- From `old` to `q` an arm gains the lift cause that is recorded as `c`, and no other (09 R147). -/
def Sequencer.gains (old q : Sequencer) (x : Side) (c : AbortCause) : Prop :=
  (c = .liftRequest ↔ old.liftForReverse = false ∧ q.liftForReverse = true) ∧
    (c = .trip ↔ old.liftArms = false ∧ q.liftArms = true) ∧
    (c = .budgetHeld ↔ (old.arm x).row.state ≠ .held ∧ (q.arm x).row.state = .held) ∧
    (c = .liftRequest ∨ c = .trip ∨ c = .budgetHeld)

/-! ### Copies -/

/-- Between commands these copies are what their owners hold (02 R43, 03 R62, 04 R70, 05 R85, 06 R95, 07 R111 and R115,
08 R123, 09 R141, 10 R160 and R171): the machine mode, the limits, the stale flag, the trip outputs, the speeds,
direction, slip ratio, ground status and path counter, the active profile row and its ranks, the coefficients, the
grants and row states, lift-for-reverse, the implement states and their report, and the failed positions. Left out are
the published role values (grade, arm positions and pressures, tank level), the path advances and the demands. The path
copies follow the counter across START and RESTART by log 11. -/
def State.copiesAgree (s : State) : Prop :=
  s.inStep ∧
    (s.governor.copies.fwdCap = s.mc.limits.fwdCap ∧ s.governor.copies.revCap = s.mc.limits.revCap ∧
      s.governor.copies.transportCap = s.mc.limits.transportCap ∧ s.sequencer.armPressMax = s.mc.limits.armPressMax ∧
      s.sequencer.mainRpmMax = s.mc.limits.mainRpmMax ∧ s.sequencer.sideRpmMax = s.mc.limits.sideRpmMax) ∧
    (s.governor.copies.stale = s.scanner.stale ∧ s.sequencer.stale = s.scanner.stale) ∧
    (s.budget.derate = s.monitor.outputs.derate ∧ s.water.copies.cutWater = s.monitor.outputs.cutWater ∧
      s.sequencer.liftArms = s.monitor.outputs.liftArms ∧ s.governor.copies.stopTravel = s.monitor.outputs.stopTravel ∧
      s.mc.haltTrip = s.monitor.outputs.halt) ∧
    (s.governor.copies.motorSpeed = s.pulse.motorSpeed ∧ s.governor.copies.direction = s.pulse.direction ∧
      s.governor.copies.groundSpeed = s.pulse.groundSpeed ∧ s.governor.copies.slip = s.pulse.slip ∧
      s.governor.copies.ground = s.pulse.status ∧ s.water.copies.ground = s.pulse.status ∧
      s.water.copies.groundSpeed = s.pulse.groundSpeed ∧ s.selector.path = s.pulse.path ∧
      s.water.copies.path = s.pulse.path) ∧
    (s.governor.copies.speedCap = (s.selector.rows.get s.selector.active).speedCap ∧
      s.sequencer.left.reach = (s.selector.rows.get s.selector.active).reachL ∧
      s.sequencer.right.reach = (s.selector.rows.get s.selector.active).reachR ∧
      s.sequencer.pressTarget = (s.selector.rows.get s.selector.active).pressTarget ∧
      s.sequencer.mainRpm = (s.selector.rows.get s.selector.active).mainRpm ∧
      s.sequencer.sideRpm = (s.selector.rows.get s.selector.active).sideRpm ∧
      s.sequencer.armsUsed = (s.selector.rows.get s.selector.active).armsUsed ∧
      s.water.copies.groups = (s.selector.rows.get s.selector.active).groups ∧
      s.water.copies.dose = (s.selector.rows.get s.selector.active).dose ∧
      ∀ c, (s.budget.rows.get c).rank = (s.selector.rows.get s.selector.active).shedOrder.idxOf c + 1) ∧
    (s.governor.copies.ct = s.budget.coefficients.ct ∧ s.governor.copies.cg = s.budget.coefficients.cg ∧
      s.sequencer.cm = s.budget.coefficients.cm ∧ s.sequencer.cb = s.budget.coefficients.cb ∧
      s.water.copies.cw = s.budget.coefficients.cw) ∧
    (s.governor.copies.grant = s.budget.rows.travel.grant ∧
      s.sequencer.main.row = ⟨s.budget.rows.main.grant, s.budget.rows.main.state⟩ ∧
      s.sequencer.left.row = ⟨s.budget.rows.armL.grant, s.budget.rows.armL.state⟩ ∧
      s.sequencer.right.row = ⟨s.budget.rows.armR.grant, s.budget.rows.armR.state⟩ ∧
      s.water.copies.row = ⟨s.budget.rows.water.grant, s.budget.rows.water.state⟩) ∧
    (s.sequencer.liftForReverse = s.governor.liftForReverse ∧ s.governor.copies.implements = s.sequencer.report ∧
      s.mc.armL = s.sequencer.left.state ∧ s.mc.armR = s.sequencer.right.state ∧ s.mc.main = s.sequencer.main.state ∧
      s.water.copies.armL = s.sequencer.left.state ∧ s.water.copies.armR = s.sequencer.right.state ∧
      s.water.copies.main = s.sequencer.main.state) ∧
    (s.sequencer.left.liftFailed = s.chain.failed.getLsbD 12 ∧
      s.sequencer.right.liftFailed = s.chain.failed.getLsbD 13 ∧
      s.sequencer.main.liftFailed = s.chain.failed.getLsbD 14 ∧
      s.water.copies.failed = s.chain.failed.truncate 12 ∧ s.water.copies.primeFailed = s.chain.failed.getLsbD 15)

end Machine

end Sys2Proof
end

