-- ==== Sys2Proof/Certificates/Slice0/Obligations.lean ====
section
/-! DEFINITION. The statements for the provers. Where a statement speaks of `settle`, it says what the offers between
blocks come to, taken first in, first out (log 5); "no offer waits" is the state between commands of every run (log 5).
-/

open Sys2Proof Sys2Proof.Machine

/-! ### The queue and power -/

/-- STEP. The command at the front of the queue is run on the state with the queue's rest; on an empty queue the part
idles (the model's choice, log 1). -/
def Obligations.StepRunsTheFrontCommand : Prop :=
  (∀ (s : State) (c : Instr) (rest : List Instr), s.pending = c :: rest → step s = exec c (s.setPending rest)) ∧
    ∀ s : State, s.pending = [] → step s = .next s

/-- POWER_ON, in every state: port units, mode controller and the nine other blocks start with the values their
chapters give, their copies of one another's values among them, the classes are read from the strap pairs, and the
20 ms of emergency-stop release begin if the line is inactive. The model's choices: the commands that wait stay
(log 1), the receiver starts with no byte, count 0 and no error (log 17), the main broom's settings are the arms'
(log 15), and the copies of ground speed and path that no table lists start at 0 (log 11). -/
def Obligations.PowerOnStartsThePart : Prop :=
  ∀ (x : Straps) (r : LinkRate) (active : Bool) (s : State),
    ∃ t : State, exec (.powerOn x r active) s = .next t ∧ t.rate = r ∧ t.pending = s.pending ∧ t.offers = [] ∧
      (∀ p, ∃ straps, straps = (match p with | .s0 => x.s0 | .s1 => x.s1 | .s2 => x.s2) ∧
        t.port p =
          { receiver := ⟨.hunting, [], 0, false⟩, slot := none, overrun := false, errorCount := 0, state := .healthy,
            recoveryRun := 0,
            authority := (match straps.a, straps.b with
              | false, false => .operator
              | false, true => .route
              | true, false => .engine
              | true, true => .service),
            subscriptions := 0, notices := [], lostMarker := false, buffer := none, transmitter := .idle }) ∧
      (t.mc.mode = .halted ∧ t.mc.estopAsserted = true ∧ t.mc.estopLine = active ∧
        t.mc.estopTimer = (if active then none else some 20) ∧ t.mc.haltTrip = false ∧ t.mc.time = 0 ∧
        t.mc.lastChange = 0 ∧ t.mc.lastCause = .powerOn ∧ (∀ d, t.mc.claims.get d = ⟨none, 0⟩) ∧
        t.mc.limits = ⟨3000, 1500, 8000, 6000, 400, 150⟩ ∧ t.mc.softLock = false ∧ t.mc.hardLock = false ∧
        t.mc.armL = .stowed ∧ t.mc.armR = .stowed ∧ t.mc.main = .up) ∧
      ((∀ i, t.scanner.roleMap.get i = ⟨none, 0, 1000⟩) ∧ t.scanner.scanList = [⟨0, 0⟩] ∧ t.scanner.period = 10 ∧
        t.scanner.staleLimit = 50 ∧ t.scanner.state = .stopped ∧ t.scanner.continuous = false ∧
        t.scanner.periodTimer = none ∧ t.scanner.live = [] ∧ t.scanner.published = [] ∧ t.scanner.scanNumber = 0 ∧
        t.scanner.publishTime = 0 ∧ t.scanner.stale = true ∧ t.scanner.staleTimer = none ∧ t.scanner.hold = none) ∧
      ((∀ i, t.monitor.windows.get i = ⟨0, 4095, .notice, 0⟩) ∧
        (∀ i, t.monitor.assignments.get i = ⟨none, .inside, false, 0, 0⟩) ∧
        t.monitor.outputs = ⟨0, false, false, false, false⟩) ∧
      (t.pulse.motorPpm = 320 ∧ t.pulse.groundPpm = 160 ∧ t.pulse.window = 50 ∧ t.pulse.lossTime = 400 ∧
        t.pulse.motorSpeed = 0 ∧ t.pulse.direction = .none ∧ t.pulse.groundSpeed = 0 ∧ t.pulse.status = .present ∧
        t.pulse.source = .ground ∧ t.pulse.path = 0 ∧ t.pulse.remainder = 0 ∧ t.pulse.slip = 0 ∧
        t.pulse.regainRun = 0 ∧ t.pulse.forwardCount = 0 ∧ t.pulse.reverseCount = 0 ∧ t.pulse.groundCount = 0 ∧
        t.pulse.windowTimer = 50 ∧ t.pulse.lastEdge = 0 ∧ t.pulse.lossTimer = some 400) ∧
      ((∀ i, t.selector.rows.get i =
          ⟨false, 0, 0, 0, 0, 0, 0, 0, 0, [.travel, .main, .armL, .armR, .water], .none⟩) ∧
        (∀ i : Fin 16, t.selector.zones.get i =
          ⟨false, 0, 0, if i.val < 12 then none else some 16777215⟩) ∧
        t.selector.sharedMask = 16777215 ∧ t.selector.queue = [] ∧ t.selector.zoneProfile = 0 ∧
        t.selector.active = 0 ∧ t.selector.pinned = false ∧ t.selector.lastCode = none ∧ t.selector.path = 0 ∧
        t.selector.advance = 0) ∧
      (t.budget.reserve = 400 ∧ t.budget.source = .fallback ∧ t.budget.lastReporter = none ∧
        t.budget.leaseExpiry = none ∧ t.budget.derate = 0 ∧ t.budget.ceiling = 400 ∧
        t.budget.coefficients = ⟨100, 100, 500, 600, 200, 400, 50, 1000⟩ ∧
        ∀ c, (t.budget.rows.get c).offered = 0 ∧ (t.budget.rows.get c).demand = 0 ∧
          (t.budget.rows.get c).grant = 0 ∧ (t.budget.rows.get c).rank = consumerNumber c + 1 ∧
          (t.budget.rows.get c).state = .full ∧ (t.budget.rows.get c).holdExpiry = none ∧
          (t.budget.rows.get c).floor = if c = .travel then 0 else 50) ∧
      (t.governor.settings = ⟨200, 600, 1200, 500, 20⟩ ∧ t.governor.map = ⟨0, 0, 0⟩ ∧ t.governor.request = 0 ∧
        t.governor.leaseExpiry = none ∧ t.governor.state = .standstill ∧ t.governor.target = 0 ∧
        t.governor.command = 0 ∧ t.governor.liftForReverse = false ∧ t.governor.liftWait = none ∧
        t.governor.reverseBlocked = false ∧ t.governor.cutLevel = 0 ∧ t.governor.slipWindow = none ∧
        t.governor.rampTimer = none ∧ t.governor.driveFwd = 0 ∧ t.governor.driveRev = 0 ∧ t.governor.demand = 0 ∧
        t.governor.copies =
          { mode := .halted, fwdCap := 3000, revCap := 1500, transportCap := 8000, speedCap := 0, ct := 100, cg := 100,
            grant := 0, grade := none, stale := true, stopTravel := false, motorSpeed := 0, direction := .none,
            groundSpeed := 0, slip := 0, ground := .present,
            implements := ⟨.stowed, .stowed, .up, false, false, false, false, false⟩ }) ∧
      ((∀ y, (t.sequencer.arm y).settings = ⟨4000, 3, 700, 400⟩ ∧ (t.sequencer.arm y).state = .stowed ∧
          (t.sequencer.arm y).command = .auto ∧ (t.sequencer.arm y).attempts = 0 ∧
          (t.sequencer.arm y).timer = none ∧ (t.sequencer.arm y).motion = none ∧
          (t.sequencer.arm y).fault = none ∧ (t.sequencer.arm y).outcomes = [] ∧ (t.sequencer.arm y).swing = 0 ∧
          (t.sequencer.arm y).broom = 0 ∧ (t.sequencer.arm y).press = 0 ∧ (t.sequencer.arm y).lift = false ∧
          (t.sequencer.arm y).demand = 0 ∧ (t.sequencer.arm y).position = none ∧
          (t.sequencer.arm y).pressure = none ∧ (t.sequencer.arm y).reach = 0 ∧
          (t.sequencer.arm y).row = ⟨0, .full⟩ ∧ (t.sequencer.arm y).liftFailed = false) ∧
        t.sequencer.main.settings = ⟨4000, 3, 700, 400⟩ ∧ t.sequencer.main.demand = 0 ∧
        t.sequencer.main.row = ⟨0, .full⟩ ∧ t.sequencer.main.liftFailed = false ∧ t.sequencer.mode = .halted ∧
        t.sequencer.stale = true ∧ t.sequencer.liftArms = false ∧ t.sequencer.liftForReverse = false ∧
        t.sequencer.pressTarget = 0 ∧ t.sequencer.mainRpm = 0 ∧ t.sequencer.sideRpm = 0 ∧
        t.sequencer.armsUsed = .none ∧ t.sequencer.armPressMax = 6000 ∧ t.sequencer.mainRpmMax = 400 ∧
        t.sequencer.sideRpmMax = 150 ∧ t.sequencer.cm = 500 ∧ t.sequencer.cb = 600 ∧
        t.sequencer.main.state = .up ∧ t.sequencer.main.command = .auto ∧ t.sequencer.main.timer = none ∧
        t.sequencer.main.fault = none ∧ t.sequencer.main.broom = 0 ∧ t.sequencer.main.lift = false ∧
        t.sequencer.regTimer = none) ∧
      (t.water.settings = ⟨800, 0, 50, 150⟩ ∧ (∀ i, t.water.associations.get i = .none) ∧ t.water.enable = true ∧
        t.water.exclusion = 0 ∧ t.water.state = .off ∧ t.water.tankEmpty = false ∧ t.water.eligible = 0 ∧
        t.water.wanted = 0 ∧ t.water.allowed = 0 ∧ t.water.demand = 0 ∧ t.water.autoCut = false ∧
        t.water.sprayed = 0 ∧ t.water.wetUntil = 0 ∧ t.water.primeTimer = none ∧ t.water.pump = 0 ∧
        t.water.nozzles = 0 ∧ t.water.prime = false ∧
        t.water.copies =
          { mode := .halted, groups := 0, dose := 0, cw := 200, row := ⟨0, .full⟩, tankLevel := none,
            cutWater := false, groundSpeed := 0, ground := .present, path := 0, advance := 0, armL := .stowed,
            armR := .stowed, main := .up, failed := 0, primeFailed := false }) ∧
      (t.chain.requested = 0 ∧ t.chain.wanted = 0 ∧ t.chain.loaded = 0 ∧ t.chain.prevLoaded = 0 ∧ t.chain.echo = 0 ∧
        t.chain.fault = 0 ∧ (∀ i, t.chain.counts.get i = 0) ∧ t.chain.failed = 0 ∧ t.chain.waiting = false ∧
        t.chain.shifting = false ∧ t.chain.timer = 20)

/-! ### Station ports (01) -/

/-- RECEIVER_READY takes HUNTING to READY; START_BIT discards a character in HUNTING, begins a frame in READY, and
adds a byte in RECEIVING, of which the first 37 are stored and all are counted. Nothing else changes. -/
def Obligations.ReceiverFollowsTheLine : Prop :=
  ∀ (p : Port) (data : Byte) (parity stop : Bool) (s : State),
    (exec (.receiverReady p) s =
      .next (s.setPort p
        { s.port p with
          receiver :=
            { (s.port p).receiver with
              state := if (s.port p).receiver.state = .hunting then .ready else (s.port p).receiver.state } })) ∧
    ((s.port p).receiver.state = .hunting → exec (.startBit p data parity stop) s = .next s) ∧
    ((s.port p).receiver.state = .ready →
      exec (.startBit p data parity stop) s =
        .next (s.setPort p { s.port p with receiver := ⟨.receiving, [data], 1, badCharacter data parity stop⟩ })) ∧
    ((s.port p).receiver.state = .receiving →
      exec (.startBit p data parity stop) s =
        .next (s.setPort p
          { s.port p with
            receiver :=
              { state := .receiving
                bytes := if (s.port p).receiver.bytes.length < 37 then (s.port p).receiver.bytes ++ [data]
                  else (s.port p).receiver.bytes
                count := (s.port p).receiver.count + 1
                errors := (s.port p).receiver.errors || badCharacter data parity stop } }))

/-- FRAME_END outside RECEIVING changes nothing; with the receive slot occupied the frame is discarded unevaluated and
the overrun flag is set, and nothing else changes. A request on a CUT_OFF port is neither acted on nor answered;
one that finds the receive slot occupied is lost, and sets the overrun flag. -/
def Obligations.RequestIsLostWhenThePortCannotTakeIt : Prop :=
  (∀ (p : Port) (s : State),
    ((s.port p).receiver.state ≠ .receiving → exec (.frameEnd p) s = .next s) ∧
    ((s.port p).receiver.state = .receiving → (s.port p).slot.isSome = true →
      exec (.frameEnd p) s =
        .next (s.setPort p { s.port p with receiver := ⟨.ready, [], 0, false⟩, overrun := true }))) ∧
  ∀ (c : Instr) (s : State) (p : Port) (k : RequestKind) (tag : Byte), c.request = some (p, k, tag) →
    ((s.port p).state = .cutOff → exec c s = .next s) ∧
    ((s.port p).state ≠ .cutOff → (s.port p).slot.isSome = true →
      exec c s = .next (s.setPort p { s.port p with overrun := true }))

/-- A frame is good when no character had an error, its byte count is at least 5 and 5 above a length byte of at most
32, and the two bytes received after the payload are the check of those before. A bad frame on a port that is not
CUT_OFF adds 8 to the error count, at most 255, and the count decides the port state. Below 192 nothing else of the part
changes but for LINK_STATE at the other two ports when the state changes. At 192 or above the port is CUT_OFF with slot,
buffer and queue empty and the lost marker set if a record was removed; LINK_STATE is offered to the other two ports,
and then none of its claims is left, while the other ports' claims stay. On a CUT_OFF port a bad frame sets the recovery
run to 0, a good one adds 1 and is not answered, and the sixteenth returns the port to HEALTHY with error count and run
0 and the overrun flag clear, and LINK_STATE at the other two ports. A good frame on a port that is HEALTHY or DEGRADED
takes 1 from the error count, makes a DEGRADED port HEALTHY when that leaves less than 96, with LINK_STATE at the other
two ports, and is then handed over as a request. The error count is otherwise held, and nothing else of the part
changes. -/
def Obligations.LinkHealthFollowsTheFrames : Prop :=
  (∀ r : Receiver, r.good = true ↔
    r.errors = false ∧ 5 ≤ r.count ∧ (r.bytes.getD 2 0).toNat ≤ 32 ∧ r.count = (r.bytes.getD 2 0).toNat + 5 ∧
      r.bytes.drop ((r.bytes.getD 2 0).toNat + 3) =
        bytes2 (crc (r.bytes.take ((r.bytes.getD 2 0).toNat + 3))).toNat) ∧
  (∀ (p : Port) (s : State), s.offers = [] → (s.port p).receiver.state = .receiving → (s.port p).slot = none →
    (s.port p).receiver.good = false → (s.port p).state ≠ .cutOff →
    ∃ t : State, exec (.frameEnd p) s = .next t ∧
      (t.port p).receiver = ⟨.ready, [], 0, false⟩ ∧
      (t.port p).errorCount = min 255 ((s.port p).errorCount + 8) ∧
      (t.port p).state =
        (if 192 ≤ min 255 ((s.port p).errorCount + 8) then .cutOff
         else if 96 ≤ min 255 ((s.port p).errorCount + 8) then .degraded else .healthy) ∧
      t.configuration = s.configuration ∧
      ((t.port p).state ≠ .cutOff →
        t = s.setPorts t.ports ∧
        t.port p =
          { s.port p with
            receiver := ⟨.ready, [], 0, false⟩, errorCount := (t.port p).errorCount, state := (t.port p).state } ∧
        ∀ q, q ≠ p →
          t.port q =
            if (t.port p).state = (s.port p).state then s.port q
            else (s.port q).offerNotice
              ⟨.linkState, portNumber p, false, (t.port p).state.number, s.pulse.path, s.mc.time⟩) ∧
      ((t.port p).state = .cutOff →
        (t.port p).slot = none ∧ (t.port p).buffer = none ∧ (t.port p).notices = [] ∧ (t.port p).recoveryRun = 0 ∧
        ((s.port p).lostMarker = true ∨ (s.port p).notices ≠ [] → (t.port p).lostMarker = true) ∧
        (∀ d, t.mc.claims.get d = if (s.mc.claims.get d).holder = some p then ⟨none, 0⟩ else s.mc.claims.get d) ∧
        ∃ u : State, u = s.setPorts u.ports ∧ t = (u.withMc (u.mc.withdrawPort p)).settle ∧
          u.port p =
            { s.port p with
              receiver := ⟨.ready, [], 0, false⟩, errorCount := min 255 ((s.port p).errorCount + 8), state := .cutOff,
              slot := none, buffer := none, notices := [], recoveryRun := 0,
              lostMarker := (s.port p).lostMarker || !(s.port p).notices.isEmpty,
              transmitter := (u.port p).transmitter } ∧
          ∀ q, q ≠ p →
            u.port q =
              (s.port q).offerNotice ⟨.linkState, portNumber p, false, 2, s.pulse.path, s.mc.time⟩)) ∧
  (∀ (p : Port) (s : State), s.offers = [] → (s.port p).receiver.state = .receiving → (s.port p).slot = none →
    (s.port p).receiver.good = true → (s.port p).state ≠ .cutOff →
    ∃ t : State, s.takesGoodFrame p t ∧
      exec (.frameEnd p) s = .next (t.handOver p (s.port p).receiver.bytes)) ∧
  ∀ (p : Port) (s : State), s.offers = [] → (s.port p).receiver.state = .receiving → (s.port p).slot = none →
    (s.port p).state = .cutOff →
    ((s.port p).receiver.good = false →
      exec (.frameEnd p) s =
        .next (s.setPort p { s.port p with receiver := ⟨.ready, [], 0, false⟩, recoveryRun := 0 })) ∧
    ((s.port p).receiver.good = true → (s.port p).recoveryRun < 15 →
      exec (.frameEnd p) s =
        .next (s.setPort p
          { s.port p with
            receiver := ⟨.ready, [], 0, false⟩, recoveryRun := (s.port p).recoveryRun + 1 })) ∧
    ((s.port p).receiver.good = true → 15 ≤ (s.port p).recoveryRun →
      ∃ t : State, exec (.frameEnd p) s = .next t ∧ t = s.setPorts t.ports ∧
        t.port p =
          { s.port p with
            receiver := ⟨.ready, [], 0, false⟩, state := .healthy, errorCount := 0, recoveryRun := 0,
            overrun := false } ∧
        ∀ q, q ≠ p →
          t.port q = (s.port q).offerNotice ⟨.linkState, portNumber p, false, 0, s.pulse.path, s.mc.time⟩)

/-- The frame of a request, received without error on a port that is not CUT_OFF and whose receive slot is free, does
what the request command does once the good frame has been taken: the error count down by 1 and, where that makes
a DEGRADED port HEALTHY, LINK_STATE at the other two ports. -/
def Obligations.GoodFrameIsItsRequest : Prop :=
  ∀ (c : Instr) (s : State) (p : Port) (k : RequestKind) (tag : Byte) (payload : List Byte),
    c.request = some (p, k, tag) → c.payload = some payload → payload.length ≤ 32 →
    (s.port p).receiver = ⟨.receiving, frame (byte k.number) tag payload, payload.length + 5, false⟩ →
    (s.port p).slot = none → (s.port p).state ≠ .cutOff →
    ((s.port p).state = .degraded → (s.port p).errorCount ≤ 96 → s.offers = []) →
    ∃ t : State, s.takesGoodFrame p t ∧ exec (.frameEnd p) s = exec c t

/-- A request whose class the table of R24 leaves out gets NOT_PERMITTED, on a port that is not CUT_OFF and whose
receive slot is free; nothing but the answer changes. A good frame whose payload has not the length of its kind,
from a class allowed the kind, gets BAD_VALUE at its end; a WRITE, whose length is its table's, is in
WritesAreRefused. A good frame of a kind that is no request kind is answered UNKNOWN; the response carries the
kind with its top bit set and the tag, and no data. -/
def Obligations.WrongClassAndUnknownKindAreAnswered : Prop :=
  (∀ (c : Instr) (s : State) (p : Port) (k : RequestKind) (tag : Byte), c.request = some (p, k, tag) →
    (s.port p).state ≠ .cutOff → (s.port p).slot = none → (s.port p).authority ∉ k.classes →
    exec c s = .next (s.respond p (byte k.number) tag ⟨.notPermitted, []⟩)) ∧
  (∀ (p : Port) (s : State) (k : RequestKind) (n : Nat) (tag : Byte) (payload : List Byte),
    (k, n) ∈
      [(RequestKind.claim, 1), (.release, 1), (.travel, 2), (.mode, 1), (.start, 0), (.restart, 0), (.pin, 1),
        (.unpin, 0), (.zoneAhead, 5), (.reserve, 2), (.arm, 2), (.broom, 1), (.water, 3), (.holdSet, 1),
        (.releaseSet, 0), (.clearLatch, 2), (.clearFailed, 2), (.output, 3), (.read, 3), (.subscribe, 1), (.lock, 1),
        (.unlock, 0)] →
    payload.length ≤ 32 → payload.length ≠ n →
    (s.port p).receiver = ⟨.receiving, frame (byte k.number) tag payload, payload.length + 5, false⟩ →
    s.hears p k → ((s.port p).state = .degraded → (s.port p).errorCount ≤ 96 → s.offers = []) →
    ∃ t : State, s.takesGoodFrame p t ∧
      exec (.frameEnd p) s = .next (t.respond p (byte k.number) tag ⟨.badValue, []⟩)) ∧
  ∀ (p : Port) (s : State) (kind tag : Byte) (payload : List Byte),
    (kind.toNat = 0 ∨ 24 ≤ kind.toNat) → payload.length ≤ 32 →
    (s.port p).receiver = ⟨.receiving, frame kind tag payload, payload.length + 5, false⟩ →
    (s.port p).slot = none → (s.port p).state = .healthy → (s.port p).buffer = none →
    (s.port p).transmitter = .idle →
    exec (.frameEnd p) s =
      .next (s.setPort p
        { s.port p with
          receiver := ⟨.ready, [], 0, false⟩
          errorCount := (s.port p).errorCount - 1
          overrun := false
          transmitter :=
            .response (frame (kind ||| 0x80) tag
              [11, byte (4 * (s.port p).overrun.toNat + 8 * (s.port p).lostMarker.toNat +
                16 * (s.port p).notices.length)]) })

/-- A response: it is built as the port stands, with its status byte, and enters an empty buffer, which frees the slot
and clears the overrun flag; an idle transmitter of a port that is not CUT_OFF sends it at once; with the buffer
full it waits in the slot. The end of a sent frame, and the last character of a notice: the transmitter of a port
that is not CUT_OFF chooses the buffered response, into whose place the waiting one moves, then the oldest notice,
else IDLE; a CUT_OFF port goes IDLE. The record of a notice leaves the queue with its last character. Nothing else
changes. -/
def Obligations.ResponsesAndNoticesAreSent : Prop :=
  (∀ (u : PortUnit) (r : Response),
    ((u.buffer = none → (u.transmitter ≠ .idle →
      u.respond r =
        { u with
          slot := none
          overrun := false
          buffer := some (frame (r.kind ||| 0x80) r.tag
            (byte r.code.number ::
              byte (u.state.number + 4 * u.overrun.toNat + 8 * u.lostMarker.toNat + 16 * u.notices.length) ::
              r.data)) }) ∧
      (u.transmitter = .idle → u.state ≠ .cutOff →
      u.respond r =
        { u with
          slot := none
          overrun := false
          transmitter := .response (frame (r.kind ||| 0x80) r.tag
            (byte r.code.number ::
              byte (u.state.number + 4 * u.overrun.toNat + 8 * u.lostMarker.toNat + 16 * u.notices.length) ::
              r.data)) })) ∧
    ∀ f, u.buffer = some f → u.respond r = { u with slot := some r })) ∧
  ∀ (p : Port) (s : State) (f : List Byte),
    ((s.port p).transmitter = .response f ∨ (s.port p).transmitter = .noticeGap f →
      ((s.port p).state = .cutOff →
        exec (.transmitterFrameEnd p) s = .next (s.setPort p { s.port p with transmitter := .idle })) ∧
      ((s.port p).state ≠ .cutOff →
        (∀ g, (s.port p).buffer = some g → (s.port p).slot = none →
          exec (.transmitterFrameEnd p) s =
            .next (s.setPort p { s.port p with buffer := none, transmitter := .response g })) ∧
        (∀ g r, (s.port p).buffer = some g → (s.port p).slot = some r →
          exec (.transmitterFrameEnd p) s =
            .next (s.setPort p
              { s.port p with
                slot := none
                overrun := false
                transmitter := .response g
                buffer := some (frame (r.kind ||| 0x80) r.tag
                  (byte r.code.number ::
                    byte ((s.port p).state.number + 4 * (s.port p).overrun.toNat +
                      8 * (s.port p).lostMarker.toNat + 16 * (s.port p).notices.length) :: r.data)) })) ∧
        (∀ n ns, (s.port p).buffer = none → (s.port p).notices = n :: ns →
          exec (.transmitterFrameEnd p) s =
            .next (s.setPort p
              { s.port p with
                transmitter := .notice
                  (frame 0x40 0
                    (byte n.kind.classCode :: byte n.kind.number :: byte n.subject :: flagByte n.lost ::
                      (bytes2s n.value ++ bytes4 n.path ++ bytes4 n.time.toNat))) true })) ∧
        ((s.port p).buffer = none → (s.port p).notices = [] →
          exec (.transmitterFrameEnd p) s = .next (s.setPort p { s.port p with transmitter := .idle })))) ∧
    ((s.port p).transmitter = .notice f true →
      exec (.noticeRecordSent p) s =
        .next (s.setPort p { s.port p with transmitter := .noticeGap f, notices := (s.port p).notices.tail })) ∧
    ((s.port p).transmitter = .notice f false →
      exec (.noticeRecordSent p) s = .next (s.setPort p { s.port p with transmitter := .noticeGap f }))

/-- SUBSCRIBE replaces the subscription set and answers with it; a byte with bit 6 or 7 set gets BAD_VALUE and changes
nothing. Queue and lost marker stay as they are but for the answer. A notice at a port unit: ignored outside the
subscription set; refused with the lost marker while CUT_OFF; appended with the lost marker as its lost flag, which
clears the marker, while there is room; dropped with the lost marker when the queue holds 8. An idle transmitter with
an empty buffer sends the appended record's head. A notice that a block posts is offered to every port unit, or to the
one it is posted to alone, stamped with path and time counter, its value held to two bytes; nothing else changes. -/
def Obligations.NoticesAreSubscribedToAndQueued : Prop :=
  (∀ (p : Port) (tag classes : Byte) (s : State), s.hears p .subscribe →
    (classes.getLsbD 6 = false ∧ classes.getLsbD 7 = false →
      exec (.subscribe p tag classes) s =
        .next ((s.setPort p { s.port p with subscriptions := classes.truncate 6 }).respond p 0x15 tag
          ⟨.ok, [classes]⟩)) ∧
    (classes.getLsbD 6 = true ∨ classes.getLsbD 7 = true →
      exec (.subscribe p tag classes) s = .next (s.respond p 0x15 tag ⟨.badValue, []⟩))) ∧
  (∀ (s : State) (kind : NoticeKind) (subject : Nat) (value : Int) (n : NoticeRecord),
    n = ⟨kind, subject, false, max (-32768) (min 32767 value), s.pulse.path, s.mc.time⟩ →
    (∃ t : State, deliver (.post kind subject value) s = t ∧ t = s.setPorts t.ports ∧
      ∀ p, t.port p = (s.port p).offerNotice n) ∧
    ∀ p, deliver (.postTo p kind subject value) s = s.setPort p ((s.port p).offerNotice n)) ∧
  ∀ (u : PortUnit) (n : NoticeRecord),
    (u.subscriptions.getLsbD n.kind.classCode = false → u.offerNotice n = u) ∧
    (u.subscriptions.getLsbD n.kind.classCode = true →
      (u.state = .cutOff → u.offerNotice n = { u with lostMarker := true }) ∧
      (u.state ≠ .cutOff → 8 ≤ u.notices.length → u.offerNotice n = { u with lostMarker := true }) ∧
      (u.state ≠ .cutOff → u.notices.length < 8 →
        (u.transmitter ≠ .idle →
          u.offerNotice n =
            { u with notices := u.notices ++ [{ n with lost := u.lostMarker }], lostMarker := false }) ∧
        (u.transmitter = .idle → u.buffer = none → u.notices = [] →
          u.offerNotice n =
            { u with
              notices := [{ n with lost := u.lostMarker }]
              lostMarker := false
              transmitter := .notice { n with lost := u.lostMarker }.frame true })))

/-- The encodings of the records (R18). Numbers go most significant byte first, signed ones in two's complement; every
table has its record size and capacity. For READ each record is its fields in the order of its chapter, an
enumeration by its place in the chapter's list, a flag 0 or 1, a set by its mask, an optional field behind its
presence byte and zeros when absent; what the part derives for a field (readiness, indication, broom rpm, lift
causes, roles of a channel, time left on a timer) is the model's function of the state, and the pressure command of an
arm is its coil in every mode (the model's choice, log 47). For WRITE a record is taken
exactly when each writable field, at its offset, is in its range or list, and the fields are then those bytes; the
bytes of read-only fields, and the value bytes of an absent optional, are not tested (read from R18 and R20, log 7). -/
def Obligations.RecordsAreLaidOut : Prop :=
  ((∀ n, n < 256 → (byte n).toNat = n) ∧ (∀ n, n < 65536 → (bytes2 n).map BitVec.toNat = [n / 256, n % 256]) ∧
    (∀ n, n < 4294967296 →
      (bytes4 n).map BitVec.toNat = [n / 16777216, n / 65536 % 256, n / 256 % 256, n % 256]) ∧
    (∀ i : Int, -32768 ≤ i → i < 32768 → bytes2s i = bytes2 (i % 65536).toNat) ∧
    (∀ (r : List Byte) (o : Nat), field1 r o = (r.getD o 0).toNat ∧ field2 r o = field1 r o * 256 + field1 r (o + 1) ∧
      field4 r o = field2 r o * 65536 + field2 r (o + 2) ∧
      field2s r o = if field2 r o < 32768 then (field2 r o : Int) else (field2 r o : Int) - 65536) ∧
    (List.range 27).map (fun n => (Table.ofNumber n).map fun t => (t.recordSize, t.capacity)) =
      [none, some (8, 3), some (6, 3), some (14, 1), some (13, 1), some (5, 12), some (2, 16), some (18, 1),
        some (6, 16), some (8, 6), some (9, 16), some (22, 1), some (22, 8), some (11, 16), some (13, 1), some (9, 4),
        some (14, 5), some (28, 1), some (26, 1), some (7, 1), some (22, 3), some (13, 3), some (13, 3), some (26, 1),
        some (1, 12), some (8, 16), none]) ∧
  (∀ s : State,
    s.records .ports = [Port.s0, .s1, .s2].map (fun p =>
      [byte ([PortState.healthy, .degraded, .cutOff].idxOf (s.port p).state), byte (s.port p).errorCount,
        byte (s.port p).recoveryRun, flagByte (s.port p).overrun,
        byte ([AuthorityClass.operator, .route, .engine, .service].idxOf (s.port p).authority),
        byte (s.port p).subscriptions.toNat, byte (s.port p).notices.length, flagByte (s.port p).lostMarker]) ∧
    s.records .claims = [Domain.travel, .implements, .water].map (fun d =>
      (match (s.mc.claims.get d).holder with
        | none => [0, 0]
        | some p => [1, byte (portNumber p)]) ++ bytes4 (s.mc.claims.get d).claimedAt.toNat) ∧
    s.records .limits =
      [bytes2 s.mc.limits.fwdCap ++ bytes2 s.mc.limits.revCap ++ bytes2 s.mc.limits.transportCap ++
        bytes2 s.mc.limits.armPressMax ++ bytes2 s.mc.limits.mainRpmMax ++ bytes2 s.mc.limits.sideRpmMax ++
        [flagByte s.mc.softLock, flagByte s.mc.hardLock]] ∧
    s.records .machine =
      [[byte ([Mode.halted, .transport, .sweep, .stowing, .service].idxOf s.mc.mode), flagByte s.mc.estopAsserted,
          flagByte s.mc.haltTrip, byte s.readiness] ++ bytes4 s.mc.time.toNat ++ bytes4 s.mc.lastChange.toNat ++
        [byte ([Cause.start, .mode, .restart, .estop, .haltTrip, .stowDone, .powerOn].idxOf s.mc.lastCause)]] ∧
    s.records .roleMap = (List.finRange 12).map (fun i =>
      byte ((s.scanner.roleMap.get i).channel.elim 16 Fin.val) ::
        (bytes2 (s.scanner.roleMap.get i).offset ++ bytes2s (s.scanner.roleMap.get i).scale)) ∧
    s.records .scanList = s.scanner.scanList.map (fun e => [byte e.channel.val, byte e.sample.val]) ∧
    s.records .scanControl =
      [byte s.scanner.period :: bytes2 s.scanner.staleLimit ++
        [0, byte ([ScanState.stopped, .converting, .waiting, .paused].idxOf s.scanner.state),
          flagByte s.scanner.continuous, s.scanner.scanNumber, byte s.scanner.published.length] ++
        bytes4 s.scanner.publishTime.toNat ++
        bytes2 (if s.scanner.published = [] then 65535
          else min 65535 (s.mc.time - s.scanner.publishTime).toNat) ++
        [flagByte s.scanner.stale] ++
        (match s.scanner.hold with
          | none => [0, 0, 0]
          | some h => [1, byte (portNumber h.holder), byte (remaining s.mc.time (some h.expiry))])] ∧
    s.records .publishedSet = s.scanner.published.map (fun x =>
      byte x.channel.val :: bytes2 x.raw ++ bytes2 (s.scanner.rolesOf x.channel) ++ [s.scanner.scanNumber]) ∧
    s.records .windows = (List.finRange 6).map (fun i =>
      bytes2 (s.monitor.windows.get i).low ++ bytes2 (s.monitor.windows.get i).high ++
        [byte ([WindowAction.notice, .derate, .cutWater, .liftArms, .stopTravel, .halt].idxOf
          (s.monitor.windows.get i).action)] ++ bytes2 (s.monitor.windows.get i).derate ++
        [flagByte (s.monitor.indication i)]) ∧
    s.records .assignments = (List.finRange 16).map (fun i =>
      [byte ((s.monitor.assignments.get i).window.elim 6 Fin.val),
          byte ([Sense.inside, .outside].idxOf (s.monitor.assignments.get i).sense),
          flagByte (s.monitor.assignments.get i).latched] ++ bytes2 (s.monitor.assignments.get i).tripRaw ++
        bytes4 (s.monitor.assignments.get i).tripTime.toNat) ∧
    s.records .pulse =
      [bytes2 s.pulse.motorPpm ++ bytes2 s.pulse.groundPpm ++ [byte s.pulse.window] ++ bytes2 s.pulse.lossTime ++
        bytes2 s.pulse.motorSpeed ++ [byte ([Direction.forward, .reverse, .none].idxOf s.pulse.direction)] ++
        bytes2 s.pulse.groundSpeed ++
        [byte ([GroundStatus.present, .lost].idxOf s.pulse.status),
          byte ([PathSource.ground, .motor].idxOf s.pulse.source)] ++
        bytes4 s.pulse.path ++ bytes2 s.pulse.remainder ++ [byte s.pulse.slip, byte s.pulse.regainRun]] ∧
    s.records .profiles = (List.finRange 8).map (fun i =>
      flagByte (s.selector.rows.get i).valid :: bytes2 (s.selector.rows.get i).speedCap ++
        bytes2 (s.selector.rows.get i).mainRpm ++ bytes2 (s.selector.rows.get i).sideRpm ++
        bytes2 (s.selector.rows.get i).reachL ++ bytes2 (s.selector.rows.get i).reachR ++
        bytes2 (s.selector.rows.get i).pressTarget ++ bytes2 (s.selector.rows.get i).groups.toNat ++
        [byte (s.selector.rows.get i).dose] ++
        (s.selector.rows.get i).shedOrder.map
          (fun c => byte ([Consumer.travel, .main, .armL, .armR, .water].idxOf c)) ++
        [byte ([ArmsUsed.l, .r, .both, .none].idxOf (s.selector.rows.get i).armsUsed)]) ∧
    s.records .zones = (List.finRange 16).map (fun i =>
      flagByte (s.selector.zones.get i).enabled :: bytes4 (s.selector.zones.get i).code.toNat ++
        [byte (s.selector.zones.get i).profile.val] ++
        (match (s.selector.zones.get i).ownMask with
          | none => [0, 0, 0, 0, 0]
          | some m => 1 :: bytes4 m.toNat)) ∧
    s.records .zoneMask =
      [bytes4 s.selector.sharedMask.toNat ++
        [byte s.selector.zoneProfile.val, byte s.selector.active.val, flagByte s.selector.pinned,
          byte s.selector.queue.length] ++
        (match s.selector.lastCode with
          | none => [0, 0, 0, 0, 0]
          | some m => 1 :: bytes4 m.toNat)] ∧
    s.records .changeQueue =
      s.selector.queue.map (fun e => bytes4 e.mark ++ [byte e.profile.val] ++ bytes4 e.code.toNat) ∧
    s.records .budget = [Consumer.travel, .main, .armL, .armR, .water].map (fun c =>
      bytes2 (s.budget.rows.get c).offered ++ bytes2 (s.budget.rows.get c).demand ++
        bytes2 (s.budget.rows.get c).grant ++
        [byte (s.budget.rows.get c).rank, byte ([RowState.full, .trimmed, .held].idxOf (s.budget.rows.get c).state)] ++
        (match (s.budget.rows.get c).holdExpiry with
          | none => [0, 0, 0, 0, 0]
          | some e => 1 :: bytes4 e.toNat) ++ [byte (s.budget.rows.get c).floor]) ∧
    s.records .coefficients =
      [bytes2 s.budget.coefficients.ct ++ bytes2 s.budget.coefficients.cg ++ bytes2 s.budget.coefficients.cm ++
        bytes2 s.budget.coefficients.cb ++ bytes2 s.budget.coefficients.cw ++ bytes2 s.budget.coefficients.fallback ++
        [byte s.budget.coefficients.margin] ++ bytes2 s.budget.coefficients.holdTime ++ bytes2 s.budget.reserve ++
        [byte ([ReserveSource.reported, .fallback].idxOf s.budget.source)] ++
        (match s.budget.lastReporter with
          | none => [0, 0]
          | some p => [1, byte (portNumber p)]) ++
        bytes2 (remaining s.mc.time s.budget.leaseExpiry) ++ bytes2 s.budget.derate ++ bytes2 s.budget.ceiling ++
        bytes2 (s.budget.rows.travel.grant + s.budget.rows.main.grant + s.budget.rows.armL.grant +
          s.budget.rows.armR.grant + s.budget.rows.water.grant)] ∧
    s.records .travel =
      [bytes2 s.governor.settings.lease ++ bytes2 s.governor.settings.rampUp ++ bytes2 s.governor.settings.rampDown ++
        bytes2 s.governor.settings.creep ++ [byte s.governor.settings.slipLimit] ++ bytes2s s.governor.request ++
        bytes2 (remaining s.mc.time s.governor.leaseExpiry) ++
        [byte (match s.governor.state with
          | .standstill => 0
          | .forward => 1
          | .reverse => 2
          | .directionHold _ => 3
          | .stopping => 4)] ++
        bytes2s s.governor.target ++ bytes2s s.governor.command ++ bytes2 s.governor.ceiling ++
        [byte ([CeilingTerm.mode, .stopTrip, .interlock, .creep, .grant, .direction].idxOf s.governor.limiting),
          flagByte s.governor.liftForReverse, flagByte s.governor.reverseBlocked, byte s.governor.cutLevel] ++
        bytes2 s.governor.demand] ∧
    s.records .driveMap =
      [bytes2 s.governor.map.start ++ bytes2 s.governor.map.full ++ bytes2 s.governor.map.fullSpeed ++
        [if 100 ≤ s.governor.map.fullSpeed ∧ 1 ≤ s.governor.map.full ∧ s.governor.map.start ≤ s.governor.map.full
          then 1 else 0]] ∧
    s.records .implements =
      [Side.left, .right].map (fun x =>
        bytes2 (s.sequencer.arm x).settings.swingLimit ++ [byte (s.sequencer.arm x).settings.retryLimit] ++
          bytes2 (s.sequencer.arm x).settings.swingDrive ++ bytes2 (s.sequencer.arm x).settings.yieldDrive ++
          [byte ([ArmState.stowed, .swingingOut, .lowering, .working, .yielding, .raising, .raised, .swingingIn,
              .retryWait, .fault].idxOf (s.sequencer.arm x).state),
            byte ([ArmCommand.auto, .out, .in_].idxOf (s.sequencer.arm x).command),
            byte (s.sequencer.arm x).attempts] ++
          (match (s.sequencer.arm x).position with
            | none => [0, 0, 0]
            | some v => 1 :: bytes2 v.toNat) ++
          bytes2 (s.sequencer.armRpm x) ++ bytes2 (s.sequencer.arm x).press ++
          [byte ((s.sequencer.armCauses x).reverse.toNat + 2 * (s.sequencer.armCauses x).trip.toNat +
            4 * (s.sequencer.armCauses x).budget.toNat)] ++
          (match (s.sequencer.arm x).fault with
            | none => [0, 0]
            | some c => [1, byte ([FaultCause.retryLimit, .liftFailed].idxOf c)]) ++
          bytes2 (remaining s.mc.time (s.sequencer.arm x).timer)) ++
      [bytes2 s.sequencer.main.settings.swingLimit ++ [byte s.sequencer.main.settings.retryLimit] ++
        bytes2 s.sequencer.main.settings.swingDrive ++ bytes2 s.sequencer.main.settings.yieldDrive ++
        [byte (match s.sequencer.main.state with
          | .lowering => 2
          | .fault => 9
          | .up => 10
          | .down => 11
          | .lifting => 12),
          byte (match s.sequencer.main.command with
          | .auto => 0
          | .up => 3),
          0, 0, 0, 0] ++
        bytes2 s.sequencer.mainRpmNow ++ [0, 0] ++
        [byte (s.sequencer.mainCauses.reverse.toNat + 2 * s.sequencer.mainCauses.trip.toNat +
          4 * s.sequencer.mainCauses.budget.toNat)] ++
        (match s.sequencer.main.fault with
          | none => [0, 0]
          | some c => [1, byte ([FaultCause.retryLimit, .liftFailed].idxOf c)]) ++
        bytes2 (remaining s.mc.time s.sequencer.main.timer)] ∧
    (∀ t x, t = Table.outcomesL ∧ x = Side.left ∨ t = .outcomesR ∧ x = .right →
      s.records t = (s.sequencer.arm x).outcomes.map (fun o =>
        [byte ([MotionKind.swingOut, .swingIn, .yield].idxOf o.motion),
            byte ([MotionOutcome.done, .timedOut, .aborted, .faulted].idxOf o.outcome), byte o.attempts] ++
          bytes4 o.path ++ bytes4 o.duration.toNat ++
          (match o.abort with
            | none => [0, 0]
            | some c =>
              [1, byte ([AbortCause.liftRequest, .stowRequest, .halt, .budgetHeld, .trip].idxOf c)]))) ∧
    s.records .water =
      [bytes2 s.water.settings.primeTime ++ bytes2 s.water.settings.exempt.toNat ++
        bytes2 s.water.settings.emptyLevel ++ bytes2 s.water.settings.refillLevel ++ [flagByte s.water.enable] ++
        bytes2 s.water.exclusion.toNat ++
        [byte ([WaterState.off, .priming, .spraying, .idleWait, .empty].idxOf s.water.state),
          flagByte s.water.tankEmpty] ++
        bytes2 s.water.eligible.toNat ++ bytes2 s.water.wanted ++ bytes2 s.water.allowed ++ bytes2 s.water.demand ++
        [flagByte s.water.autoCut] ++ bytes4 s.water.sprayed] ∧
    s.records .association = (List.finRange 12).map (fun i =>
      [byte ([Association.none, .main, .armL, .armR].idxOf (s.water.associations.get i))]) ∧
    s.records .chain = (List.finRange 16).map (fun i =>
      [flagByte (s.chain.requested.getLsbD i.val), flagByte (s.chain.wanted.getLsbD i.val),
        flagByte (s.chain.loaded.getLsbD i.val), flagByte (s.chain.prevLoaded.getLsbD i.val),
        flagByte (s.chain.echo.getLsbD i.val), flagByte (s.chain.fault.getLsbD i.val), byte (s.chain.counts.get i),
        flagByte (s.chain.failed.getLsbD i.val)])) ∧
  ∀ r : List Byte,
    (∀ x, parseLimits r = some x ↔
      x = ⟨field2 r 0, field2 r 2, field2 r 4, field2 r 6, field2 r 8, field2 r 10⟩ ∧ x.fwdCap ≤ 12000 ∧
        x.revCap ≤ 12000 ∧ x.transportCap ≤ 12000 ∧ x.armPressMax ≤ 25000 ∧ x.mainRpmMax ≤ 1000 ∧
        x.sideRpmMax ≤ 1000) ∧
    (∀ x, parseRoleMap r = some x ↔
      x.channel.elim 16 Fin.val = field1 r 0 ∧ x.offset = field2 r 1 ∧ x.offset ≤ 4095 ∧ x.scale = field2s r 3) ∧
    (∀ x, parseScanList r = some x ↔ x.channel.elim 16 Fin.val = field1 r 0 ∧ x.sample.val = field1 r 1) ∧
    (∀ x, parseScanControl r = some x ↔
      x.period = field1 r 0 ∧ 2 ≤ x.period ∧ x.period ≤ 100 ∧ x.staleLimit = field2 r 1 ∧ 20 ≤ x.staleLimit ∧
        x.staleLimit ≤ 500 ∧ x.single.toNat = field1 r 3) ∧
    (∀ x, parseWindows r = some x ↔
      x.low = field2 r 0 ∧ x.low ≤ 4095 ∧ x.high = field2 r 2 ∧ x.high ≤ 4095 ∧
        [WindowAction.notice, .derate, .cutWater, .liftArms, .stopTravel, .halt].idxOf x.action = field1 r 4 ∧
        x.derate = field2 r 5 ∧ x.derate ≤ 1000) ∧
    (∀ x, parseAssignments r = some x ↔
      x.window.elim 6 Fin.val = field1 r 0 ∧ [Sense.inside, .outside].idxOf x.sense = field1 r 1) ∧
    (∀ x, parsePulse r = some x ↔
      x = ⟨field2 r 0, field2 r 2, field1 r 4, field2 r 5⟩ ∧ 10 ≤ x.motorPpm ∧ x.motorPpm ≤ 2000 ∧
        10 ≤ x.groundPpm ∧ x.groundPpm ≤ 2000 ∧ 20 ≤ x.window ∧ x.window ≤ 200 ∧ 100 ≤ x.lossTime ∧
        x.lossTime ≤ 2000) ∧
    (∀ x, parseProfiles r = some x ↔
      x.valid.toNat = field1 r 0 ∧ x.speedCap = field2 r 1 ∧ x.speedCap ≤ 12000 ∧ x.mainRpm = field2 r 3 ∧
        x.mainRpm ≤ 1000 ∧ x.sideRpm = field2 r 5 ∧ x.sideRpm ≤ 1000 ∧ x.reachL = field2 r 7 ∧ x.reachL ≤ 1000 ∧
        x.reachR = field2 r 9 ∧ x.reachR ≤ 1000 ∧ x.pressTarget = field2 r 11 ∧ x.pressTarget ≤ 25000 ∧
        x.groups.toNat = field2 r 13 ∧ x.dose = field1 r 15 ∧ x.dose ≤ 200 ∧
        x.shedOrder.map (fun c => [Consumer.travel, .main, .armL, .armR, .water].idxOf c) =
          [field1 r 16, field1 r 17, field1 r 18, field1 r 19, field1 r 20] ∧
        [ArmsUsed.l, .r, .both, .none].idxOf x.armsUsed = field1 r 21) ∧
    (∀ x, parseZones r = some x ↔
      x.enabled.toNat = field1 r 0 ∧ x.code.toNat = field4 r 1 ∧ x.profile.val = field1 r 5 ∧
        (field1 r 6 = 0 ∧ x.ownMask = none ∨ field1 r 6 = 1 ∧ x.ownMask.map BitVec.toNat = some (field4 r 7))) ∧
    (∀ x, code24At r 0 = some x ↔ x.toNat = field4 r 0) ∧
    (∀ x, parseCoefficients r = some x ↔
      x = ⟨field2 r 0, field2 r 2, field2 r 4, field2 r 6, field2 r 8, field2 r 10, field1 r 12, field2 r 13⟩ ∧
        x.ct ≤ 1000 ∧ x.cg ≤ 1000 ∧ x.cm ≤ 1000 ∧ x.cb ≤ 1000 ∧ x.cw ≤ 1000 ∧ x.fallback ≤ 1000 ∧ x.margin ≤ 200 ∧
        200 ≤ x.holdTime ∧ x.holdTime ≤ 5000) ∧
    (∀ x, parseTravel r = some x ↔
      x = ⟨field2 r 0, field2 r 2, field2 r 4, field2 r 6, field1 r 8⟩ ∧ 50 ≤ x.lease ∧ x.lease ≤ 1000 ∧
        100 ≤ x.rampUp ∧ x.rampUp ≤ 3000 ∧ 100 ≤ x.rampDown ∧ x.rampDown ≤ 3000 ∧ 100 ≤ x.creep ∧ x.creep ≤ 1000 ∧
        5 ≤ x.slipLimit ∧ x.slipLimit ≤ 50) ∧
    (∀ x, parseDriveMap r = some x ↔
      x = ⟨field2 r 0, field2 r 2, field2 r 4⟩ ∧ x.start ≤ 1000 ∧ x.full ≤ 1000 ∧ x.fullSpeed ≤ 12000) ∧
    (∀ x, parseImplements r = some x ↔
      x = ⟨field2 r 0, field1 r 2, field2 r 3, field2 r 5⟩ ∧ 500 ≤ x.swingLimit ∧ x.swingLimit ≤ 8000 ∧
        x.retryLimit ≤ 7 ∧ x.swingDrive ≤ 1000 ∧ x.yieldDrive ≤ 1000) ∧
    (∀ x, parseWater r = some x ↔
      x.primeTime = field2 r 0 ∧ 300 ≤ x.primeTime ∧ x.primeTime ≤ 3000 ∧ x.exempt.toNat = field2 r 2 ∧
        x.emptyLevel = field2 r 4 ∧ x.emptyLevel ≤ 1000 ∧ x.refillLevel = field2 r 6 ∧ x.refillLevel ≤ 1000) ∧
    (∀ x, Association.ofNumber (field1 r 0) = some x ↔
      [Association.none, .main, .armL, .armR].idxOf x = field1 r 0) ∧
    ∀ i : Nat,
      parseRecord .limits i r = (parseLimits r).map .limits ∧
        parseRecord .roleMap i r = (parseRoleMap r).map .roleMap ∧
        parseRecord .scanList i r = (parseScanList r).map .scanList ∧
        parseRecord .scanControl i r = (parseScanControl r).map .scanControl ∧
        parseRecord .windows i r = (parseWindows r).map .windows ∧
        parseRecord .assignments i r = (parseAssignments r).map .assignments ∧
        parseRecord .pulse i r = (parsePulse r).map .pulse ∧
        parseRecord .profiles i r = (parseProfiles r).map .profiles ∧
        parseRecord .zones i r = (parseZones r).map .zones ∧
        parseRecord .zoneMask i r = (code24At r 0).map .zoneMask ∧
        parseRecord .budget i r =
          (if i = 0 then some (.budget none)
           else if field1 r 13 ≤ 100 then some (.budget (some (field1 r 13))) else none) ∧
        parseRecord .coefficients i r = (parseCoefficients r).map .coefficients ∧
        parseRecord .travel i r = (parseTravel r).map .travel ∧
        parseRecord .driveMap i r = (parseDriveMap r).map .driveMap ∧
        parseRecord .implements i r = (parseImplements r).map .implements ∧
        parseRecord .water i r = (parseWater r).map .water ∧
        parseRecord .association i r = (Association.ofNumber (field1 r 0)).map .association

/-- READ answers with the number of records and the records that the request names, as many as exist, as asked for and
as fit in 29 bytes; an unknown table, a count of 0 or a first index at or beyond the capacity gets BAD_VALUE. A
READ changes nothing but by its answer. -/
def Obligations.ReadReturnsRecords : Prop :=
  ∀ (p : Port) (tag table first count : Byte) (s : State), s.hears p .read →
    (Table.ofNumber table.toNat = none → exec (.read p tag table first count) s =
      .next (s.respond p 0x13 tag ⟨.badValue, []⟩)) ∧
    ∀ t, Table.ofNumber table.toNat = some t →
      (count = 0 ∨ t.capacity ≤ first.toNat →
        exec (.read p tag table first count) s = .next (s.respond p 0x13 tag ⟨.badValue, []⟩)) ∧
      (count ≠ 0 → first.toNat < t.capacity →
        exec (.read p tag table first count) s =
          .next (s.respond p 0x13 tag
            ⟨.ok,
              byte (((s.records t).drop first.toNat).take (min count.toNat (29 / t.recordSize))).length ::
                (((s.records t).drop first.toNat).take (min count.toNat (29 / t.recordSize))).flatten⟩))

/-! ### Modes, domains and limits (02) -/

/-- CLAIM. A number above 2 gets BAD_VALUE; TRAVEL from any class but OPERATOR gets NOT_PERMITTED; a free domain is
taken; one's own is answered OK; an OPERATOR takes over from a ROUTE station, to which alone CLAIM_LOST is posted,
before the job is informed (the model's choice, log 46); otherwise HELD_BY_OTHER with the holder's port number. At a
change of holder the claimed-at time is the time counter, the other domains keep their holders, and the job is informed.
RELEASE. The holder's frees the domain, whose job is informed, and is answered OK; any other station's gets NOT_HOLDER;
a number above 2 gets BAD_VALUE. What a change of holder comes to once the offers are taken: the claim table, every
configuration record and the clock are as they stand; at TRAVEL the request is 0 and its lease has stopped, at
IMPLEMENTS every command is AUTO, at WATER enable is on and the exclusion set is empty. -/
def Obligations.ClaimAndReleaseChangeTheHolder : Prop :=
  (∀ (p : Port) (tag domain : Byte) (s : State), s.hears p .claim → s.offers = [] →
    (3 ≤ domain.toNat → exec (.claim p tag domain) s = .next (s.respond p 0x01 tag ⟨.badValue, []⟩)) ∧
    (domain = 0 → (s.port p).authority ≠ .operator →
      exec (.claim p tag domain) s = .next (s.respond p 0x01 tag ⟨.notPermitted, []⟩)) ∧
    ∀ d : Domain, domain.toNat = d.number → (d = .travel → (s.port p).authority = .operator) →
      ((s.mc.claims.get d).holder = none →
        exec (.claim p tag domain) s =
          .next (((s.setMc { s.mc with claims := s.mc.claims.set d ⟨some p, s.mc.time⟩ }).emit
            [.holderChanged d]).settle.respond p 0x01 tag ⟨.ok, []⟩)) ∧
      ((s.mc.claims.get d).holder = some p →
        exec (.claim p tag domain) s = .next (s.respond p 0x01 tag ⟨.ok, []⟩)) ∧
      ∀ h, (s.mc.claims.get d).holder = some h → h ≠ p →
        ((s.port h).authority = .route → (s.port p).authority = .operator →
          exec (.claim p tag domain) s =
            .next (((s.setMc { s.mc with claims := s.mc.claims.set d ⟨some p, s.mc.time⟩ }).emit
              [.postTo h .claimLost d.number (portNumber p), .holderChanged d]).settle.respond p 0x01 tag ⟨.ok, []⟩)) ∧
        ((s.port h).authority ≠ .route ∨ (s.port p).authority ≠ .operator →
          exec (.claim p tag domain) s =
            .next (s.respond p 0x01 tag ⟨.heldByOther, [byte (portNumber h)]⟩))) ∧
  (∀ (p : Port) (tag domain : Byte) (s : State), s.hears p .release → s.offers = [] →
    (3 ≤ domain.toNat → exec (.release p tag domain) s = .next (s.respond p 0x02 tag ⟨.badValue, []⟩)) ∧
    ∀ d : Domain, domain.toNat = d.number →
      ((s.mc.claims.get d).holder = some p →
        exec (.release p tag domain) s =
          .next (((s.setMc { s.mc with claims := s.mc.claims.set d ⟨none, 0⟩ }).emit
            [.holderChanged d]).settle.respond p 0x02 tag ⟨.ok, []⟩)) ∧
      ((s.mc.claims.get d).holder ≠ some p →
        exec (.release p tag domain) s = .next (s.respond p 0x02 tag ⟨.notHolder, []⟩))) ∧
  ∀ (d : Domain) (s : State) (before : List Offer), s.offers = [] →
    (before = [] ∨ ∃ h k n v, before = [.postTo h k n v]) →
    Kept s (s.emit (before ++ [.holderChanged d])).settle ∧
    (d = .travel →
      (s.emit (before ++ [.holderChanged d])).settle.governor.request = 0 ∧
        (s.emit (before ++ [.holderChanged d])).settle.governor.leaseExpiry = none) ∧
    (d = .implements →
      (s.emit (before ++ [.holderChanged d])).settle.sequencer.left.command = .auto ∧
        (s.emit (before ++ [.holderChanged d])).settle.sequencer.right.command = .auto ∧
        (s.emit (before ++ [.holderChanged d])).settle.sequencer.main.command = .auto) ∧
    (d = .water →
      (s.emit (before ++ [.holderChanged d])).settle.water.enable = true ∧
        (s.emit (before ++ [.holderChanged d])).settle.water.exclusion = 0)

/-- LOCK sets its lock, in every mode, leaves the other as it is, and is answered with the lock byte; any other kind
of lock gets BAD_VALUE, and any other class than SERVICE NOT_PERMITTED; the soft lock is cleared by nothing but
UNLOCK, its frame and power-on, the hard lock by nothing but power-on. -/
def Obligations.LockSetsItsLock : Prop :=
  (∀ (p : Port) (tag : Byte) (s : State), s.hears p .lock →
    exec (.lockSoft p tag) s =
      .next ((s.setMc { s.mc with softLock := true }).respond p 0x16 tag
        ⟨.ok, [if s.mc.hardLock then 3 else 1]⟩) ∧
    exec (.lockHard p tag) s =
      .next ((s.setMc { s.mc with hardLock := true }).respond p 0x16 tag
        ⟨.ok, [if s.mc.softLock then 3 else 2]⟩) ∧
    ∀ kind : Byte, 2 ≤ kind.toNat → (s.port p).state = .healthy →
      (s.port p).receiver = ⟨.receiving, frame 0x16 tag [kind], 6, false⟩ →
      exec (.frameEnd p) s =
        .next ((s.setPort p
          { s.port p with receiver := ⟨.ready, [], 0, false⟩, errorCount := (s.port p).errorCount - 1 }).respond
            p 0x16 tag ⟨.badValue, []⟩)) ∧
  (∀ (p : Port) (tag : Byte) (s : State), (s.port p).state ≠ .cutOff → (s.port p).slot = none →
    (s.port p).authority ≠ .service →
    ∀ c ∈ [Instr.lockSoft p tag, .lockHard p tag], exec c s = .next (s.respond p 0x16 tag ⟨.notPermitted, []⟩)) ∧
  ∀ (c : Instr) (s t : State), exec c s = .next t → c.isPowerOn = false →
    (s.mc.hardLock = true → t.mc.hardLock = true) ∧
    (s.mc.softLock = true → (∀ p tag, c ≠ .unlock p tag) →
      (∀ p, c = .frameEnd p → (s.port p).receiver.bytes.head? ≠ some 0x17) → t.mc.softLock = true)

/-- UNLOCK gets NOT_PERMITTED from any class but SERVICE, LOCKED while the hard lock is set, WRONG_MODE outside the
mode SERVICE, and otherwise clears the soft lock and answers OK with the lock byte 0; nothing else changes. -/
def Obligations.UnlockClearsTheSoftLock : Prop :=
  (∀ (p : Port) (tag : Byte) (s : State), (s.port p).state ≠ .cutOff → (s.port p).slot = none →
    (s.port p).authority ≠ .service → exec (.unlock p tag) s = .next (s.respond p 0x17 tag ⟨.notPermitted, []⟩)) ∧
  ∀ (p : Port) (tag : Byte) (s : State), s.hears p .unlock →
    (s.mc.hardLock = true → exec (.unlock p tag) s = .next (s.respond p 0x17 tag ⟨.locked, []⟩)) ∧
    (s.mc.hardLock = false → s.mc.mode ≠ .service →
      exec (.unlock p tag) s = .next (s.respond p 0x17 tag ⟨.wrongMode, []⟩)) ∧
    (s.mc.hardLock = false → s.mc.mode = .service →
      exec (.unlock p tag) s =
        .next ((s.setMc { s.mc with softLock := false }).respond p 0x17 tag ⟨.ok, [0]⟩))

/-- ESTOP. The active line in RELEASED asserts and, outside HALTED, enters HALTED with cause ESTOP, which it posts,
claims, limits, locks, clock and configuration staying as they are; in HALTED, or when already asserted, the mode is
unchanged. The inactive line begins the 20 ms, whose end releases and changes no mode; a release whose 20 ms do not run
or are not over changes nothing (the model's choice, log 3; what counts as over, log 8). -/
def Obligations.EmergencyStopHalts : Prop :=
  ∀ s : State, s.offers = [] →
    (s.mc.estopAsserted = false → s.mc.mode ≠ .halted →
      ∃ t : State, exec .estopAssertion s = .next t ∧ t.mc.mode = .halted ∧ t.mc.lastCause = .estop ∧
        t.mc.lastChange = s.mc.time ∧ t.mc.estopAsserted = true ∧ t.mc.estopLine = true ∧ t.mc.estopTimer = none ∧
        t.drivesNothing ∧ t.configuration = s.configuration ∧ t.mc.claims = s.mc.claims ∧
        t.mc.softLock = s.mc.softLock ∧ t.mc.hardLock = s.mc.hardLock ∧ t.mc.time = s.mc.time ∧
        ∃ out, .post .modeChanged 3 0 ∈ out ∧
          t =
            ((s.setMc
              { s.mc with
                estopAsserted := true, estopLine := true, estopTimer := none, mode := .halted,
                lastChange := s.mc.time, lastCause := .estop }).emit out).settle) ∧
    (s.mc.estopAsserted = true ∨ s.mc.mode = .halted →
      exec .estopAssertion s =
        .next (s.setMc { s.mc with estopAsserted := true, estopLine := true, estopTimer := none })) ∧
    (s.mc.estopAsserted = true → s.mc.estopLine = true →
      exec .estopLineInactive s =
        .next (s.setMc { s.mc with estopLine := false, estopTimer := some (s.mc.time + 20) })) ∧
    (s.mc.estopAsserted = false ∨ s.mc.estopLine = false →
      exec .estopLineInactive s = .next (s.setMc { s.mc with estopLine := false })) ∧
    (∀ e, s.mc.estopAsserted = true → s.mc.estopLine = false → s.mc.estopTimer = some e →
      reached s.mc.time e = true →
      exec .estopRelease s = .next (s.setMc { s.mc with estopAsserted := false, estopTimer := none })) ∧
    ((s.mc.estopLine = true ∨ s.mc.estopTimer = none ∨
        ∃ e, s.mc.estopTimer = some e ∧ reached s.mc.time e = false) →
      exec .estopRelease s = .next s)

/-- MODE(HALT) outside HALTED enters HALTED with cause MODE at the time counter, posting it: every coil is 0 and no
chain position is wanted, the request is 0 and the governor in STANDSTILL, scanning stops, the budget's demands are 0
and the water is OFF; claims, clock, locks and configuration stay. In HALTED it changes nothing. Both answer OK with the
byte 0. -/
def Obligations.ModeHaltStopsTheMachine : Prop :=
  ∀ (p : Port) (tag : Byte) (s : State), s.hears p .mode → (s.port p).authority = .operator →
    (s.mc.mode = .halted → exec (.modeHalt p tag) s = .next (s.respond p 0x04 tag ⟨.ok, [0]⟩)) ∧
    (s.mc.mode ≠ .halted → s.offers = [] →
      ∃ t : State, exec (.modeHalt p tag) s = .next (t.respond p 0x04 tag ⟨.ok, [0]⟩) ∧ Kept s t ∧
        t.mc.mode = .halted ∧ t.mc.lastCause = .mode ∧ t.mc.lastChange = s.mc.time ∧ t.drivesNothing ∧
        t.governor.request = 0 ∧ t.governor.command = 0 ∧ t.governor.state = .standstill ∧
        t.governor.leaseExpiry = none ∧ t.governor.cutLevel = 0 ∧ t.governor.liftForReverse = false ∧
        t.governor.reverseBlocked = false ∧ t.governor.rampTimer = none ∧
        t.scanner.state = .stopped ∧ t.scanner.continuous = false ∧ t.scanner.live = [] ∧
        (∀ c, (t.budget.rows.get c).demand = 0) ∧ t.water.state = .off ∧
        (∀ x, (t.sequencer.arm x).motion = none ∧ (t.sequencer.arm x).timer = none) ∧
        t.sequencer.regTimer = none ∧
        ∃ out, .post .modeChanged 1 0 ∈ out ∧
          t =
            ((s.setMc { s.mc with mode := .halted, lastChange := s.mc.time, lastCause := .mode }).emit
              out).settle)

/-- MODE(SWEEP), MODE(TRANSPORT) and MODE(SERVICE): the refusals in the order of the rules, and the targets that
change nothing. A target not allowed to the class gets NOT_PERMITTED whatever the mode; a target above 3 gets
BAD_VALUE. MODE(SWEEP) of the TRAVEL holder at a command within the active profile's speed cap makes the mode
SWEEP; MODE(TRANSPORT) of the holder in SWEEP makes it STOWING, or TRANSPORT when the stow-completion test holds
at once; MODE(SERVICE) at STANDSTILL makes it SERVICE with every coil 0 and no chain position wanted. Cause and
time are recorded, MODE_CHANGED is posted at each entry, and claims, clock, locks and configuration stay. -/
def Obligations.ModeRequestsAreCheckedAndChangeTheMode : Prop :=
  (∀ (p : Port) (tag : Byte) (s : State), s.hears p .mode →
    ((s.port p).authority ≠ .operator →
      ∀ c ∈ [Instr.modeHalt p tag, .modeTransport p tag, .modeSweep p tag],
        exec c s = .next (s.respond p 0x04 tag ⟨.notPermitted, []⟩)) ∧
    ((s.port p).authority ≠ .service →
      exec (.modeService p tag) s = .next (s.respond p 0x04 tag ⟨.notPermitted, []⟩)) ∧
    ((s.port p).authority = .operator →
      (s.mc.mode = .halted ∨ s.mc.mode = .service →
        exec (.modeSweep p tag) s = .next (s.respond p 0x04 tag ⟨.wrongMode, []⟩) ∧
        exec (.modeTransport p tag) s = .next (s.respond p 0x04 tag ⟨.wrongMode, []⟩)) ∧
      (s.mc.mode = .sweep → exec (.modeSweep p tag) s = .next (s.respond p 0x04 tag ⟨.ok, [2]⟩)) ∧
      (s.mc.mode = .transport ∨ s.mc.mode = .stowing →
        exec (.modeTransport p tag) s = .next (s.respond p 0x04 tag ⟨.ok, [byte s.mc.mode.number]⟩)) ∧
      (s.mc.mode = .sweep → (s.mc.claims.get .travel).holder ≠ some p →
        exec (.modeTransport p tag) s = .next (s.respond p 0x04 tag ⟨.notHolder, []⟩)) ∧
      (s.mc.mode = .transport ∨ s.mc.mode = .stowing → (s.mc.claims.get .travel).holder ≠ some p →
        exec (.modeSweep p tag) s = .next (s.respond p 0x04 tag ⟨.notHolder, []⟩)) ∧
      (s.mc.mode = .transport ∨ s.mc.mode = .stowing → (s.mc.claims.get .travel).holder = some p →
        (s.selector.rows.get s.selector.active).speedCap < s.governor.command.natAbs →
        exec (.modeSweep p tag) s = .next (s.respond p 0x04 tag ⟨.notReady, []⟩))) ∧
    ((s.port p).authority = .service →
      (s.mc.mode = .halted ∨ s.mc.mode ≠ .service ∧ s.governor.state ≠ .standstill →
        exec (.modeService p tag) s = .next (s.respond p 0x04 tag ⟨.wrongMode, []⟩)) ∧
      (s.mc.mode = .service →
        exec (.modeService p tag) s = .next (s.respond p 0x04 tag ⟨.ok, [4]⟩))) ∧
    ∀ target : Byte, 4 ≤ target.toNat → (s.port p).state = .healthy →
      (s.port p).receiver = ⟨.receiving, frame 0x04 tag [target], 6, false⟩ →
      exec (.frameEnd p) s =
        .next ((s.setPort p
          { s.port p with receiver := ⟨.ready, [], 0, false⟩, errorCount := (s.port p).errorCount - 1 }).respond
            p 0x04 tag ⟨.badValue, []⟩)) ∧
  ∀ (p : Port) (tag : Byte) (s : State), s.hears p .mode → s.inStep →
    ((s.port p).authority = .operator → (s.mc.claims.get .travel).holder = some p →
      (s.mc.mode = .transport ∨ s.mc.mode = .stowing →
        s.governor.command.natAbs ≤ (s.selector.rows.get s.selector.active).speedCap →
        ∃ t : State, exec (.modeSweep p tag) s = .next (t.respond p 0x04 tag ⟨.ok, [2]⟩) ∧ Kept s t ∧
          t.mc.mode = .sweep ∧ t.mc.lastCause = .mode ∧ t.mc.lastChange = s.mc.time ∧
          ∃ out, .post .modeChanged 1 2 ∈ out ∧
            t =
              ((s.setMc { s.mc with mode := .sweep, lastChange := s.mc.time, lastCause := .mode }).emit out).settle) ∧
      (s.mc.mode = .sweep →
        ∃ t : State, exec (.modeTransport p tag) s = .next (t.respond p 0x04 tag ⟨.ok, [byte t.mc.mode.number]⟩) ∧
          Kept s t ∧
          t.mc.lastChange = s.mc.time ∧
          (t.mc.mode = .stowing ∧ t.mc.lastCause = .mode ∧
              ¬((t.mc.armL = .stowed ∨ t.mc.armL = .fault) ∧ (t.mc.armR = .stowed ∨ t.mc.armR = .fault) ∧
                (t.mc.main = .up ∨ t.mc.main = .fault)) ∨
            t.mc.mode = .transport ∧ t.mc.lastCause = .stowDone) ∧
          ∃ (u : State) (out : List Offer), .post .modeChanged 1 3 ∈ out ∧
            u =
              ((s.setMc { s.mc with mode := .stowing, lastChange := s.mc.time, lastCause := .mode }).emit out).settle ∧
            t = (u.withMc u.mc.stowTest).settle)) ∧
    ((s.port p).authority = .service → s.mc.mode ≠ .halted → s.mc.mode ≠ .service →
      s.governor.state = .standstill →
      ∃ t : State, exec (.modeService p tag) s = .next (t.respond p 0x04 tag ⟨.ok, [4]⟩) ∧ Kept s t ∧
        t.mc.mode = .service ∧ t.mc.lastCause = .mode ∧ t.mc.lastChange = s.mc.time ∧ t.drivesNothing ∧
        t.governor.ceiling = 0 ∧ (∀ c, (t.budget.rows.get c).demand = 0) ∧ t.water.state = .off ∧
        t.chain.requested = 0 ∧ t.scanner = s.scanner ∧
        ∃ out, .post .modeChanged 1 4 ∈ out ∧
          t =
            ((s.setMc { s.mc with mode := .service, lastChange := s.mc.time, lastCause := .mode }).emit
              out).settle)

/-- What the window monitor's HALT output and the implement sequencer's states make of the mode: HALT becoming active
outside HALTED enters HALTED with cause HALT_TRIP; in STOWING, arms STOWED or FAULT and main broom UP or FAULT enter
TRANSPORT with cause STOW_DONE; both are posted; otherwise the mode stays, and nothing is posted. The copies are
replaced in every mode. -/
def Obligations.HaltTripAndStowCompletion : Prop :=
  ∀ (s : State) (active : Bool) (l r : ArmState) (m : BroomState),
    (deliver (.haltOutput active) s).mc.haltTrip = active ∧
    (active = true → s.mc.mode ≠ .halted →
      (deliver (.haltOutput active) s).mc =
        { s.mc with haltTrip := true, mode := .halted, lastChange := s.mc.time, lastCause := .haltTrip } ∧
        .post .modeChanged 4 0 ∈ (deliver (.haltOutput active) s).offers) ∧
    (active = false ∨ s.mc.mode = .halted →
      deliver (.haltOutput active) s = s.setMc { s.mc with haltTrip := active }) ∧
    (s.mc.mode = .stowing → (l = .stowed ∨ l = .fault) → (r = .stowed ∨ r = .fault) → (m = .up ∨ m = .fault) →
      (deliver (.modeImplements l r m) s).mc =
        { s.mc with
          armL := l, armR := r, main := m, mode := .transport, lastChange := s.mc.time, lastCause := .stowDone } ∧
        .post .modeChanged 5 1 ∈ (deliver (.modeImplements l r m) s).offers) ∧
    (s.mc.mode ≠ .stowing ∨ (l ≠ .stowed ∧ l ≠ .fault) ∨ (r ≠ .stowed ∧ r ≠ .fault) ∨ (m ≠ .up ∧ m ≠ .fault) →
      deliver (.modeImplements l r m) s = s.setMc { s.mc with armL := l, armR := r, main := m })

/-- START in a working mode gets WRONG_MODE; with a prerequisite missing it gets NOT_READY with the set of those that
fail; otherwise the mode is TRANSPORT with cause START, which is posted: scanning is continuous, the path counter
and the sprayed path are 0, the change queue is empty, zone and active profile are 0 (PROFILE_APPLIED with cause
3), the ramp steps run, the water is OFF and nothing is pumped. Claims, clock, locks and configuration stay. The
sequencer takes START so: attempts are 0 and fault causes absent; an arm whose LIFT position is failed is in FAULT,
with ARM_FAULT; one at or below the stow threshold is STOWED; any other is RAISING for 600 ms, an open motion, which no
run has here, kept; the main broom is in FAULT if LIFT_M is failed, without a notice (the model's choice, log 20), stays
UP, and is otherwise LIFTING for 800 ms. Every LIFT value and state is offered, changed or not. -/
def Obligations.StartBringsTransport : Prop :=
  (∀ (p : Port) (tag : Byte) (s : State), s.hears p .start →
    (s.mc.mode.working = true → exec (.start p tag) s = .next (s.respond p 0x05 tag ⟨.wrongMode, []⟩)) ∧
    (s.mc.mode.working = false → ¬ s.mayStart →
      ∃ n, exec (.start p tag) s = .next (s.respond p 0x05 tag ⟨.notReady, [n]⟩) ∧
        n.getLsbD 0 = s.mc.estopAsserted ∧ n.getLsbD 1 = s.mc.haltTrip ∧
        (n.getLsbD 2 = false ↔
          ∀ r ∈ ([.drivePress, .grade, .armPosL, .armPosR, .armPressL, .armPressR, .tankLevel] : List Role),
            s.roleAssigned r) ∧
        n.getLsbD 3 = !(s.selector.rows.get 0).valid ∧
        (n.getLsbD 4 = false ↔ 100 ≤ s.governor.map.fullSpeed ∧ 1 ≤ s.governor.map.full ∧
          s.governor.map.start ≤ s.governor.map.full) ∧
        n.toNat < 32) ∧
    (s.mc.mode.working = false → s.mayStart → s.offers = [] →
      ∃ t : State, exec (.start p tag) s = .next (t.respond p 0x05 tag ⟨.ok, [1]⟩) ∧ Kept s t ∧
        t.mc.mode = .transport ∧ t.mc.lastCause = .start ∧ t.mc.lastChange = s.mc.time ∧
        t.scanner.continuous = true ∧ t.pulse.path = 0 ∧ t.pulse.remainder = 0 ∧ t.selector.queue = [] ∧
        t.selector.zoneProfile = 0 ∧ t.selector.active = 0 ∧ t.selector.pinned = false ∧
        t.selector.lastCode = none ∧ t.governor.rampTimer = some (s.mc.time + 10) ∧
        t.sequencer.regTimer = some (s.mc.time + 20) ∧ t.water.state = .off ∧ t.water.sprayed = 0 ∧
        t.water.pump = 0 ∧ t.chain.mode = .transport ∧
        ∃ (u : State) (out : List Offer), .post .modeChanged 0 1 ∈ out ∧ .sequencerStart ∈ out ∧ .selectorStart ∈ out ∧
          u =
            ((s.setMc { s.mc with mode := .transport, lastChange := s.mc.time, lastCause := .start }).emit
              out).settle ∧
          t = (u.setChain (u.chain.takeMode .transport)).settle)) ∧
  (∀ s : State, .post .profileApplied 0 3 ∈ (deliver .selectorStart s).offers) ∧
  ∀ s : State, ∃ (q : Sequencer) (out : List Offer), deliver .sequencerStart s = (s.setSequencer q).emit out ∧
    q.mode = .transport ∧ q.regTimer = some (s.mc.time + 20) ∧
    (∀ x, (q.arm x).attempts = 0 ∧ (q.arm x).command = (s.sequencer.arm x).command ∧
      ((s.sequencer.arm x).liftFailed = true →
        (q.arm x).entered .fault none none ∧ (q.arm x).fault = some .liftFailed ∧
          .post .armFault (sideNumber x) 1 ∈ out) ∧
      ((s.sequencer.arm x).liftFailed = false → (q.arm x).fault = none ∧
        (q.arm x).outcomes = (s.sequencer.arm x).outcomes ∧
        ((∃ v, (s.sequencer.arm x).position = some v ∧ v ≤ 50) →
          (q.arm x).entered .stowed none (s.sequencer.arm x).motion) ∧
        ((∀ v, (s.sequencer.arm x).position = some v → 50 < v) →
          (q.arm x).entered .raising (some (s.mc.time + 600)) (s.sequencer.arm x).motion))) ∧
    (s.sequencer.main.liftFailed = true → q.main.state = .fault ∧ q.main.fault = some .liftFailed ∧
      q.main.timer = none ∧ q.main.lift = false) ∧
    (s.sequencer.main.liftFailed = false → q.main.fault = none ∧ q.main.lift = false ∧
      (s.sequencer.main.state = .up → q.main.state = .up ∧ q.main.timer = none) ∧
      (s.sequencer.main.state ≠ .up → q.main.state = .lifting ∧ q.main.timer = some (s.mc.time + 800))) ∧
    .chainLifts q.left.lift q.right.lift q.main.lift ∈ out ∧ .governorImplements q.report ∈ out ∧
    .waterImplements q.left.state q.right.state q.main.state ∈ out ∧
    .modeImplements q.left.state q.right.state q.main.state ∈ out

/-- RESTART is accepted in every mode: it withdraws every claim, with CLAIM_LOST to its holder, enters HALTED with cause
RESTART, which it posts, keeps clock, locks, emergency stop, ports' link records and every configuration record, and
answers OK. Once every offer has been taken it has cleared what each block's chapter names: the scanner's pass, hold
and published set; the latches and trip outputs; speeds, slip, counts and path, with the timers set afresh and ground
present; queue and pin; the budget rows but for their offered demands, which may have been offered afresh by then; the
governor; commands, attempts, faults, outcomes and motions of the arms and the main broom, of which none stays in
FAULT; the water state, sprayed path and request; and the failed positions with their counts. The path copy of the
selector is 0 by the model's choice (log 11). What the blocks post at it: SENSOR_STALE if the flag was clear,
GROUND_REGAINED at a lost ground, PROFILE_APPLIED with cause 5 at a pinned selector. The budget table clears every row
and offers the rows in which grant or state has changed. -/
def Obligations.RestartClearsTheMachine : Prop :=
  (∀ (p : Port) (tag : Byte) (s : State), s.hears p .restart → s.offers = [] →
    ∃ t : State, exec (.restart p tag) s = .next (t.respond p 0x06 tag ⟨.ok, []⟩) ∧
      t.configuration = s.configuration ∧ t.standing = { s.standing with claims := t.mc.claims } ∧
      (∀ d, t.mc.claims.get d = if (s.mc.claims.get d).holder = none then s.mc.claims.get d else ⟨none, 0⟩) ∧
      t.mc.mode = .halted ∧ t.mc.lastCause = .restart ∧ t.mc.lastChange = s.mc.time ∧
      (∃ (c : ModeController) (lost entered : List Offer) (a : State),
        a = ((s.setMc c).emit lost).settle ∧
        (∀ d h, (s.mc.claims.get d).holder = some h → .postTo h .claimLost d.number (-1) ∈ lost) ∧
        t =
          ((((a.setMc { a.mc with mode := .halted, lastChange := a.mc.time, lastCause := .restart }).emit
            entered).settle.emit
              [.scannerRestart, .monitorRestart, .pulseRestart, .selectorRestart, .budgetRestart, .sequencerRestart,
                .waterRestart, .chainRestart])).settle ∧
        .post .modeChanged 2 0 ∈ entered) ∧
      (t.offers = [] →
        t.drivesNothing ∧
        t.scanner =
          { s.scanner with
            continuous := false, periodTimer := none, live := [], state := .stopped, hold := none, published := [],
            scanNumber := 0, staleTimer := none, stale := true } ∧
        (∀ ch, t.monitor.assignments.get ch =
          if (s.monitor.assignments.get ch).latched then
            { s.monitor.assignments.get ch with latched := false, tripRaw := 0, tripTime := 0 }
          else s.monitor.assignments.get ch) ∧
        t.monitor.outputs = ⟨0, false, false, false, false⟩ ∧
        t.pulse =
          { s.pulse with
            path := 0, remainder := 0, motorSpeed := 0, groundSpeed := 0, slip := 0, direction := .none,
            forwardCount := 0, reverseCount := 0, groundCount := 0,
            windowTimer := s.mc.time + BitVec.ofNat 32 s.pulse.window, status := .present, source := .ground,
            regainRun := 0, lastEdge := s.mc.time,
            lossTimer := some (s.mc.time + BitVec.ofNat 32 s.pulse.lossTime) } ∧
        t.selector =
          { s.selector with
            queue := [], pinned := false, path := 0, advance := 0,
            active := if s.selector.pinned then s.selector.zoneProfile else s.selector.active } ∧
        (∀ c, (t.budget.rows.get c).demand = 0 ∧ (t.budget.rows.get c).grant = 0 ∧
          (t.budget.rows.get c).state = .full ∧ (t.budget.rows.get c).holdExpiry = none ∧
          (t.budget.rows.get c).holdTimer = false) ∧
        t.governor.request = 0 ∧ t.governor.leaseExpiry = none ∧ t.governor.state = .standstill ∧
        t.governor.target = 0 ∧ t.governor.command = 0 ∧ t.governor.ceiling = 0 ∧ t.governor.limiting = .mode ∧
        t.governor.liftForReverse = false ∧ t.governor.liftWait = none ∧ t.governor.reverseBlocked = false ∧
        t.governor.cutLevel = 0 ∧ t.governor.slipWindow = none ∧ t.governor.rampTimer = none ∧
        t.governor.demand = 0 ∧
        (∀ x, (t.sequencer.arm x).command = .auto ∧ (t.sequencer.arm x).attempts = 0 ∧
          (t.sequencer.arm x).afterFail = false ∧ (t.sequencer.arm x).fault = none ∧
          (t.sequencer.arm x).outcomes = [] ∧ (t.sequencer.arm x).state ≠ .fault ∧
          (t.sequencer.arm x).timer = none ∧ (t.sequencer.arm x).motion = none) ∧
        t.sequencer.main.command = .auto ∧ t.sequencer.main.fault = none ∧ t.sequencer.main.state ≠ .fault ∧
        t.sequencer.main.timer = none ∧ t.sequencer.regTimer = none ∧
        t.water.state = .off ∧ t.water.primeTimer = none ∧ t.water.sprayed = 0 ∧ t.water.wetUntil = 0 ∧
        t.water.wet = false ∧ t.water.enable = true ∧ t.water.exclusion = 0 ∧ t.water.nozzles = 0 ∧
        t.water.prime = false ∧ (s.water.copies.ground = .lost → t.water.autoCut = false) ∧
        t.chain.failed = 0 ∧ ∀ i, t.chain.counts.get i = 0)) ∧
  ∀ s : State,
    (s.scanner.stale = false →
      .post .sensorStale 0 (-1) ∈ (deliver .scannerRestart s).offers ∧
        .governorStale true ∈ (deliver .scannerRestart s).offers ∧
        .sequencerStale true ∈ (deliver .scannerRestart s).offers) ∧
    (s.pulse.status = .lost → .post .groundRegained 0 0 ∈ (deliver .pulseRestart s).offers) ∧
    (s.selector.pinned = true →
      .post .profileApplied s.selector.zoneProfile.val 5 ∈ (deliver .selectorRestart s).offers) ∧
    (s.selector.pinned = false → (deliver .selectorRestart s).offers = s.offers) ∧
    (∀ c, (deliver .budgetRestart s).budget.rows.get c =
      { s.budget.rows.get c with
        offered := 0, demand := 0, grant := 0, state := .full, holdExpiry := none, holdTimer := false,
        holdOver := false }) ∧
    (s.budget.rows.travel.grant ≠ 0 ∨ s.budget.rows.travel.state ≠ .full →
      .governorGrant ⟨0, .full⟩ ∈ (deliver .budgetRestart s).offers) ∧
    ((∃ c ∈ [Consumer.main, .armL, .armR], (s.budget.rows.get c).grant ≠ 0 ∨ (s.budget.rows.get c).state ≠ .full) →
      .sequencerGrants ⟨0, .full⟩ ⟨0, .full⟩ ⟨0, .full⟩ ∈ (deliver .budgetRestart s).offers) ∧
    (s.budget.rows.water.grant ≠ 0 ∨ s.budget.rows.water.state ≠ .full →
      .waterGrant ⟨0, .full⟩ ∈ (deliver .budgetRestart s).offers)

/-- OUTPUT is checked in the order of R37: target number, mode, target, value, failed position. An OUTPUT that passes
every check is answered OK without data. Of the seven
coils that OUTPUT reaches a coil target is driven at the value and the six others stay; a chain position is asked
for the value and stands in the wanted pattern at it, and the seven coils and the other positions stay. The drive
coils stay at a command of 0, the pump at 0 and, without nozzles asked for, the whole chain at a coil target, as in
every run in SERVICE; the claims, the clock and every configuration record stay as they are. -/
def Obligations.OutputIsCheckedAndDrivesItsTarget : Prop :=
  (∀ (p : Port) (tag target : Byte) (value : BitVec 16) (s : State), s.hears p .output →
    (26 ≤ target.toNat → exec (.output p tag target value) s = .next (s.respond p 0x12 tag ⟨.badValue, []⟩)) ∧
    (target.toNat ≤ 25 → s.mc.mode ≠ .service →
      exec (.output p tag target value) s = .next (s.respond p 0x12 tag ⟨.wrongMode, []⟩)) ∧
    (s.mc.mode = .service →
      (target.toNat ≤ 1 ∨ 9 ≤ target.toNat ∧ target.toNat ≤ 21 →
        exec (.output p tag target value) s = .next (s.respond p 0x12 tag ⟨.notPermitted, []⟩)) ∧
      ((target = 2 ∨ target = 3 ∨ target = 4 ∨ target = 7 ∨ target = 8) ∧ (value.toInt < 0 ∨ 1000 < value.toInt) ∨
          (target = 5 ∨ target = 6) ∧ (value.toInt < -1000 ∨ 1000 < value.toInt) ∨
          (target = 22 ∨ target = 23 ∨ target = 24 ∨ target = 25) ∧ value ≠ 0 ∧ value ≠ 1 →
        exec (.output p tag target value) s = .next (s.respond p 0x12 tag ⟨.badValue, []⟩)) ∧
      (∀ k, k < 4 → target.toNat = 22 + k → value = 0 ∨ value = 1 → s.chain.failed.getLsbD (12 + k) = true →
        exec (.output p tag target value) s = .next (s.respond p 0x12 tag ⟨.notReady, []⟩)))) ∧
  ∀ (p : Port) (tag n : Byte) (value : BitVec 16) (s : State), s.hears p .output → s.inStep → s.mc.mode = .service →
    ((n = 2 ∨ n = 3 ∨ n = 4 ∨ n = 7 ∨ n = 8) ∧ 0 ≤ value.toInt ∧ value.toInt ≤ 1000 ∨
        (n = 5 ∨ n = 6) ∧ -1000 ≤ value.toInt ∧ value.toInt ≤ 1000 →
      ∃ t : State, exec (.output p tag n value) s = .next (t.respond p 0x12 tag ⟨.ok, []⟩) ∧ Kept s t ∧
        t.implementCoils = s.implementCoils.set (n.toNat - 2) value.toInt ∧
        (s.governor.command = 0 →
          t.governor.driveFwd = s.governor.driveFwd ∧ t.governor.driveRev = s.governor.driveRev) ∧
        (s.water.pump = 0 → t.water.pump = 0) ∧ (s.water.nozzles = 0 → t.chain = s.chain)) ∧
    (∀ k, k < 4 → n.toNat = 22 + k → value = 0 ∨ value = 1 → s.chain.failed.getLsbD (12 + k) = false →
      ∃ t : State, exec (.output p tag n value) s = .next (t.respond p 0x12 tag ⟨.ok, []⟩) ∧ Kept s t ∧
        t.implementCoils = s.implementCoils ∧
        (s.governor.command = 0 →
          t.governor.driveFwd = s.governor.driveFwd ∧ t.governor.driveRev = s.governor.driveRev) ∧
        (s.water.pump = 0 → t.water.pump = 0) ∧
        (s.chain.wanted = s.chain.requested &&& ~~~s.chain.failed →
          s.chain.requested = liftPattern s.sequencer.left.lift s.sequencer.right.lift s.sequencer.main.lift |||
            waterPattern 0 s.water.prime →
          s.water.nozzles = 0 →
          ∀ i, i < 16 → t.chain.wanted.getLsbD i = if i = 12 + k then value == 1 else s.chain.wanted.getLsbD i))

/-- A WRITE of LIMITS whose record and index pass: LOCKED outside SERVICE or under either lock; BAD_VALUE when a valid
profile row's speed cap is above the new forward cap; otherwise the six limits are replaced whole, both locks and
the rest of the configuration stay, and the travel governor and the implement sequencer have the new limits. A
WRITE of COEFFICIENTS in HALTED or SERVICE replaces the eight writable fields, which reach the three consumer
blocks; while the source is FALLBACK the reserve is the new fallback reserve and the ceiling follows. Elsewhere it
gets WRONG_MODE. -/
def Obligations.WriteLimitsAndCoefficientsReplaceThem : Prop :=
  (∀ (p : Port) (tag : Byte) (record : List Byte) (l : Limits) (s : State), s.hears p .write →
    (s.port p).authority = .service → s.offers = [] → record.length = 14 → parseLimits record = some l →
    (s.mc.mode ≠ .service ∨ s.mc.softLock = true ∨ s.mc.hardLock = true →
      exec (.writeLimits p tag 0 record) s = .next (s.respond p 0x14 tag ⟨.locked, []⟩)) ∧
    (s.mc.mode = .service → s.mc.softLock = false → s.mc.hardLock = false →
      ((∃ i, (s.selector.rows.get i).valid = true ∧ l.fwdCap < (s.selector.rows.get i).speedCap) →
        exec (.writeLimits p tag 0 record) s = .next (s.respond p 0x14 tag ⟨.badValue, []⟩)) ∧
      ((∀ i, (s.selector.rows.get i).valid = true → (s.selector.rows.get i).speedCap ≤ l.fwdCap) →
        ∃ t : State, exec (.writeLimits p tag 0 record) s = .next (t.respond p 0x14 tag ⟨.ok, []⟩) ∧
          t.standing = s.standing ∧ t.configuration = { s.configuration with limits := l } ∧
          t.governor.copies.fwdCap = l.fwdCap ∧ t.governor.copies.revCap = l.revCap ∧
          t.governor.copies.transportCap = l.transportCap ∧ t.sequencer.armPressMax = l.armPressMax ∧
          t.sequencer.mainRpmMax = l.mainRpmMax ∧ t.sequencer.sideRpmMax = l.sideRpmMax))) ∧
  ∀ (p : Port) (tag : Byte) (record : List Byte) (k : Coefficients) (s : State), s.hears p .write →
    ((s.port p).authority = .operator ∨ (s.port p).authority = .service) → s.offers = [] → record.length = 28 →
    parseCoefficients record = some k →
    (s.mc.mode.configurable = false →
      exec (.writeCoefficients p tag 0 record) s = .next (s.respond p 0x14 tag ⟨.wrongMode, []⟩)) ∧
    (s.mc.mode.configurable = true →
      ∃ t : State, exec (.writeCoefficients p tag 0 record) s = .next (t.respond p 0x14 tag ⟨.ok, []⟩) ∧
        t.configuration = { s.configuration with coefficients := k } ∧
        t.standing =
          { s.standing with reserve := if s.budget.source = .fallback then k.fallback else s.budget.reserve } ∧
        (s.budget.source = .fallback → t.budget.ceiling = k.fallback - s.budget.derate) ∧
        (s.budget.source = .reported → t.budget.ceiling = s.budget.ceiling) ∧
        t.governor.copies.ct = k.ct ∧ t.governor.copies.cg = k.cg ∧ t.sequencer.cm = k.cm ∧ t.sequencer.cb = k.cb ∧
        t.water.copies.cw = k.cw)

/-! ### Measurement scanner and window monitor (03, 04) -/

/-- CONVERSION_COMPLETE outside CONVERTING changes nothing. In CONVERTING the raw result is evaluated against the
channel's window: a clear latch whose condition holds is set with the raw result and the time, WINDOW_TRIP is posted
with channel and raw result, no other assignment and no window changes, and the outputs are what the records give. With
no such trip, before the last entry the result joins the live set and nothing else changes. The last conversion of a
pass without a trip: under a hold the set is kept and the scanner is PAUSED, posting SCAN_PAUSED with the holder's port
and the next scan number; without one the live set is published with the next scan number at the present time, the stale
flag is clear, with SENSOR_FRESH if it was set, and its timer runs to 1 ms past the stale limit, the scanner waits, or
stops unless scanning is continuous, and the travel governor, the implement sequencer and the water controller have the
new values. With a trip the same becomes of the scanner, at a last conversion and before it, unless the trip makes the
HALT output active outside HALTED: then the pass is abandoned and scanning stops. -/
def Obligations.ConversionIsEvaluatedAndEndsThePass : Prop :=
  (∀ (raw : BitVec 12) (s : State), s.offers = [] →
    (s.scanner.state ≠ .converting → exec (.conversionComplete raw) s = .next s) ∧
    ∀ e, s.scanner.state = .converting → s.scanner.scanList[s.scanner.live.length]? = some e →
      (∃ (m : Monitor) (out : List Offer),
        exec (.conversionComplete raw) s =
          .next ((((s.setScanner { s.scanner with live := s.scanner.live ++ [⟨e.channel, raw.toNat⟩] }).setMonitor
            m).emit out).settle).endPass ∧
        (s.monitor.trips e.channel raw.toNat → .post .windowTrip e.channel.val raw.toNat ∈ out) ∧
        (¬ s.monitor.trips e.channel raw.toNat → m = s.monitor ∧ out = [])) ∧
      (s.monitor.trips e.channel raw.toNat →
        ∃ t : State, exec (.conversionComplete raw) s = .next t ∧ Kept s t ∧
          t.monitor.assignments.get e.channel =
            { s.monitor.assignments.get e.channel with latched := true, tripRaw := raw.toNat, tripTime := s.mc.time } ∧
          (∀ ch, ch ≠ e.channel → t.monitor.assignments.get ch = s.monitor.assignments.get ch) ∧
          t.monitor.outputs = t.monitor.derive ∧
          (t.monitor.outputs.halt = true → s.monitor.outputs.halt = false → s.mc.mode ≠ .halted →
            t.scanner = { s.scanner with continuous := false, periodTimer := none, live := [], state := .stopped }) ∧
          (s.scanner.live.length + 1 < s.scanner.scanList.length →
            t.monitor.outputs.halt = false ∨ s.monitor.outputs.halt = true ∨ s.mc.mode = .halted →
            t.scanner = { s.scanner with live := s.scanner.live ++ [⟨e.channel, raw.toNat⟩] })) ∧
      (¬ s.monitor.trips e.channel raw.toNat → s.scanner.live.length + 1 < s.scanner.scanList.length →
        exec (.conversionComplete raw) s =
          .next (s.setScanner { s.scanner with live := s.scanner.live ++ [⟨e.channel, raw.toNat⟩] }))) ∧
  (∀ s : State, s.scanner.state = .converting → s.scanner.live.length = s.scanner.scanList.length →
    (∀ h, s.scanner.hold = some h →
      s.endPass =
        ((s.setScanner { s.scanner with passEnd := s.mc.time, state := .paused }).emit
          [.post .scanPaused (portNumber h.holder) (s.scanner.scanNumber + 1).toNat]).settle) ∧
    (s.scanner.hold = none → ∃ (c : Scanner) (out : List Offer), s.endPass = ((s.setScanner c).emit out).settle ∧
      c.published = s.scanner.live ∧ c.scanNumber = s.scanner.scanNumber + 1 ∧
      (s.scanner.stale = true → .post .sensorFresh 0 (s.scanner.scanNumber + 1).toNat ∈ out) ∧
      (s.scanner.stale = false → ∀ n v, .post .sensorFresh n v ∉ out))) ∧
  ∀ (raw : BitVec 12) (s : State) (e : ScanEntry), s.offers = [] → s.scanner.state = .converting →
    s.scanner.scanList[s.scanner.live.length]? = some e → s.scanner.live.length + 1 = s.scanner.scanList.length →
    s.scanner.staleLimit ≤ 500 →
    ∃ t : State, exec (.conversionComplete raw) s = .next t ∧ Kept s t ∧
      (¬ s.monitor.trips e.channel raw.toNat ∨ t.monitor.outputs.halt = false ∨ s.monitor.outputs.halt = true ∨
          s.mc.mode = .halted →
        (∀ h, s.scanner.hold = some h → t.scanner = s.scanner.passKept ⟨e.channel, raw.toNat⟩ s.mc.time) ∧
        (s.scanner.hold = none → t.scanner = s.scanner.passPublished ⟨e.channel, raw.toNat⟩ s.mc.time)) ∧
      (¬ s.monitor.trips e.channel raw.toNat → s.scanner.hold = none →
        t.governor.copies.grade = t.scanner.roleValue .grade ∧
        t.sequencer.left.position = t.scanner.roleValue .armPosL ∧
        t.sequencer.right.position = t.scanner.roleValue .armPosR ∧
        t.sequencer.left.pressure = t.scanner.roleValue .armPressL ∧
        t.sequencer.right.pressure = t.scanner.roleValue .armPressR ∧
        t.water.copies.tankLevel = t.scanner.roleValue .tankLevel ∧
        (s.scanner.stale = true → t.governor.copies.stale = false ∧ t.sequencer.stale = false))

/-- A role's engineering value: (raw − offset) × scale / 1000, truncated toward zero and clamped into the role's
range; none for a role without a channel, a channel outside the scan list or a channel with no published result. The
ranges are those of the role table. -/
def Obligations.RoleValueIsCalibrated : Prop :=
  (∀ r : Role, r.range =
    match r with
    | .drivePress | .broomPressM => (0, 60000)
    | .swashAngle | .grade => (-1000, 1000)
    | .armPosL | .armPosR | .tankLevel | .engineLoadAux => (0, 1000)
    | .armPressL | .armPressR => (0, 25000)
    | .waterPress => (0, 5000)
    | .oilTemp => (-400, 1500)) ∧
  ∀ (c : Scanner) (r : Role),
    ((c.roleMap.get r.index).channel = none → c.roleValue r = none) ∧
    ∀ ch, (c.roleMap.get r.index).channel = some ch →
      ((∀ e ∈ c.scanList, e.channel ≠ ch) → c.roleValue r = none) ∧
      ((∀ x ∈ c.published, x.channel ≠ ch) → c.roleValue r = none) ∧
      ∀ before after x, (∃ e ∈ c.scanList, e.channel = ch) → c.published = before ++ x :: after →
        (∀ y ∈ before, y.channel ≠ ch) → x.channel = ch →
        c.roleValue r =
          some (max r.range.1 (min r.range.2
            (Int.tdiv (((x.raw : Int) - (c.roleMap.get r.index).offset) * (c.roleMap.get r.index).scale) 1000)))

/-- SCAN_PERIOD_EXPIRY begins a pass from WAITING, and in every state the period goes on from its expiry.
STALE_TIMER_EXPIRY sets the stale flag, which the travel governor and the implement sequencer learn of if it was
clear, and posts SENSOR_STALE with the scan number, or −1 when the set is empty. HOLD_LEASE_EXPIRY ends the hold, and
publishes a kept set as at the end of its pass, with SENSOR_FRESH if the flag was set. An expiry whose timer
does not run or has not been reached changes nothing (log 3). -/
def Obligations.ScannerTimersExpire : Prop :=
  ∀ (s : State) (e : Time), s.offers = [] →
    (s.scanner.periodTimer = none ∨ s.scanner.periodTimer = some e ∧ reached s.mc.time e = false →
      exec .scanPeriodExpiry s = .next s) ∧
    (s.scanner.periodTimer = some e → reached s.mc.time e = true →
      exec .scanPeriodExpiry s =
        .next (s.setScanner
          (if s.scanner.state = .waiting then
            { s.scanner with
              periodTimer := some (e + BitVec.ofNat 32 s.scanner.period), live := [], state := .converting }
          else { s.scanner with periodTimer := some (e + BitVec.ofNat 32 s.scanner.period) }))) ∧
    (s.scanner.staleTimer = none ∨ s.scanner.staleTimer = some e ∧ reached s.mc.time e = false →
      exec .staleTimerExpiry s = .next s) ∧
    (s.scanner.staleTimer = some e → reached s.mc.time e = true →
      ∃ t : State, exec .staleTimerExpiry s = .next t ∧ Kept s t ∧
        t.scanner = { s.scanner with stale := true, staleTimer := none } ∧
        (s.scanner.stale = false → t.governor.copies.stale = true ∧ t.sequencer.stale = true) ∧
        ∃ out, t = ((s.setScanner { s.scanner with stale := true, staleTimer := none }).emit out).settle ∧
          .post .sensorStale 0 (if s.scanner.published = [] then -1 else (s.scanner.scanNumber.toNat : Int)) ∈ out) ∧
    (s.scanner.hold = none → exec .holdLeaseExpiry s = .next s) ∧
    ∀ h, s.scanner.hold = some h →
      (reached s.mc.time h.expiry = false → exec .holdLeaseExpiry s = .next s) ∧
      (reached s.mc.time h.expiry = true → s.scanner.state ≠ .paused →
        exec .holdLeaseExpiry s = .next (s.setScanner { s.scanner with hold := none })) ∧
      (reached s.mc.time h.expiry = true → s.scanner.state = .paused →
        ∃ t : State, exec .holdLeaseExpiry s = .next t ∧ Kept s t ∧ t.scanner.hold = none ∧
          t.scanner.published = s.scanner.live ∧ t.scanner.scanNumber = s.scanner.scanNumber + 1 ∧
          t.scanner.publishTime = s.scanner.passEnd ∧ t.scanner.stale = false ∧
          t.scanner.state = (if s.scanner.continuous then .waiting else .stopped) ∧
          ∃ (c : Scanner) (out : List Offer), t = ((s.setScanner c).emit out).settle ∧
            (s.scanner.stale = true → .post .sensorFresh 0 (s.scanner.scanNumber + 1).toNat ∈ out))

/-- HOLD_SET takes or renews the hold for 20 ms or 5..100 ms and answers with scan number and lease; another holder's
hold gets HELD_BY_OTHER with its port; any other lease gets BAD_VALUE. RELEASE_SET of the holder ends the hold,
publishing a kept set, with SENSOR_FRESH if the stale flag was set, and answers with the scan number; from any other
station it gets NOT_HOLDER. -/
def Obligations.HoldIsTakenAndReleased : Prop :=
  ∀ (p : Port) (tag lease : Byte) (s : State), s.offers = [] →
    (s.hears p .holdSet →
      (1 ≤ lease.toNat ∧ lease.toNat ≤ 4 ∨ 101 ≤ lease.toNat →
        exec (.holdSet p tag lease) s = .next (s.respond p 0x0E tag ⟨.badValue, []⟩)) ∧
      ∀ ms, (lease = 0 ∧ ms = 20 ∨ 5 ≤ lease.toNat ∧ lease.toNat ≤ 100 ∧ ms = lease.toNat) →
        (s.scanner.hold = none ∨ (∃ h, s.scanner.hold = some h ∧ h.holder = p) →
          exec (.holdSet p tag lease) s =
            .next ((s.setScanner { s.scanner with hold := some ⟨p, s.mc.time + BitVec.ofNat 32 ms⟩ }).respond p
              0x0E tag ⟨.ok, [s.scanner.scanNumber, byte ms]⟩)) ∧
        ∀ h, s.scanner.hold = some h → h.holder ≠ p →
          exec (.holdSet p tag lease) s =
            .next (s.respond p 0x0E tag ⟨.heldByOther, [byte (portNumber h.holder)]⟩)) ∧
    (s.hears p .releaseSet →
      (s.scanner.hold = none ∨ (∃ h, s.scanner.hold = some h ∧ h.holder ≠ p) →
        exec (.releaseSet p tag) s = .next (s.respond p 0x0F tag ⟨.notHolder, []⟩)) ∧
      ∀ h, s.scanner.hold = some h → h.holder = p →
        (s.scanner.state ≠ .paused →
          exec (.releaseSet p tag) s =
            .next ((s.setScanner { s.scanner with hold := none }).respond p 0x0F tag
              ⟨.ok, [s.scanner.scanNumber]⟩)) ∧
        (s.scanner.state = .paused →
          ∃ t : State, exec (.releaseSet p tag) s =
              .next (t.respond p 0x0F tag ⟨.ok, [s.scanner.scanNumber + 1]⟩) ∧ Kept s t ∧
            t.scanner.hold = none ∧ t.scanner.published = s.scanner.live ∧
            t.scanner.scanNumber = s.scanner.scanNumber + 1 ∧ t.scanner.publishTime = s.scanner.passEnd ∧
            t.scanner.stale = false ∧
            t.scanner.state = (if s.scanner.continuous then .waiting else .stopped) ∧
            ∃ (c : Scanner) (out : List Offer), t = ((s.setScanner c).emit out).settle ∧
              (s.scanner.stale = true → .post .sensorFresh 0 (s.scanner.scanNumber + 1).toNat ∈ out)))

/-- A WRITE of SCAN_LIST that passes its encoding: WRONG_MODE outside HALTED and SERVICE, BUSY while CONVERTING or
PAUSED or under a hold; then NONE cuts the list at its index, which must be an entry but the first, and a channel
replaces an entry or is appended, but for a channel that another entry has, or an index past the end, or a seventeenth
entry: BAD_VALUE. An accepted WRITE empties the published and the live set, sets the stale flag, with SENSOR_STALE if it
was clear, and answers with the number of entries. A WRITE of SCAN_CONTROL, and SINGLE, that passes its encoding:
WRONG_MODE outside HALTED and SERVICE, BUSY while CONVERTING or PAUSED; otherwise period and stale limit are replaced, a
new period restarts a running period timer, and SINGLE begins a pass; what the stale timer does is read from R62 and R63
(log 12): it runs to the new limit whatever the flag, or, when the published set is older, stops and the flag is set. -/
def Obligations.ScanListAndControlAreWritten : Prop :=
  (∀ (p : Port) (tag i : Byte) (record : List Byte) (w : ScanListWrite) (s : State), s.hears p .write →
    ((s.port p).authority = .operator ∨ (s.port p).authority = .service) → s.offers = [] → record.length = 2 →
    i.toNat < 16 → parseScanList record = some w →
    (s.mc.mode.configurable = false →
      exec (.writeScanList p tag i record) s = .next (s.respond p 0x14 tag ⟨.wrongMode, []⟩)) ∧
    (s.mc.mode.configurable = true →
      (s.scanner.state = .converting ∨ s.scanner.state = .paused ∨ s.scanner.hold.isSome = true →
        exec (.writeScanList p tag i record) s = .next (s.respond p 0x14 tag ⟨.busy, []⟩)) ∧
      (s.scanner.state = .stopped ∨ s.scanner.state = .waiting → s.scanner.hold = none →
        ((w.channel = none ∧ (i = 0 ∨ s.scanner.scanList.length ≤ i.toNat) ∨
            (∃ ch, w.channel = some ch ∧
              ((∃ j e, j ≠ i.toNat ∧ s.scanner.scanList[j]? = some e ∧ e.channel = ch) ∨
                s.scanner.scanList.length < i.toNat))) →
          exec (.writeScanList p tag i record) s = .next (s.respond p 0x14 tag ⟨.badValue, []⟩)) ∧
        ∀ l, (w.channel = none ∧ i ≠ 0 ∧ i.toNat < s.scanner.scanList.length ∧ l = s.scanner.scanList.take i.toNat ∨
            (∃ ch, w.channel = some ch ∧
              (∀ j e, j ≠ i.toNat → s.scanner.scanList[j]? = some e → e.channel ≠ ch) ∧
              (i.toNat < s.scanner.scanList.length ∧ l = s.scanner.scanList.set i.toNat ⟨ch, w.sample⟩ ∨
                i.toNat = s.scanner.scanList.length ∧ l = s.scanner.scanList ++ [⟨ch, w.sample⟩]))) →
          ∃ t : State, exec (.writeScanList p tag i record) s = .next (t.respond p 0x14 tag ⟨.ok, [byte l.length]⟩) ∧
            t.standing = s.standing ∧ t.configuration = { s.configuration with scanList := l } ∧
            t.scanner =
              { s.scanner with scanList := l, published := [], live := [], staleTimer := none, stale := true } ∧
            ∃ out, t = ((s.setScanner t.scanner).emit out).settle ∧
              (s.scanner.stale = false → .post .sensorStale 0 (-1) ∈ out)))) ∧
  ∀ (p : Port) (tag : Byte) (record : List Byte) (w : ScanControlWrite) (s : State) (c : Instr), s.hears p .write →
    ((s.port p).authority = .operator ∨ (s.port p).authority = .service) → s.offers = [] →
    (record.length = 18 ∧ parseScanControl record = some w ∧ c = .writeScanControl p tag 0 record ∨
      2 ≤ w.period ∧ w.period ≤ 100 ∧ 20 ≤ w.staleLimit ∧ w.staleLimit ≤ 500 ∧ w.single = true ∧
        c = .single p tag (byte w.period) (BitVec.ofNat 16 w.staleLimit)) →
    (s.mc.mode.configurable = false → exec c s = .next (s.respond p 0x14 tag ⟨.wrongMode, []⟩)) ∧
    (s.mc.mode.configurable = true → s.scanner.state = .converting ∨ s.scanner.state = .paused →
      exec c s = .next (s.respond p 0x14 tag ⟨.busy, []⟩)) ∧
    (s.mc.mode.configurable = true → s.scanner.state = .stopped ∨ s.scanner.state = .waiting →
      ∃ t : State, exec c s = .next (t.respond p 0x14 tag ⟨.ok, []⟩) ∧ t.standing = s.standing ∧
        t.configuration = { s.configuration with period := w.period, staleLimit := w.staleLimit } ∧
        t.scanner.periodTimer =
          (if s.scanner.continuous = true ∧ w.period ≠ s.scanner.period then
            some (s.mc.time + BitVec.ofNat 32 w.period) else s.scanner.periodTimer) ∧
        (s.scanner.published = [] →
          t.scanner.stale = s.scanner.stale ∧ t.scanner.staleTimer = s.scanner.staleTimer) ∧
        (s.scanner.published ≠ [] → w.staleLimit < (s.mc.time - s.scanner.publishTime).toNat →
          t.scanner.stale = true ∧ t.scanner.staleTimer = none) ∧
        (s.scanner.published ≠ [] → (s.mc.time - s.scanner.publishTime).toNat ≤ w.staleLimit →
          t.scanner.stale = s.scanner.stale ∧
            t.scanner.staleTimer = some (s.scanner.publishTime + BitVec.ofNat 32 (w.staleLimit + 1))) ∧
        t.scanner.published = s.scanner.published ∧ t.scanner.hold = s.scanner.hold ∧
        (w.single = true → t.scanner.state = .converting ∧ t.scanner.live = []) ∧
        (w.single = false → t.scanner.state = s.scanner.state ∧ t.scanner.live = s.scanner.live))

/-- CLEAR_LATCH of an empty set gets BAD_VALUE; otherwise the set latches of the named channels are cleared with trip
raw and trip time 0, the other assignments and the windows stay, and the answer is the set of channels still
latched. A WRITE of WINDOWS, in every mode, replaces the window, unless its high bound is below its low bound:
BAD_VALUE. A WRITE of ASSIGNMENTS replaces window and sense; a set latch is cleared when the window changes and
otherwise kept. The outputs are then what the records give. -/
def Obligations.LatchesWindowsAndAssignmentsAreChanged : Prop :=
  (∀ (p : Port) (tag : Byte) (set : Mask) (s : State), s.hears p .clearLatch → s.offers = [] →
    (set = 0 → exec (.clearLatch p tag set) s = .next (s.respond p 0x10 tag ⟨.badValue, []⟩)) ∧
    (set ≠ 0 →
      ∃ (t : State) (left : Mask), exec (.clearLatch p tag set) s =
          .next (t.respond p 0x10 tag ⟨.ok, bytes2 left.toNat⟩) ∧ Kept s t ∧
        (∀ ch : Fin 16, left.getLsbD ch.val = (t.monitor.assignments.get ch).latched) ∧
        (∀ ch : Fin 16, t.monitor.assignments.get ch =
          if set.getLsbD ch.val && (s.monitor.assignments.get ch).latched then
            { s.monitor.assignments.get ch with latched := false, tripRaw := 0, tripTime := 0 }
          else s.monitor.assignments.get ch) ∧
        t.monitor.outputs = t.monitor.derive)) ∧
  ∀ (p : Port) (tag : Byte) (record : List Byte) (s : State), s.hears p .write →
    ((s.port p).authority = .operator ∨ (s.port p).authority = .service) → s.offers = [] →
    (∀ (i : Fin 6) (w : Window), record.length = 8 → parseWindows record = some w →
      (w.high < w.low → exec (.writeWindows p tag (byte i.val) record) s =
        .next (s.respond p 0x14 tag ⟨.badValue, []⟩)) ∧
      (w.low ≤ w.high →
        ∃ t : State, exec (.writeWindows p tag (byte i.val) record) s = .next (t.respond p 0x14 tag ⟨.ok, []⟩) ∧
          t.standing = s.standing ∧
          t.configuration = { s.configuration with windows := s.monitor.windows.set i.val w i.isLt } ∧
          t.monitor.assignments = s.monitor.assignments ∧ t.monitor.outputs = t.monitor.derive)) ∧
    ∀ (i : Fin 16) (w : AssignmentWrite), record.length = 9 → parseAssignments record = some w →
      ∃ t : State, exec (.writeAssignments p tag (byte i.val) record) s = .next (t.respond p 0x14 tag ⟨.ok, []⟩) ∧
        t.standing = s.standing ∧ t.monitor.windows = s.monitor.windows ∧
        t.monitor.assignments.get i =
          (if (s.monitor.assignments.get i).latched = true ∧ w.window ≠ (s.monitor.assignments.get i).window then
            ⟨w.window, w.sense, false, 0, 0⟩
          else { s.monitor.assignments.get i with window := w.window, sense := w.sense }) ∧
        (∀ ch, ch ≠ i → t.monitor.assignments.get ch = s.monitor.assignments.get ch) ∧
        t.monitor.outputs = t.monitor.derive

/-! ### Pulse unit (05) -/

/-- MOTOR_PULSE counts forward while MOTOR_B is low, else in reverse; GROUND_PULSE counts, records the time of the
edge and, while GROUND_PRESENT, restarts the loss timer; while GROUND_LOST it continues a run of edges less than
the loss time apart or begins one, and the fourth returns the unit to GROUND_PRESENT with the path source GROUND,
posting GROUND_REGAINED with the motor speed. -/
def Obligations.PulsesAreCounted : Prop :=
  ∀ s : State, s.offers = [] →
    exec (.motorPulse false) s =
      .next (s.setPulse { s.pulse with forwardCount := min 65535 (s.pulse.forwardCount + 1) }) ∧
    exec (.motorPulse true) s =
      .next (s.setPulse { s.pulse with reverseCount := min 65535 (s.pulse.reverseCount + 1) }) ∧
    (s.pulse.status = .present →
      exec .groundPulse s =
        .next (s.setPulse
          { s.pulse with
            groundCount := min 65535 (s.pulse.groundCount + 1), lastEdge := s.mc.time,
            lossTimer := some (s.mc.time + BitVec.ofNat 32 s.pulse.lossTime) })) ∧
    ∀ run, run =
        (if (s.mc.time - s.pulse.lastEdge).toNat < s.pulse.lossTime ∧ 1 ≤ s.pulse.regainRun then s.pulse.regainRun + 1
          else 1) →
      s.pulse.status = .lost →
      (run < 4 →
        exec .groundPulse s =
          .next (s.setPulse
            { s.pulse with
              groundCount := min 65535 (s.pulse.groundCount + 1), lastEdge := s.mc.time, regainRun := run })) ∧
      (4 ≤ run →
        ∃ t : State, exec .groundPulse s = .next t ∧ Kept s t ∧
          t.pulse =
            { s.pulse with
              groundCount := min 65535 (s.pulse.groundCount + 1), lastEdge := s.mc.time, status := .present,
              regainRun := 0, source := .ground, remainder := 0,
              lossTimer := some (s.mc.time + BitVec.ofNat 32 s.pulse.lossTime) } ∧
          t.governor.copies.ground = .present ∧ t.water.copies.ground = .present ∧
          ∃ out, t = ((s.setPulse t.pulse).emit out).settle ∧ .post .groundRegained 0 s.pulse.motorSpeed ∈ out)

/-- SPEED_WINDOW_END, when its timer has been reached: motor speed, direction and ground speed from the counts of the
window; the path counter advances by whole centimetres from the counts of its source with the remainder carried,
saturating; the ground-loss test, with GROUND_LOST and the motor speed when it holds; the slip ratio, 0 at or below 300
mm/s or while GROUND_LOST; the counts are 0 and the next window runs from the end of this one (log 28). Before its timer
has been reached it changes nothing (the model's choice, log 3). -/
def Obligations.SpeedWindowIsWorkedOut : Prop :=
  ∀ s : State, s.offers = [] →
    (reached s.mc.time s.pulse.windowTimer = false → exec .speedWindowEnd s = .next s) ∧
    (reached s.mc.time s.pulse.windowTimer = true →
      ∃ t : State, exec .speedWindowEnd s = .next t ∧ Kept s t ∧
        t.pulse.motorSpeed =
          min 30000 (((s.pulse.forwardCount : Int) - s.pulse.reverseCount).natAbs * 1000000 /
            (s.pulse.motorPpm * s.pulse.window)) ∧
        t.pulse.direction =
          (if s.pulse.reverseCount < s.pulse.forwardCount then .forward
           else if s.pulse.forwardCount < s.pulse.reverseCount then .reverse else .none) ∧
        (s.pulse.source = .ground →
          t.pulse.path =
            min 4294967295 (s.pulse.path + (s.pulse.remainder + s.pulse.groundCount * 100) / s.pulse.groundPpm)) ∧
        (s.pulse.source = .motor →
          t.pulse.path =
            min 4294967295 (s.pulse.path +
              (s.pulse.remainder + ((s.pulse.forwardCount : Int) - s.pulse.reverseCount).natAbs * 100) /
                s.pulse.motorPpm)) ∧
        t.pulse.status =
          (if s.pulse.status = .present ∧ s.pulse.lossTime ≤ (s.mc.time - s.pulse.lastEdge).toNat ∧
              150 < t.pulse.motorSpeed then .lost else s.pulse.status) ∧
        (t.pulse.status = .present →
          t.pulse.groundSpeed =
            min 30000 (s.pulse.groundCount * 1000000 / (s.pulse.groundPpm * s.pulse.window)) ∧
          t.pulse.slip =
            (if 300 < t.pulse.motorSpeed then
              (t.pulse.motorSpeed - t.pulse.groundSpeed) * 100 / t.pulse.motorSpeed else 0)) ∧
        (t.pulse.status = .lost → t.pulse.groundSpeed = t.pulse.motorSpeed ∧ t.pulse.slip = 0) ∧
        (t.pulse.status = s.pulse.status →
          t.pulse.source = s.pulse.source ∧
          t.pulse.remainder =
            (match s.pulse.source with
              | .ground => (s.pulse.remainder + s.pulse.groundCount * 100) % s.pulse.groundPpm
              | .motor =>
                (s.pulse.remainder + ((s.pulse.forwardCount : Int) - s.pulse.reverseCount).natAbs * 100) %
                  s.pulse.motorPpm)) ∧
        (t.pulse.status ≠ s.pulse.status → t.pulse.source = .motor ∧ t.pulse.remainder = 0) ∧
        t.pulse.forwardCount = 0 ∧ t.pulse.reverseCount = 0 ∧ t.pulse.groundCount = 0 ∧
        t.pulse.windowTimer = s.pulse.windowTimer + BitVec.ofNat 32 s.pulse.window ∧
        ∃ out, t = ((s.setPulse t.pulse).emit out).settle ∧
          (t.pulse.status ≠ s.pulse.status → .post .groundLost 0 t.pulse.motorSpeed ∈ out) ∧
          (t.pulse.status = s.pulse.status → ∀ n v, .post .groundLost n v ∉ out))

/-- LOSS_TIMER_EXPIRY: the loss test is made once the timer has been reached. It holds above 150 mm/s at the motor with
no ground edge for the loss time, and makes the path source MOTOR and the ground speed the motor's, posting GROUND_LOST
with the motor speed; otherwise only the timer stops. With no timer, or before it has been reached, it changes nothing
(the model's choice, log 3). A WRITE of PULSE is taken in HALTED and SERVICE: a new calibration clears the remainder, a
new window restarts the window timer, a new loss time sets the loss timer afresh from the last edge, or makes the test
at once, also when the quiet time equals it (the model's choice, log 31). -/
def Obligations.GroundLossAndPulseSettings : Prop :=
  (∀ s : State, s.offers = [] →
    (s.pulse.lossTimer = none → exec .lossTimerExpiry s = .next s) ∧
    ∀ e, s.pulse.lossTimer = some e →
      (reached s.mc.time e = false → exec .lossTimerExpiry s = .next s) ∧
      (reached s.mc.time e = true →
        (s.pulse.status = .lost ∨ (s.mc.time - s.pulse.lastEdge).toNat < s.pulse.lossTime ∨
            s.pulse.motorSpeed ≤ 150 →
          exec .lossTimerExpiry s = .next (s.setPulse { s.pulse with lossTimer := none })) ∧
        (s.pulse.status = .present → s.pulse.lossTime ≤ (s.mc.time - s.pulse.lastEdge).toNat →
          150 < s.pulse.motorSpeed →
          ∃ t : State, exec .lossTimerExpiry s = .next t ∧ Kept s t ∧
            t.pulse =
              { s.pulse with
                status := .lost, lossTimer := none, source := .motor, remainder := 0,
                groundSpeed := s.pulse.motorSpeed, slip := 0, regainRun := 0 } ∧
            t.governor.copies.ground = .lost ∧ t.governor.copies.slip = 0 ∧ t.governor.slipWindow = none ∧
            t.water.copies.ground = .lost ∧ t.water.copies.groundSpeed = s.pulse.motorSpeed ∧
            ∃ out, t = ((s.setPulse t.pulse).emit out).settle ∧ .post .groundLost 0 s.pulse.motorSpeed ∈ out))) ∧
  ∀ (p : Port) (tag : Byte) (record : List Byte) (w : PulseWrite) (s : State), s.hears p .write →
    ((s.port p).authority = .operator ∨ (s.port p).authority = .service) → s.offers = [] → record.length = 22 →
    parsePulse record = some w →
    (s.mc.mode.configurable = false →
      exec (.writePulse p tag 0 record) s = .next (s.respond p 0x14 tag ⟨.wrongMode, []⟩)) ∧
    (s.mc.mode.configurable = true →
      ∃ t : State, exec (.writePulse p tag 0 record) s = .next (t.respond p 0x14 tag ⟨.ok, []⟩) ∧
        t.standing = s.standing ∧
        t.configuration = { s.configuration with pulse := (w.motorPpm, w.groundPpm, w.window, w.lossTime) } ∧
        t.pulse.windowTimer =
          (if w.window = s.pulse.window then s.pulse.windowTimer else s.mc.time + BitVec.ofNat 32 w.window) ∧
        (s.pulse.status = .lost → t.pulse.status = .lost ∧ t.pulse.lossTimer = s.pulse.lossTimer) ∧
        (s.pulse.status = .present → (s.mc.time - s.pulse.lastEdge).toNat < w.lossTime →
          t.pulse.status = .present ∧ t.pulse.lossTimer = some (s.pulse.lastEdge + BitVec.ofNat 32 w.lossTime)) ∧
        (s.pulse.status = .present → w.lossTime ≤ (s.mc.time - s.pulse.lastEdge).toNat →
          t.pulse.lossTimer = none ∧
            t.pulse.status = if 150 < s.pulse.motorSpeed then .lost else .present) ∧
        (t.pulse.status = s.pulse.status →
          t.pulse.remainder =
            if w.motorPpm = s.pulse.motorPpm ∧ w.groundPpm = s.pulse.groundPpm then s.pulse.remainder else 0) ∧
        t.pulse.path = s.pulse.path ∧ t.pulse.motorSpeed = s.pulse.motorSpeed ∧
        ∃ out, t = ((s.setPulse t.pulse).emit out).settle ∧
          (t.pulse.status ≠ s.pulse.status → .post .groundLost 0 s.pulse.motorSpeed ∈ out))

/-! ### Profile selector (06) -/

/-- The resolved row of a code is that of the lowest enabled zone entry that equals it under the mask, the entry's own
or the shared one; row 0, and index 16, when none does. A path advance: the queued entries whose marks it reaches leave
the queue, and the last of them is applied; unless pinned, its row becomes the active profile, with PROFILE_APPLIED and
cause 0. With none reached nothing changes but the selector's copies of counter and advance (05 R85). -/
def Obligations.ZonesResolveAndMarksAreApplied : Prop :=
  (∀ (x : Selector) (code : ZoneCode),
    (∀ i : Fin 16, (x.zones.get i).enabled = true →
        code &&& (x.zones.get i).ownMask.getD x.sharedMask =
          (x.zones.get i).code &&& (x.zones.get i).ownMask.getD x.sharedMask →
        (∀ j : Fin 16, j < i → (x.zones.get j).enabled = true →
          code &&& (x.zones.get j).ownMask.getD x.sharedMask ≠
            (x.zones.get j).code &&& (x.zones.get j).ownMask.getD x.sharedMask) →
        x.resolve code = (i.val, (x.zones.get i).profile)) ∧
    ((∀ i : Fin 16, (x.zones.get i).enabled = true →
        code &&& (x.zones.get i).ownMask.getD x.sharedMask ≠
          (x.zones.get i).code &&& (x.zones.get i).ownMask.getD x.sharedMask) →
      x.resolve code = (16, 0))) ∧
  ∀ (x : Selector) (path advance : Nat) (passed rest : List QueuedChange), x.queue = passed ++ rest →
    (∀ e ∈ passed, e.mark ≤ path) → (∀ e ∈ rest.head?, path < e.mark) →
    (passed = [] → x.pathAdvance path advance = ⟨{ x with path := path, advance := advance }, []⟩) ∧
    ∀ e, passed.getLast? = some e →
      (x.pathAdvance path advance).val =
        { x with
          path := path, advance := advance, queue := rest, zoneProfile := e.profile, lastCode := some e.code,
          active := if x.pinned then x.active else e.profile } ∧
      (x.pinned = true → (x.pathAdvance path advance).out = []) ∧
      (x.pinned = false → .post .profileApplied e.profile.val 0 ∈ (x.pathAdvance path advance).out)

/-- ZONE_AHEAD. A distance above 50000 gets BAD_VALUE, HALTED and SERVICE get WRONG_MODE, a resolved row that is not
valid BAD_VALUE with entry and row. At distance 0, and while the counter is saturated, the change is applied: zone
profile and last code move, and unless pinned the active profile, with PROFILE_APPLIED and cause 0. Otherwise it is
queued at the path counter as the selector holds it plus the distance, after the entries with marks not greater, while
fewer than 4 are queued; a fifth gets QUEUE_FULL. -/
def Obligations.ZoneAheadAppliesOrQueues : Prop :=
  ∀ (p : Port) (tag : Byte) (code : ZoneCode) (distance : BitVec 16) (s : State), s.hears p .zoneAhead →
    s.offers = [] →
    (50000 < distance.toNat →
      exec (.zoneAhead p tag code distance) s = .next (s.respond p 0x09 tag ⟨.badValue, []⟩)) ∧
    (distance.toNat ≤ 50000 → s.mc.mode.configurable = true →
      exec (.zoneAhead p tag code distance) s = .next (s.respond p 0x09 tag ⟨.wrongMode, []⟩)) ∧
    ∀ n row, s.selector.resolve code = (n, row) → distance.toNat ≤ 50000 → s.mc.mode.configurable = false →
      ((s.selector.rows.get row).valid = false →
        exec (.zoneAhead p tag code distance) s =
          .next (s.respond p 0x09 tag ⟨.badValue, [byte n, byte row.val]⟩)) ∧
      ((s.selector.rows.get row).valid = true →
        (distance = 0 ∨ 4294967295 ≤ s.selector.path →
          ∃ t : State, exec (.zoneAhead p tag code distance) s =
              .next (t.respond p 0x09 tag ⟨.ok, [byte n, byte row.val, 0, byte s.selector.queue.length]⟩) ∧
            Kept s t ∧
            t.selector =
              { s.selector with
                zoneProfile := row, lastCode := some code,
                active := if s.selector.pinned then s.selector.active else row } ∧
            ∃ out, t = ((s.setSelector t.selector).emit out).settle ∧ (s.selector.pinned = true → out = []) ∧
              (s.selector.pinned = false → .post .profileApplied row.val 0 ∈ out)) ∧
        (distance ≠ 0 → s.selector.path < 4294967295 → 4 ≤ s.selector.queue.length →
          exec (.zoneAhead p tag code distance) s = .next (s.respond p 0x09 tag ⟨.queueFull, []⟩)) ∧
        (distance ≠ 0 → s.selector.path < 4294967295 → s.selector.queue.length < 4 →
          ∃ before after, s.selector.queue = before ++ after ∧
            (∀ e ∈ before, e.mark ≤ min 4294967295 (s.selector.path + distance.toNat)) ∧
            (∀ e ∈ after.head?, min 4294967295 (s.selector.path + distance.toNat) < e.mark) ∧
            exec (.zoneAhead p tag code distance) s =
              .next ((s.setSelector
                { s.selector with
                  queue := before ++ ⟨min 4294967295 (s.selector.path + distance.toNat), row, code⟩ :: after }).respond
                p 0x09 tag ⟨.ok, [byte n, byte row.val, 1, byte (s.selector.queue.length + 1)]⟩)))

/-- PIN and UNPIN of the TRAVEL holder in a working mode: PIN makes a valid row active and pins it, UNPIN returns to
the zone profile; a row above 7 or not valid gets BAD_VALUE, another station NOT_HOLDER, HALTED and SERVICE
WRONG_MODE, in the order of the rules. PROFILE_APPLIED is posted with cause 1 or 2. The offers of the setting leave
configuration and standing records as they are. -/
def Obligations.PinAndUnpinSetTheActiveProfile : Prop :=
  ∀ (p : Port) (tag row : Byte) (s : State), s.offers = [] →
    (s.hears p .pin →
      (8 ≤ row.toNat → exec (.pin p tag row) s = .next (s.respond p 0x07 tag ⟨.badValue, []⟩)) ∧
      ∀ r : Fin 8, row.toNat = r.val →
        ((s.mc.claims.get .travel).holder ≠ some p →
          exec (.pin p tag row) s = .next (s.respond p 0x07 tag ⟨.notHolder, []⟩)) ∧
        ((s.mc.claims.get .travel).holder = some p → s.mc.mode.configurable = true →
          exec (.pin p tag row) s = .next (s.respond p 0x07 tag ⟨.wrongMode, []⟩)) ∧
        ((s.mc.claims.get .travel).holder = some p → s.mc.mode.configurable = false →
          ((s.selector.rows.get r).valid = false →
            exec (.pin p tag row) s = .next (s.respond p 0x07 tag ⟨.badValue, []⟩)) ∧
          ((s.selector.rows.get r).valid = true →
            ∃ t : State, exec (.pin p tag row) s =
                .next (t.respond p 0x07 tag ⟨.ok, [row, byte s.selector.zoneProfile.val]⟩) ∧ Kept s t ∧
              t.selector = { s.selector with pinned := true, active := r } ∧
              ∃ out, t = ((s.setSelector t.selector).emit out).settle ∧ .post .profileApplied r.val 1 ∈ out))) ∧
    (s.hears p .unpin →
      ((s.mc.claims.get .travel).holder ≠ some p →
        exec (.unpin p tag) s = .next (s.respond p 0x08 tag ⟨.notHolder, []⟩)) ∧
      ((s.mc.claims.get .travel).holder = some p → s.mc.mode.configurable = true →
        exec (.unpin p tag) s = .next (s.respond p 0x08 tag ⟨.wrongMode, []⟩)) ∧
      ((s.mc.claims.get .travel).holder = some p → s.mc.mode.configurable = false →
        (s.selector.pinned = false →
          exec (.unpin p tag) s = .next (s.respond p 0x08 tag ⟨.ok, [byte s.selector.active.val]⟩)) ∧
        (s.selector.pinned = true →
          ∃ t : State, exec (.unpin p tag) s =
              .next (t.respond p 0x08 tag ⟨.ok, [byte s.selector.zoneProfile.val]⟩) ∧ Kept s t ∧
            t.selector = { s.selector with pinned := false, active := s.selector.zoneProfile } ∧
            ∃ out, t = ((s.setSelector t.selector).emit out).settle ∧
              .post .profileApplied s.selector.zoneProfile.val 2 ∈ out)))

/-- A WRITE of PROFILES: a shed order that does not name each consumer once, or a valid row above the forward cap,
gets BAD_VALUE; the active row in SWEEP, and a row in use made not valid in a working mode, get IN_USE; otherwise
the row is replaced, and an active row's new contents reach the four blocks, with PROFILE_APPLIED and cause 4. -/
def Obligations.WriteProfilesReplacesTheRow : Prop :=
  ∀ (p : Port) (tag : Byte) (i : Fin 8) (record : List Byte) (r : Profile) (s : State), s.hears p .write →
    s.offers = [] → record.length = 22 → parseProfiles record = some r →
    ((∃ c, c ∉ r.shedOrder) ∨ (r.valid = true ∧ s.mc.limits.fwdCap < r.speedCap) →
      exec (.writeProfiles p tag (byte i.val) record) s = .next (s.respond p 0x14 tag ⟨.badValue, []⟩)) ∧
    ((∀ c, c ∈ r.shedOrder) → (r.valid = true → r.speedCap ≤ s.mc.limits.fwdCap) →
      (s.mc.mode = .sweep ∧ i = s.selector.active ∨
          s.mc.mode.working = true ∧ r.valid = false ∧
            (i = s.selector.active ∨ i = s.selector.zoneProfile ∨ ∃ e ∈ s.selector.queue, e.profile = i) →
        exec (.writeProfiles p tag (byte i.val) record) s = .next (s.respond p 0x14 tag ⟨.inUse, []⟩)) ∧
      (¬(s.mc.mode = .sweep ∧ i = s.selector.active) →
        ¬(s.mc.mode.working = true ∧ r.valid = false ∧
            (i = s.selector.active ∨ i = s.selector.zoneProfile ∨ ∃ e ∈ s.selector.queue, e.profile = i)) →
        ∃ t : State, exec (.writeProfiles p tag (byte i.val) record) s = .next (t.respond p 0x14 tag ⟨.ok, []⟩) ∧
          t.standing = s.standing ∧
          t.configuration = { s.configuration with rows := s.selector.rows.set i.val r i.isLt } ∧
          t.selector = { s.selector with rows := s.selector.rows.set i.val r i.isLt } ∧
          (i = s.selector.active →
            t.governor.copies.speedCap = r.speedCap ∧ t.sequencer.left.reach = r.reachL ∧
              t.sequencer.right.reach = r.reachR ∧ t.sequencer.pressTarget = r.pressTarget ∧
              t.sequencer.mainRpm = r.mainRpm ∧ t.sequencer.sideRpm = r.sideRpm ∧
              t.sequencer.armsUsed = r.armsUsed ∧ t.water.copies.groups = r.groups ∧
              t.water.copies.dose = r.dose ∧ (∀ c, (t.budget.rows.get c).rank = r.shedOrder.idxOf c + 1) ∧
              ∃ out, t = ((s.setSelector t.selector).emit out).settle ∧ .post .profileApplied i.val 4 ∈ out)))

/-- The writes that only replace a record, as their own commands and as WRITE: TRAVEL, DRIVE_MAP, IMPLEMENTS, WATER
and ASSOCIATION in HALTED and SERVICE, ROLE_MAP there while the scanner neither converts nor is PAUSED, ZONES,
ZONE_MASK and BUDGET in every mode. The record is replaced whole and nothing else of the part changes but by the
answer. A refill level not above the empty level, and an own mask in entries 0..11 or its absence in 12..15, get
BAD_VALUE; ROLE_MAP while CONVERTING or PAUSED gets BUSY. Whatever bytes stand in read-only fields, in BUDGET all
but the last and in ZONE_MASK all but the mask, the record is taken (read from R18 and R20, log 7). -/
def Obligations.PlainWritesReplaceTheirRecord : Prop :=
  ∀ (p : Port) (tag : Byte) (r : List Byte) (s : State), s.hears p .write →
    ((s.port p).authority = .operator ∨ (s.port p).authority = .service) → s.offers = [] →
    (s.mc.mode.configurable = true →
      (∀ x, r.length = 26 → parseTravel r = some x →
        ∀ c ∈ [Instr.writeTravel p tag 0 r, .write p tag (18 :: 0 :: r)],
          exec c s = .next ((s.setGovernor { s.governor with settings := x }).respond p 0x14 tag ⟨.ok, []⟩)) ∧
      (∀ x, r.length = 7 → parseDriveMap r = some x →
        ∀ c ∈ [Instr.writeDriveMap p tag 0 r, .write p tag (19 :: 0 :: r)],
          exec c s =
            .next ((s.setGovernor { s.governor with map := x }).respond p 0x14 tag
              ⟨.ok, [if 100 ≤ x.fullSpeed ∧ 1 ≤ x.full ∧ x.start ≤ x.full then 1 else 0]⟩)) ∧
      (∀ x, r.length = 22 → parseImplements r = some x →
        (∀ c ∈ [Instr.writeImplements p tag 0 r, .write p tag (20 :: 0 :: r)],
          exec c s =
            .next ((s.setSequencer
              { s.sequencer with left := { s.sequencer.left with settings := x } }).respond p 0x14 tag ⟨.ok, []⟩)) ∧
        ∀ c ∈ [Instr.writeImplements p tag 1 r, .write p tag (20 :: 1 :: r)],
          exec c s =
            .next ((s.setSequencer
              { s.sequencer with right := { s.sequencer.right with settings := x } }).respond p 0x14 tag
                ⟨.ok, []⟩)) ∧
      (∀ x, r.length = 26 → parseWater r = some x → x.emptyLevel < x.refillLevel →
        ∀ c ∈ [Instr.writeWater p tag 0 r, .write p tag (23 :: 0 :: r)],
          exec c s = .next ((s.setWater { s.water with settings := x }).respond p 0x14 tag ⟨.ok, []⟩)) ∧
      (∀ (i : Fin 12) x, r.length = 1 → Association.ofNumber (field1 r 0) = some x →
        ∀ c ∈ [Instr.writeAssociation p tag (byte i.val) r, .write p tag (24 :: byte i.val :: r)],
          exec c s =
            .next ((s.setWater
              { s.water with associations := s.water.associations.set i.val x i.isLt }).respond p 0x14 tag
                ⟨.ok, []⟩)) ∧
      (∀ x, r.length = 26 → parseWater r = some x → x.refillLevel ≤ x.emptyLevel →
        exec (.writeWater p tag 0 r) s = .next (s.respond p 0x14 tag ⟨.badValue, []⟩)) ∧
      (∀ (i : Fin 12) x, r.length = 5 → parseRoleMap r = some x →
        s.scanner.state = .converting ∨ s.scanner.state = .paused →
        exec (.writeRoleMap p tag (byte i.val) r) s = .next (s.respond p 0x14 tag ⟨.busy, []⟩)) ∧
      (∀ (i : Fin 12) x, r.length = 5 → parseRoleMap r = some x →
        s.scanner.state = .stopped ∨ s.scanner.state = .waiting →
        ∀ c ∈ [Instr.writeRoleMap p tag (byte i.val) r, .write p tag (5 :: byte i.val :: r)],
          exec c s =
            .next ((s.setScanner
              { s.scanner with roleMap := s.scanner.roleMap.set i.val x i.isLt }).respond p 0x14 tag ⟨.ok, []⟩))) ∧
    (∀ (i : Fin 16) x, r.length = 11 → parseZones r = some x → (x.ownMask.isSome = true ↔ 12 ≤ i.val) →
      ∀ c ∈ [Instr.writeZones p tag (byte i.val) r, .write p tag (13 :: byte i.val :: r)],
        exec c s =
          .next ((s.setSelector
            { s.selector with zones := s.selector.zones.set i.val x i.isLt }).respond p 0x14 tag ⟨.ok, []⟩)) ∧
    (∀ (i : Fin 16) x, r.length = 11 → parseZones r = some x → (x.ownMask.isSome = true ↔ i.val < 12) →
      exec (.writeZones p tag (byte i.val) r) s = .next (s.respond p 0x14 tag ⟨.badValue, []⟩)) ∧
    (∀ x, r.length = 13 → code24At r 0 = some x →
      ∀ c ∈ [Instr.writeZoneMask p tag 0 r, .write p tag (14 :: 0 :: r)],
        exec c s = .next ((s.setSelector { s.selector with sharedMask := x }).respond p 0x14 tag ⟨.ok, []⟩)) ∧
    (∀ x, r.length = 14 →
      (∀ c ∈ [Instr.writeBudget p tag (byte (consumerNumber x)) r,
          .write p tag (16 :: byte (consumerNumber x) :: r)],
        (x ≠ .travel → (r.getD 13 0).toNat ≤ 100 →
          exec c s =
            .next ((s.setBudget
              { s.budget with
                rows := s.budget.rows.set x
                  { s.budget.rows.get x with floor := (r.getD 13 0).toNat } }).respond p 0x14 tag ⟨.ok, []⟩)) ∧
        (x ≠ .travel → 101 ≤ (r.getD 13 0).toNat →
          exec c s = .next (s.respond p 0x14 tag ⟨.badValue, []⟩)) ∧
        (x = .travel → exec c s = .next (s.respond p 0x14 tag ⟨.ok, []⟩))))

/-- The refusals of the writes: a wrong record length, an index at or beyond the capacity, an unknown table or a
record that breaks an encoding gets BAD_VALUE; a class that may not write the table, and a table that nobody may,
get NOT_PERMITTED; a table for HALTED and SERVICE gets WRONG_MODE elsewhere; nothing changes but by the answer. A
WRITE is the write of the table it names. That a table nobody may write gets NOT_PERMITTED whatever the record's bytes,
and that the bytes of read-only fields and of absent optionals break no encoding, is the model's deduction from R18 and
R20 (log 7). -/
def Obligations.WritesAreRefused : Prop :=
  ∀ (p : Port) (tag i : Byte) (r : List Byte) (s : State), s.hears p .write → s.offers = [] →
    (∀ x : List Byte, x.length < 2 → exec (.write p tag x) s = .next (s.respond p 0x14 tag ⟨.badValue, []⟩)) ∧
    (∀ n : Byte, Table.ofNumber n.toNat = none →
      exec (.write p tag (n :: i :: r)) s = .next (s.respond p 0x14 tag ⟨.badValue, []⟩)) ∧
    (∀ (n : Byte) (t : Table), Table.ofNumber n.toNat = some t →
      (r.length ≠ t.recordSize ∨ t.capacity ≤ i.toNat →
        exec (.write p tag (n :: i :: r)) s = .next (s.respond p 0x14 tag ⟨.badValue, []⟩)) ∧
      (r.length = t.recordSize → i.toNat < t.capacity →
        (t ∈ [Table.ports, .claims, .machine, .publishedSet, .changeQueue, .outcomesL, .outcomesR, .chain] →
          exec (.write p tag (n :: i :: r)) s = .next (s.respond p 0x14 tag ⟨.notPermitted, []⟩)) ∧
        (t ∉ [Table.ports, .claims, .machine, .publishedSet, .changeQueue, .outcomesL, .outcomesR, .chain] →
          (parseRecord t i.toNat r = none →
            exec (.write p tag (n :: i :: r)) s = .next (s.respond p 0x14 tag ⟨.badValue, []⟩)) ∧
          (parseRecord t i.toNat r ≠ none →
            ((s.port p).authority = .route ∧ t ∉ [Table.profiles, .zones, .zoneMask] ∨
              (s.port p).authority = .operator ∧ t = .limits →
            exec (.write p tag (n :: i :: r)) s = .next (s.respond p 0x14 tag ⟨.notPermitted, []⟩)) ∧
            (((s.port p).authority = .operator ∨ (s.port p).authority = .service) → s.mc.mode.configurable = false →
              t ∈ [Table.roleMap, .scanList, .scanControl, .pulse, .coefficients, .travel, .driveMap, .water,
                .association] →
              exec (.write p tag (n :: i :: r)) s = .next (s.respond p 0x14 tag ⟨.wrongMode, []⟩)) ∧
            (((s.port p).authority = .operator ∨ (s.port p).authority = .service) → t = .implements →
              (i = 2 → exec (.write p tag (n :: i :: r)) s = .next (s.respond p 0x14 tag ⟨.notPermitted, []⟩)) ∧
              (i ≠ 2 → s.mc.mode.configurable = false →
                exec (.write p tag (n :: i :: r)) s = .next (s.respond p 0x14 tag ⟨.wrongMode, []⟩))))))) ∧
    exec (.write p tag (3 :: i :: r)) s = exec (.writeLimits p tag i r) s ∧
    exec (.write p tag (5 :: i :: r)) s = exec (.writeRoleMap p tag i r) s ∧
    exec (.write p tag (6 :: i :: r)) s = exec (.writeScanList p tag i r) s ∧
    exec (.write p tag (7 :: i :: r)) s = exec (.writeScanControl p tag i r) s ∧
    exec (.write p tag (9 :: i :: r)) s = exec (.writeWindows p tag i r) s ∧
    exec (.write p tag (10 :: i :: r)) s = exec (.writeAssignments p tag i r) s ∧
    exec (.write p tag (11 :: i :: r)) s = exec (.writePulse p tag i r) s ∧
    exec (.write p tag (12 :: i :: r)) s = exec (.writeProfiles p tag i r) s ∧
    exec (.write p tag (13 :: i :: r)) s = exec (.writeZones p tag i r) s ∧
    exec (.write p tag (14 :: i :: r)) s = exec (.writeZoneMask p tag i r) s ∧
    exec (.write p tag (16 :: i :: r)) s = exec (.writeBudget p tag i r) s ∧
    exec (.write p tag (17 :: i :: r)) s = exec (.writeCoefficients p tag i r) s ∧
    exec (.write p tag (18 :: i :: r)) s = exec (.writeTravel p tag i r) s ∧
    exec (.write p tag (19 :: i :: r)) s = exec (.writeDriveMap p tag i r) s ∧
    exec (.write p tag (20 :: i :: r)) s = exec (.writeImplements p tag i r) s ∧
    exec (.write p tag (23 :: i :: r)) s = exec (.writeWater p tag i r) s ∧
    exec (.write p tag (24 :: i :: r)) s = exec (.writeAssociation p tag i r) s

/-! ### Power budget (07) -/

/-- A recompute. The rows are walked in rank order, the first with the ceiling as its remaining points and each next one
with what the one before has left. A row at its turn with `p` points remaining. FULL or TRIMMED: its demand when that
fits; else the remaining points, TRIMMED, when they reach its trim floor; else 0 and HELD, with a hold. HELD: its demand
and FULL once the hold has expired and the points exceed it by the resume margin; else 0, HELD still. A hold has expired
from the HOLD_EXPIRY on that finds it reached, and not before, whatever is offered at that millisecond (R113; log 30).
CONSUMER_HELD with the demand and CONSUMER_RESUMED with the grant are posted for the rows that go HELD or leave it, and
for no other; a row's grant and state are offered exactly when one has changed, the sequencer's three rows as one offer
(the model's choice, log 44). A demand counts in SWEEP, those of travel and water also in TRANSPORT and STOWING, none
else; a recompute follows an offered demand, a mode, a shed order or a derate total that changes a demand, a rank or the
ceiling, and every START; where nothing of these changes, none follows. -/
def Obligations.RowTakesItsTurn : Prop :=
  (∀ (r : BudgetRow) (k : Coefficients) (now : Time) (p : Nat),
    (r.state ≠ .held →
      (r.demand ≤ p → r.decide k now p = { r with grant := r.demand, state := .full }) ∧
      (p < r.demand → r.demand * r.floor ≤ p * 100 → r.decide k now p = { r with grant := p, state := .trimmed }) ∧
      (p < r.demand → p * 100 < r.demand * r.floor →
        r.decide k now p =
          { r with
            grant := 0, state := .held, holdExpiry := some (now + BitVec.ofNat 32 k.holdTime), holdTimer := true,
            holdOver := false })) ∧
    (r.state = .held →
      (r.holdOver = true → r.demand + k.margin ≤ p →
        r.decide k now p =
          { r with grant := r.demand, state := .full, holdExpiry := none, holdTimer := false, holdOver := false }) ∧
      (p < r.demand + k.margin → r.decide k now p = { r with grant := 0 }) ∧
      (r.holdOver = false → r.decide k now p = { r with grant := 0 }))) ∧
  (∀ (b : Budget) (now : Time) (c1 c2 c3 c4 c5 : Consumer) (r1 r2 r3 r4 r5 : BudgetRow) (n : BudgetRows),
    [c1, c2, c3, c4, c5].Nodup → (b.rows.get c1).rank = 1 → (b.rows.get c2).rank = 2 → (b.rows.get c3).rank = 3 →
    (b.rows.get c4).rank = 4 → (b.rows.get c5).rank = 5 →
    r1 = (b.rows.get c1).decide b.coefficients now b.ceiling →
    r2 = (b.rows.get c2).decide b.coefficients now (b.ceiling - r1.grant) →
    r3 = (b.rows.get c3).decide b.coefficients now (b.ceiling - r1.grant - r2.grant) →
    r4 = (b.rows.get c4).decide b.coefficients now (b.ceiling - r1.grant - r2.grant - r3.grant) →
    r5 = (b.rows.get c5).decide b.coefficients now (b.ceiling - r1.grant - r2.grant - r3.grant - r4.grant) →
    n = ((((b.rows.set c1 r1).set c2 r2).set c3 r3).set c4 r4).set c5 r5 →
    ∃ out, b.recompute now = ⟨{ b with rows := n }, out⟩ ∧
      (∀ j v, .post .consumerHeld j v ∈ out ↔
        ∃ c, j = consumerNumber c ∧ v = (n.get c).demand ∧ (b.rows.get c).state ≠ .held ∧ (n.get c).state = .held) ∧
      (∀ j v, .post .consumerResumed j v ∈ out ↔
        ∃ c, j = consumerNumber c ∧ v = (n.get c).grant ∧ (b.rows.get c).state = .held ∧ (n.get c).state ≠ .held) ∧
      (∀ g, .governorGrant g ∈ out ↔
        g = ⟨n.travel.grant, n.travel.state⟩ ∧
          (n.travel.grant ≠ b.rows.travel.grant ∨ n.travel.state ≠ b.rows.travel.state)) ∧
      (∀ m l r, .sequencerGrants m l r ∈ out ↔
        m = ⟨n.main.grant, n.main.state⟩ ∧ l = ⟨n.armL.grant, n.armL.state⟩ ∧ r = ⟨n.armR.grant, n.armR.state⟩ ∧
          ∃ c ∈ [Consumer.main, .armL, .armR],
            (n.get c).grant ≠ (b.rows.get c).grant ∨ (n.get c).state ≠ (b.rows.get c).state) ∧
      (∀ g, .waterGrant g ∈ out ↔
        g = ⟨n.water.grant, n.water.state⟩ ∧
          (n.water.grant ≠ b.rows.water.grant ∨ n.water.state ≠ b.rows.water.state))) ∧
  ∀ s : State,
    (∀ (c : Consumer) (points d : Nat) (b : Budget),
      d = (if s.budget.mode = .sweep ∨
          (s.budget.mode = .transport ∨ s.budget.mode = .stowing) ∧ (c = .travel ∨ c = .water) then points else 0) →
      b = { s.budget with
        rows := s.budget.rows.set c { s.budget.rows.get c with offered := points, demand := d } } →
      (d = (s.budget.rows.get c).demand → deliver (.demand c points) s = s.setBudget b) ∧
      (d ≠ (s.budget.rows.get c).demand → deliver (.demand c points) s = s.withBudget (b.recompute s.mc.time))) ∧
    (∀ (m : Mode) (rows : BudgetRows),
      (∀ c, rows.get c =
        { s.budget.rows.get c with
          demand :=
            if m = .sweep ∨ (m = .transport ∨ m = .stowing) ∧ (c = .travel ∨ c = .water) then
              (s.budget.rows.get c).offered else 0 }) →
      (rows = s.budget.rows → deliver (.budgetMode m) s = s.setBudget { s.budget with mode := m }) ∧
      (rows ≠ s.budget.rows →
        deliver (.budgetMode m) s =
          s.withBudget (Budget.recompute { s.budget with mode := m, rows := rows } s.mc.time))) ∧
    (∀ (order : List Consumer) (rows : BudgetRows),
      (∀ c, rows.get c = { s.budget.rows.get c with rank := order.idxOf c + 1 }) →
      (rows = s.budget.rows → deliver (.budgetRanks order) s = s) ∧
      (rows ≠ s.budget.rows →
        deliver (.budgetRanks order) s =
          s.withBudget (Budget.recompute { s.budget with rows := rows } s.mc.time))) ∧
    (∀ total : Nat,
      (s.budget.reserve - total = s.budget.ceiling →
        deliver (.budgetDerate total) s = s.setBudget { s.budget with derate := total }) ∧
      (s.budget.reserve - total ≠ s.budget.ceiling →
        deliver (.budgetDerate total) s =
          s.withBudget
            (Budget.recompute { s.budget with derate := total, ceiling := s.budget.reserve - total } s.mc.time))) ∧
    ∀ (order : List Consumer) (rows : BudgetRows),
      (∀ c, rows.get c =
        { s.budget.rows.get c with
          rank := order.idxOf c + 1
          demand := if c = .travel ∨ c = .water then (s.budget.rows.get c).offered else 0 }) →
      deliver (.budgetStart order) s =
        s.withBudget (Budget.recompute { s.budget with mode := .transport, rows := rows } s.mc.time)

/-- RESERVE in range makes the report the reserve, with source REPORTED, the port as last reporter and a 500 ms lease,
and the ceiling is the reserve less the derate total, at least 0; the answer is the ceiling and the sum of the grants;
from FALLBACK it posts RESERVE_BACK with port and reserve. Above 1000 it gets BAD_VALUE. RESERVE_LEASE_EXPIRY returns to
the fallback reserve, posting RESERVE_LOST with the last reporter's port and that reserve. HOLD_EXPIRY of a held row
whose hold timer runs and has been reached stops that timer and recomputes, every held row whose hold expiry is reached
being expired in it (log 30); every other expiry changes nothing (log 3). -/
def Obligations.ReserveIsReportedAndLost : Prop :=
  (∀ (p : Port) (tag : Byte) (points : BitVec 16) (s : State), s.hears p .reserve → s.offers = [] →
    (1000 < points.toNat →
      exec (.reserve p tag points) s = .next (s.respond p 0x0A tag ⟨.badValue, []⟩)) ∧
    (points.toNat ≤ 1000 →
      ∃ t : State, exec (.reserve p tag points) s =
          .next (t.respond p 0x0A tag ⟨.ok, bytes2 t.budget.ceiling ++ bytes2 t.budget.rows.granted⟩) ∧
        t.configuration = s.configuration ∧
        t.standing =
          { s.standing with
            reserve := points.toNat, source := .reported, reporter := some p, lease := some (s.mc.time + 500) } ∧
        t.budget.ceiling = points.toNat - s.budget.derate ∧ t.budget.derate = s.budget.derate ∧
        ∃ (b : Budget) (out : List Offer), t = ((s.setBudget b).emit out).settle ∧
          (s.budget.source = .fallback → .post .reserveBack (portNumber p) points.toNat ∈ out) ∧
          (s.budget.source = .reported → ∀ n v, .post .reserveBack n v ∉ out))) ∧
  ∀ (s : State) (e : Time), s.offers = [] →
    (s.budget.leaseExpiry = none ∨ s.budget.leaseExpiry = some e ∧ reached s.mc.time e = false →
      exec .reserveLeaseExpiry s = .next s) ∧
    (s.budget.leaseExpiry = some e → reached s.mc.time e = true →
      ∃ t : State, exec .reserveLeaseExpiry s = .next t ∧ t.configuration = s.configuration ∧
        t.standing =
          { s.standing with reserve := s.budget.coefficients.fallback, source := .fallback, lease := none } ∧
        t.budget.ceiling = s.budget.coefficients.fallback - s.budget.derate ∧
        ∃ (b : Budget) (out : List Offer), t = ((s.setBudget b).emit out).settle ∧
          ∀ q, s.budget.lastReporter = some q →
            .post .reserveLost (portNumber q) s.budget.coefficients.fallback ∈ out) ∧
    ∀ c, (((s.budget.rows.get c).state ≠ .held ∨ (s.budget.rows.get c).holdTimer = false ∨
          (s.budget.rows.get c).holdExpiry = none ∨
          (s.budget.rows.get c).holdExpiry = some e ∧ reached s.mc.time e = false) →
        exec (.holdExpiry c) s = .next s) ∧
      ((s.budget.rows.get c).state = .held → (s.budget.rows.get c).holdTimer = true →
        (s.budget.rows.get c).holdExpiry = some e → reached s.mc.time e = true →
        ∃ rows : BudgetRows,
          (∀ d, rows.get d =
            { s.budget.rows.get d with
              holdTimer := (s.budget.rows.get d).holdTimer && decide (d ≠ c)
              holdOver := (s.budget.rows.get d).holdOver ||
                (decide ((s.budget.rows.get d).state = .held) && due s.mc.time (s.budget.rows.get d).holdExpiry) }) ∧
          exec (.holdExpiry c) s =
            .next (s.withBudget (Budget.recompute { s.budget with rows := rows } s.mc.time)).settle)

/-! ### Travel governor (08) -/

/-- TRAVEL outside −12000..12000 gets BAD_VALUE, from a station that does not hold TRAVEL NOT_HOLDER, in HALTED and
SERVICE WRONG_MODE, in that order. An accepted one makes the request the speed sent, starts the lease, raises no
command, clears the reverse-blocked latch at a request of 0 or above, and is answered with state, command and ceiling;
one that repeats the request in force renews the lease and changes nothing else. TRAVEL_LEASE_EXPIRY makes the request 0
and stops the lease, posting LEASE_EXPIRED with the holder's port and the lapsed request. LIFT_WAIT_EXPIRY in
DIRECTION_HOLD heading for reverse enters STANDSTILL with the reverse-blocked latch set, posting REVERSE_BLOCKED with 0
and the implements that are not lift-confirmed. Neither changes anything while its timer does not run or has not been
reached (log 3). -/
def Obligations.TravelRequestIsSetAndTimesOut : Prop :=
  (∀ (p : Port) (tag : Byte) (speed : BitVec 16) (s : State), s.hears p .travel → s.offers = [] →
    (speed.toInt < -12000 ∨ 12000 < speed.toInt →
      exec (.travel p tag speed) s = .next (s.respond p 0x03 tag ⟨.badValue, []⟩)) ∧
    (-12000 ≤ speed.toInt → speed.toInt ≤ 12000 →
      ((s.mc.claims.get .travel).holder ≠ some p →
        exec (.travel p tag speed) s = .next (s.respond p 0x03 tag ⟨.notHolder, []⟩)) ∧
      ((s.mc.claims.get .travel).holder = some p → s.mc.mode.configurable = true →
        exec (.travel p tag speed) s = .next (s.respond p 0x03 tag ⟨.wrongMode, []⟩)) ∧
      ((s.mc.claims.get .travel).holder = some p → s.mc.mode.configurable = false →
        ∃ t : State, exec (.travel p tag speed) s =
            .next (t.respond p 0x03 tag
              ⟨.ok, byte t.governor.state.number :: (bytes2s t.governor.command ++ bytes2 t.governor.ceiling)⟩) ∧
          Kept s t ∧ t.governor.request = speed.toInt ∧
          t.governor.leaseExpiry = some (s.mc.time + BitVec.ofNat 32 s.governor.settings.lease) ∧
          t.governor.command.natAbs ≤ s.governor.command.natAbs ∧
          (0 ≤ speed.toInt → speed.toInt ≠ s.governor.request → t.governor.reverseBlocked = false) ∧
          (speed.toInt = s.governor.request →
            t = s.setGovernor
              { s.governor with
                leaseExpiry := some (s.mc.time + BitVec.ofNat 32 s.governor.settings.lease) })))) ∧
  ∀ (s : State) (e : Time), s.offers = [] →
    (s.governor.leaseExpiry = none ∨ s.governor.leaseExpiry = some e ∧ reached s.mc.time e = false →
      exec .travelLeaseExpiry s = .next s) ∧
    (s.governor.leaseExpiry = some e → reached s.mc.time e = true →
      ∃ t : State, exec .travelLeaseExpiry s = .next t ∧ Kept s t ∧ t.governor.request = 0 ∧
        t.governor.leaseExpiry = none ∧ t.governor.reverseBlocked = false ∧
        t.governor.command.natAbs ≤ s.governor.command.natAbs ∧
        ∃ (g : Governor) (out : List Offer), t = ((s.setGovernor g).emit out).settle ∧
          ∀ q, (s.mc.claims.get .travel).holder = some q →
            .post .leaseExpired (portNumber q) s.governor.request ∈ out) ∧
    (s.governor.liftWait = none ∨ s.governor.liftWait = some e ∧ reached s.mc.time e = false ∨
        s.governor.state ≠ .directionHold .reverse →
      exec .liftWaitExpiry s = .next s) ∧
    (s.governor.liftWait = some e → reached s.mc.time e = true → s.governor.state = .directionHold .reverse →
      ∃ t : State, exec .liftWaitExpiry s = .next t ∧ Kept s t ∧ t.governor.state = .standstill ∧
        t.governor.liftWait = none ∧ t.governor.reverseBlocked = true ∧
        t.governor.request = s.governor.request ∧
        ∃ (g : Governor) (out : List Offer), t = ((s.setGovernor g).emit out).settle ∧
          .post .reverseBlocked 0 s.governor.copies.implements.unconfirmed ∈ out)

/-- The state table of a request's sign: STANDSTILL, FORWARD, REVERSE, STOPPING, DIRECTION_HOLD by heading. Entering
DIRECTION_HOLD heading for reverse sets the lift-for-reverse flag, offered if it was clear, and starts the lift wait of
3000 ms when the command is 0; leaving it stops the wait. The command and the request are left alone. Lift-confirmed:
each arm STOWED, RAISED, or FAULT with its LIFT position not failed, the main broom UP or FAULT likewise; the implements
that are not, added: 1, 2 and 4. An implement offer that ends it in REVERSE brings STANDSTILL, the latch and
REVERSE_BLOCKED with subject 1. -/
def Obligations.RequestSignMovesTheGovernor : Prop :=
  (∀ (r : ImplementReport) (l m n : Nat),
    l = (if r.armL = .stowed ∨ r.armL = .raised ∨ r.armL = .fault ∧ r.liftLFailed = false then 0 else 1) →
    m = (if r.armR = .stowed ∨ r.armR = .raised ∨ r.armR = .fault ∧ r.liftRFailed = false then 0 else 1) →
    n = (if r.main = .up ∨ r.main = .fault ∧ r.liftMFailed = false then 0 else 1) →
    (r.liftConfirmed = true ↔ l = 0 ∧ m = 0 ∧ n = 0) ∧ r.unconfirmed = l + 2 * m + 4 * n) ∧
  (∀ (s : State) (r : ImplementReport), s.governor.copies.implements.liftConfirmed = true →
    r.liftConfirmed = false → s.governor.state = .reverse →
    ∃ (g : Governor) (out : List Offer), deliver (.governorImplements r) s = (s.setGovernor g).emit out ∧
      g.state = .standstill ∧ g.command = 0 ∧ g.target = 0 ∧ g.reverseBlocked = true ∧
      g.copies = { s.governor.copies with implements := r } ∧ .post .reverseBlocked 1 r.unconfirmed ∈ out) ∧
  ∀ (g : Governor) (now : Time) (sign : Int),
    (g.takeSign now sign).val.command = g.command ∧ (g.takeSign now sign).val.request = g.request ∧
    (sign = 0 →
      (g.takeSign now sign).val.state =
        (if g.state = .standstill ∨ g.state = .stopping then g.state
         else if g.command = 0 then .standstill else .stopping)) ∧
    (0 < sign →
      (g.takeSign now sign).val.state =
        (match g.state with
          | .standstill => if g.copies.direction = .reverse then .directionHold .forward else .forward
          | .forward => .forward
          | .reverse => .directionHold .forward
          | .stopping => if g.command < 0 then .directionHold .forward else .forward
          | .directionHold .forward => .directionHold .forward
          | .directionHold .reverse => .forward)) ∧
    (sign < 0 →
      (g.takeSign now sign).val.state =
        (match g.state with
          | .standstill => .directionHold .reverse
          | .forward => .directionHold .reverse
          | .reverse => .reverse
          | .stopping => if g.command < 0 then .reverse else .directionHold .reverse
          | .directionHold .forward =>
            if g.command < 0 ∨ g.copies.implements.liftConfirmed = true then .reverse else .directionHold .reverse
          | .directionHold .reverse => .directionHold .reverse)) ∧
    ((g.takeSign now sign).val.state = .directionHold .reverse → g.state ≠ .directionHold .reverse →
      (g.takeSign now sign).val.liftForReverse = true ∧
        (g.takeSign now sign).out = (if g.liftForReverse then [] else [.liftForReverse true]) ∧
        (g.takeSign now sign).val.liftWait = if g.command = 0 then some (now + 3000) else none) ∧
    (g.state = .directionHold .reverse → (g.takeSign now sign).val.state ≠ .directionHold .reverse →
      (g.takeSign now sign).val.liftWait = none ∧ (g.takeSign now sign).out = [])

/-- The travel ceiling: 0 outside the working modes, at a stop trip, and in reverse without the implements
lift-confirmed; otherwise the least of 12000, the creep speed while it applies, the grant speed while the grant is
below the demand, and the direction cap. The limiting term is the first of the terms, in the order of its field, whose
value it is. The grade term is the effective grade above 0 by Cg over 100, an absent grade counting as 0. At every
re-derivation a command above the ceiling is cut to it; the target is the base target under the ceiling, with the sign
of FORWARD or REVERSE and 0 elsewhere; the demand is 0 with the base target, else base target by Ct over 1000 and the
grade term, at most 1000, offered when it changes. The base target is the request's magnitude under every term but the
grant speed, less a tenth for each traction-cut level. The offers that replace one copy re-derive. That the ceiling is
derived again after a cut, and target and demand after it, is read from R124 to R128 (log 9). -/
def Obligations.CeilingIsTheLeastTerm : Prop :=
  (∀ (g : Governor) (rev creeps grants : Bool) (grade grant cap : Nat),
    rev = (match g.state with
      | .forward => false
      | .reverse => true
      | .standstill | .stopping | .directionHold _ => decide (g.command < 0)) →
    grade = ((max 0 (if rev then -(g.copies.grade.getD 0) else g.copies.grade.getD 0)) * g.copies.cg / 100).toNat →
    grant = (g.copies.grant - grade) * 1000 / g.copies.ct →
    cap = (if g.copies.mode = .transport then g.copies.transportCap
      else if rev then g.copies.revCap else min g.copies.speedCap g.copies.fwdCap) →
    creeps = decide (g.copies.stale = true ∨ g.copies.ground = .lost ∨ g.copies.implements.outL = true ∨
      g.copies.implements.outR = true) →
    grants = decide (g.copies.grant < g.demand ∧ g.copies.ct ≠ 0) →
    (g.copies.mode.working = false → g.ceilingNow = (.mode, 0)) ∧
    (g.copies.mode.working = true →
      (g.copies.stopTravel = true → g.ceilingNow = (.stopTrip, 0)) ∧
      (g.copies.stopTravel = false →
        (rev = true → g.copies.implements.liftConfirmed = false → g.ceilingNow = (.interlock, 0)) ∧
        (rev = false ∨ g.copies.implements.liftConfirmed = true →
          g.ceilingNow.2 =
            min 12000 (min (if creeps then g.settings.creep else 12000) (min (if grants then grant else 12000) cap)) ∧
          g.ceilingNow.1 =
            (if creeps = true ∧ g.ceilingNow.2 = g.settings.creep then .creep
             else if grants = true ∧ g.ceilingNow.2 = grant then .grant else .direction))))) ∧
  (∀ (g v : Governor) (now : Time) (out : List Offer) (rev : Bool) (least base : Nat),
    g.rederive now = ⟨v, out⟩ → rev = decide (g.state = .reverse) →
    least =
      (if g.copies.mode.working = false ∨ g.copies.stopTravel = true ∨
          rev = true ∧ g.copies.implements.liftConfirmed = false then 0
       else
        min 12000
          (min (if g.copies.stale = true ∨ g.copies.ground = .lost ∨ g.copies.implements.outL = true ∨
              g.copies.implements.outR = true then g.settings.creep else 12000)
            (if g.copies.mode = .transport then g.copies.transportCap
             else if rev then g.copies.revCap else min g.copies.speedCap g.copies.fwdCap))) →
    base =
      (if g.state = .forward ∨ g.state = .reverse then min g.request.natAbs least else 0) * (10 - g.cutLevel) / 10 →
    v.state = g.state ∧ v.request = g.request ∧ v.copies = g.copies ∧
    v.command = (if g.ceilingNow.2 < g.command.natAbs then signed g.command g.ceilingNow.2 else g.command) ∧
    (v.limiting, v.ceiling) = ({ g with command := v.command } : Governor).ceilingNow ∧
    v.target = (if rev then -(min base v.ceiling : Nat) else (min base v.ceiling : Nat) : Int) ∧
    v.demand =
      (if base = 0 then 0
       else
        min 1000 (base * g.copies.ct / 1000 +
          ((max 0 (if rev then -(g.copies.grade.getD 0) else g.copies.grade.getD 0)) * g.copies.cg / 100).toNat)) ∧
    out = if v.demand = g.demand then [] else [.demand .travel v.demand]) ∧
  ∀ (s : State) (o : Offer) (c : TravelCopies) (x : Option Int) (b : Bool) (n m : Nat) (r : GrantCopy) (l : Limits),
    (o, c) ∈
      [(Offer.governorGrade x, { s.governor.copies with grade := x }),
        (.governorStale b, { s.governor.copies with stale := b }),
        (.governorStop b, { s.governor.copies with stopTravel := b }),
        (.governorCap n, { s.governor.copies with speedCap := n }),
        (.governorCoefficients n m, { s.governor.copies with ct := n, cg := m }),
        (.governorGrant r, { s.governor.copies with grant := r.grant }),
        (.governorLimits l,
          { s.governor.copies with fwdCap := l.fwdCap, revCap := l.revCap, transportCap := l.transportCap })] →
    deliver o s = s.withGovernor (Governor.rederive { s.governor with copies := c } s.mc.time)

/-- RAMP_STEP, when its timer has been reached: the command moves toward the target by the ramp and is cut to the
ceiling as it then stands; the coils follow it by the drive map; at a command of 0 STOPPING ends in STANDSTILL and
DIRECTION_HOLD makes the begin test, heading for reverse with the lift wait running; the timer goes on for 10 ms
from its expiry (log 28). With no timer, or before it has been reached, it changes nothing (the model's choice,
log 3). A command that a cut has brought to 0 before the step counts as one that reaches 0 at it (the model's choice,
log 42). -/
def Obligations.RampStepMovesTheCommand : Prop :=
  ∀ (s : State) (e : Time), s.offers = [] →
    (s.governor.rampTimer = none ∨ s.governor.rampTimer = some e ∧ reached s.mc.time e = false →
      exec .rampStep s = .next s) ∧
    ∀ moved : Int, s.governor.rampTimer = some e → reached s.mc.time e = true →
      moved =
        (if s.governor.command.natAbs < s.governor.target.natAbs then
          signed s.governor.target (min s.governor.target.natAbs
            (s.governor.command.natAbs + s.governor.settings.rampUp * 10 / 1000))
         else if s.governor.target.natAbs < s.governor.command.natAbs then
          signed s.governor.command (max s.governor.target.natAbs
            (s.governor.command.natAbs - s.governor.settings.rampDown * 10 / 1000))
         else s.governor.command) →
      ∃ (g : Governor) (out : List Offer),
        exec .rampStep s = .next (((s.setGovernor g).emit out).settle) ∧
        g.rampTimer = some (e + 10) ∧ g.settings = s.governor.settings ∧ g.map = s.governor.map ∧
        g.request = s.governor.request ∧ g.leaseExpiry = s.governor.leaseExpiry ∧
        g.cutLevel = s.governor.cutLevel ∧ g.copies = s.governor.copies ∧
        g.reverseBlocked = s.governor.reverseBlocked ∧
        g.command =
          (if ({ s.governor with command := moved } : Governor).ceilingNow.2 < moved.natAbs then
            signed moved ({ s.governor with command := moved } : Governor).ceilingNow.2 else moved) ∧
        g.driveFwd =
          (if g.command ≤ 0 then 0
           else if g.map.fullSpeed ≤ g.command.natAbs then g.map.full
           else g.map.start + (g.map.full - g.map.start) * g.command.natAbs / g.map.fullSpeed) ∧
        g.driveRev =
          (if 0 ≤ g.command then 0
           else if g.map.fullSpeed ≤ g.command.natAbs then g.map.full
           else g.map.start + (g.map.full - g.map.start) * g.command.natAbs / g.map.fullSpeed) ∧
        (moved = 0 →
          (s.governor.state = .stopping → g.state = .standstill) ∧
          (s.governor.state = .directionHold .forward →
            g.state = if s.governor.copies.motorSpeed = 0 then .forward else .directionHold .forward) ∧
          (s.governor.state = .directionHold .reverse →
            (s.governor.copies.motorSpeed = 0 ∧ s.governor.copies.implements.liftConfirmed = true →
              g.state = .reverse ∧ g.liftWait = none) ∧
            (¬(s.governor.copies.motorSpeed = 0 ∧ s.governor.copies.implements.liftConfirmed = true) →
              g.state = .directionHold .reverse ∧
                g.liftWait =
                  if s.governor.liftWait = none then some (s.mc.time + 3000) else s.governor.liftWait))) ∧
        (moved ≠ 0 → s.governor.state = .forward → g.liftForReverse = false ∧ g.state = .forward)

/-- The slip windows at a window end: an armed governor opens one; an open one takes in the slip ratio; at 200 ms or
more it closes, is judged, and the next opens. Every ratio above the limit raises the traction-cut level, to at
most 5, with TRACTION_CUT; every ratio at or below it lowers the level, with TRACTION_RESTORED at 0. A HALTED or
SERVICE offer makes the level 0, with TRACTION_RESTORED if it was not, and abandons the window. -/
def Obligations.SlipWindowsMoveTheTractionCut : Prop :=
  (∀ (s : State) (m : Mode), m.working = false →
    ∃ (g : Governor) (out : List Offer), deliver (.governorMode m) s = (s.setGovernor g).emit out ∧
      g.cutLevel = 0 ∧ g.slipWindow = none ∧ g.slipArmed = false ∧
      (s.governor.cutLevel ≠ 0 → .post .tractionRestored 0 0 ∈ out) ∧
      (s.governor.cutLevel = 0 → ∀ n v, .post .tractionRestored n v ∉ out)) ∧
  ∀ (g : Governor) (now : Time),
    (g.slipWindow = none → g.slipArmed = false → g.slipWindowEnd now = ⟨g, []⟩) ∧
    (g.slipWindow = none → g.slipArmed = true →
      g.slipWindowEnd now = ⟨{ g with slipWindow := some ⟨now, true, true⟩, slipArmed := false }, []⟩) ∧
    ∀ w above below, g.slipWindow = some w →
      above = (w.allAbove && decide (g.settings.slipLimit < g.copies.slip)) →
      below = (w.allBelow && decide (g.copies.slip ≤ g.settings.slipLimit)) →
      ((now - w.opened).toNat < 200 →
        g.slipWindowEnd now = ⟨{ g with slipWindow := some ⟨w.opened, above, below⟩ }, []⟩) ∧
      (200 ≤ (now - w.opened).toNat →
        (above = true → g.cutLevel < 5 →
          g.slipWindowEnd now =
            ⟨{ g with slipWindow := some ⟨now, true, true⟩, cutLevel := g.cutLevel + 1 },
              [.post .tractionCut 0 (g.cutLevel + 1)]⟩) ∧
        (above = false → below = true → 0 < g.cutLevel →
          g.slipWindowEnd now =
            ⟨{ g with slipWindow := some ⟨now, true, true⟩, cutLevel := g.cutLevel - 1 },
              if g.cutLevel = 1 then [.post .tractionRestored 0 0] else []⟩) ∧
        ((above = true → 5 ≤ g.cutLevel) → (below = true → g.cutLevel = 0) →
          g.slipWindowEnd now = ⟨{ g with slipWindow := some ⟨now, true, true⟩ }, []⟩))

/-! ### Implement sequencer (09) -/

/-- ARM and BROOM of the IMPLEMENTS holder set the command of the implement they name and no other, and are answered
with its state afterwards; a side above 1 or an unknown command gets BAD_VALUE, another station NOT_HOLDER. What the
arms and the main broom make of the new command at once is ArmsAndBroomFollowTheirWishes'. -/
def Obligations.ArmAndBroomTakeCommands : Prop :=
  ∀ (p : Port) (tag side command : Byte) (s : State), s.offers = [] →
    (s.hears p .arm →
      (2 ≤ side.toNat ∨ 3 ≤ command.toNat →
        exec (.arm p tag side command) s = .next (s.respond p 0x0B tag ⟨.badValue, []⟩)) ∧
      ∀ x c, side.toNat = sideNumber x → command.toNat = c.number →
        ((s.mc.claims.get .implements).holder ≠ some p →
          exec (.arm p tag side command) s = .next (s.respond p 0x0B tag ⟨.notHolder, []⟩)) ∧
        ((s.mc.claims.get .implements).holder = some p →
          ∃ t : State, exec (.arm p tag side command) s =
              .next (t.respond p 0x0B tag ⟨.ok, [byte (t.sequencer.arm x).state.number]⟩) ∧ Kept s t ∧
            (t.sequencer.arm x).command = c ∧ t.sequencer.main.command = s.sequencer.main.command ∧
            (∀ y, y ≠ x → (t.sequencer.arm y).command = (s.sequencer.arm y).command) ∧
            t =
              (s.withSequencer (s.sequencer.event
                (s.sequencer.setArm x { s.sequencer.arm x with command := c }) s.moment)).settle)) ∧
    (s.hears p .broom →
      (2 ≤ command.toNat → exec (.broom p tag command) s = .next (s.respond p 0x0C tag ⟨.badValue, []⟩)) ∧
      ∀ c, (c = .auto ∧ command = 0 ∨ c = .up ∧ command = 1) →
        ((s.mc.claims.get .implements).holder ≠ some p →
          exec (.broom p tag command) s = .next (s.respond p 0x0C tag ⟨.notHolder, []⟩)) ∧
        ((s.mc.claims.get .implements).holder = some p →
          ∃ t : State, exec (.broom p tag command) s =
              .next (t.respond p 0x0C tag ⟨.ok, [byte t.sequencer.main.state.number]⟩) ∧ Kept s t ∧
            t.sequencer.main.command = c ∧
            (∀ y, (t.sequencer.arm y).command = (s.sequencer.arm y).command) ∧
            t =
              (s.withSequencer (s.sequencer.event
                { s.sequencer with main := { s.sequencer.main with command := c } } s.moment)).settle))

/-- What the arms and the main broom make, in the working modes, of an event that replaces a copy or a command. An arm
wanted out that gains a lift cause: swinging out or waiting to retry, its motion is ABORTED with that cause and it is
RAISED; lowered, it is RAISING, a yield motion ABORTED. One that becomes wanted in: attempts 0; swinging out or retrying
that, the motion is ABORTED for the stow request and it is SWINGING_IN with a new motion; lowered, RAISING; RAISED,
SWINGING_IN. One that becomes wanted out: attempts 0; swinging in or retrying that, the motion is ABORTED, and it is
SWINGING_OUT with a new motion, or RAISED under a lift cause; RAISING, it swings out unless under a cause. STOWED and
RAISED are left as soon as the arm is wanted out without a cause: from RAISED to LOWERING if deployed, else to
SWINGING_OUT. In every other state, and outside the working modes, the arm's course stays. The main broom is LOWERING
for 800 ms from UP when wanted down, LIFTING for 800 ms from LOWERING and DOWN when not. The events: LIFT_ARMS,
lift-for-reverse, the three budget rows, limits, coefficients, a working mode, a new holder of IMPLEMENTS. -/
def Obligations.ArmsAndBroomFollowTheirWishes : Prop :=
  (∀ (old q v : Sequencer) (t : Moment) (out : List Offer), old.event q t = ⟨v, out⟩ →
    (q.mode.working = false → (∀ x, (q.arm x).stays (v.arm x) ∧ (v.arm x).attempts = (q.arm x).attempts) ∧
      v.main.state = q.main.state ∧ v.main.timer = q.main.timer) ∧
    (q.mode.working = true →
      (∀ x a b, a = q.arm x → b = v.arm x →
        (old.wishedOut x → q.wishedOut x →
          (∀ c, old.gains q x c →
            b.attempts = a.attempts ∧
            (a.state = .swingingOut ∨ a.state = .retryWait →
              a.records b x t .aborted (some c) out ∧ b.entered .raised none none) ∧
            (a.state = .lowering ∨ a.state = .working →
              b.entered .raising (some (t.now + 600)) a.motion ∧ b.outcomes = a.outcomes) ∧
            (a.state = .yielding →
              a.records b x t .aborted (some c) out ∧ b.entered .raising (some (t.now + 600)) none) ∧
            (a.state = .stowed ∨ a.state = .raising ∨ a.state = .raised ∨ a.state = .fault → a.stays b)) ∧
          ((q.liftForReverse = true → old.liftForReverse = true) → (q.liftArms = true → old.liftArms = true) →
            (a.row.state = .held → (old.arm x).row.state = .held) →
            b.attempts = a.attempts ∧ b.outcomes = a.outcomes ∧
            (a.state = .stowed ∧ ¬ q.caused x ∨
                a.state = .raised ∧ ¬ q.caused x ∧ (∀ p, a.position = some p → p < (a.reach : Int) - 20) →
              b.entered .swingingOut (some (t.now + BitVec.ofNat 32 a.settings.swingLimit))
                (some ⟨.swingOut, t.now, a.attempts⟩)) ∧
            (∀ p, a.state = .raised → ¬ q.caused x → a.position = some p → (a.reach : Int) - 20 ≤ p →
              b.entered .lowering (some (t.now + 600)) a.motion) ∧
            (a.state ≠ .stowed ∧ a.state ≠ .raised ∨ q.caused x → a.stays b))) ∧
        (old.wishedOut x → ¬ q.wishedOut x →
          b.attempts = 0 ∧
          (a.state = .swingingOut ∨ a.state = .retryWait ∧ (∀ m, a.motion = some m → m.kind ≠ .swingIn) →
            a.records b x t .aborted (some .stowRequest) out ∧
              b.entered .swingingIn (some (t.now + BitVec.ofNat 32 a.settings.swingLimit))
                (some ⟨.swingIn, t.now, 0⟩)) ∧
          (a.state = .lowering ∨ a.state = .working →
            b.entered .raising (some (t.now + 600)) a.motion ∧ b.outcomes = a.outcomes) ∧
          (a.state = .yielding →
            a.records b x t .aborted (some .stowRequest) out ∧ b.entered .raising (some (t.now + 600)) none) ∧
          (a.state = .raised →
            b.entered .swingingIn (some (t.now + BitVec.ofNat 32 a.settings.swingLimit))
              (some ⟨.swingIn, t.now, 0⟩) ∧ b.outcomes = a.outcomes) ∧
          (a.state = .stowed ∨ a.state = .swingingIn ∨ a.state = .fault ∨ a.state = .raising ∨
              a.state = .retryWait ∧ (∃ m, a.motion = some m ∧ m.kind = .swingIn) → a.stays b)) ∧
        (¬ old.wishedOut x → q.wishedOut x →
          b.attempts = 0 ∧
          (a.state = .swingingIn ∨ a.state = .retryWait ∧ (∃ m, a.motion = some m ∧ m.kind = .swingIn) →
            a.records b x t .aborted (some .stowRequest) out ∧
            (q.caused x → b.entered .raised none none) ∧
            (¬ q.caused x →
              b.entered .swingingOut (some (t.now + BitVec.ofNat 32 a.settings.swingLimit))
                (some ⟨.swingOut, t.now, 0⟩))) ∧
          (¬ q.caused x →
            (a.state = .raising ∨ a.state = .stowed ∨
                a.state = .raised ∧ (∀ p, a.position = some p → p < (a.reach : Int) - 20) →
              b.outcomes = a.outcomes ∧
                b.entered .swingingOut (some (t.now + BitVec.ofNat 32 a.settings.swingLimit))
                  (some ⟨.swingOut, t.now, 0⟩)) ∧
            ∀ p, a.state = .raised → a.position = some p → (a.reach : Int) - 20 ≤ p →
              b.entered .lowering (some (t.now + 600)) a.motion ∧ b.outcomes = a.outcomes) ∧
          (q.caused x ∧ (a.state = .raising ∨ a.state = .stowed ∨ a.state = .raised) ∨ a.state = .swingingOut ∨
              a.state = .lowering ∨ a.state = .working ∨ a.state = .yielding ∨ a.state = .fault ∨
              a.state = .retryWait ∧ (∀ m, a.motion = some m → m.kind ≠ .swingIn) → a.stays b)) ∧
        (¬ old.wishedOut x → ¬ q.wishedOut x → a.stays b ∧ b.attempts = a.attempts)) ∧
      ∀ down : Bool,
        (down = true ↔ q.mode = .sweep ∧ q.main.command = .auto ∧ q.liftForReverse = false ∧ q.liftArms = false ∧
          q.main.row.state ≠ .held) →
        (q.main.state = .up → down = true →
          v.main.state = .lowering ∧ v.main.timer = some (t.now + 800) ∧ v.main.lift = true ∧ v.main.broom = 0) ∧
        (q.main.state = .lowering ∨ q.main.state = .down → down = false →
          v.main.state = .lifting ∧ v.main.timer = some (t.now + 800) ∧ v.main.lift = false ∧ v.main.broom = 0) ∧
        ((q.main.state = .up → down = false) → (q.main.state = .lowering ∨ q.main.state = .down → down = true) →
          v.main.state = q.main.state ∧ v.main.timer = q.main.timer ∧ v.main.lift = q.main.lift))) ∧
  ∀ (s : State) (o : Offer) (q : Sequencer) (b : Bool) (m l r : GrantCopy) (k : Limits) (n i : Nat) (d : Mode),
    (o, q) ∈
      [(Offer.sequencerLift b, { s.sequencer with liftArms := b }),
        (.liftForReverse b, { s.sequencer with liftForReverse := b }),
        (.sequencerGrants m l r,
          { s.sequencer with
            main := { s.sequencer.main with row := m }, left := { s.sequencer.left with row := l },
            right := { s.sequencer.right with row := r } }),
        (.sequencerLimits k,
          { s.sequencer with
            armPressMax := k.armPressMax, mainRpmMax := k.mainRpmMax, sideRpmMax := k.sideRpmMax }),
        (.sequencerCoefficients n i, { s.sequencer with cm := n, cb := i }),
        (.holderChanged .implements,
          { s.sequencer with
            left := { s.sequencer.left with command := .auto }, right := { s.sequencer.right with command := .auto },
            main := { s.sequencer.main with command := .auto } })] ∨
      o = .sequencerMode d ∧ d.working = true ∧ q = { s.sequencer with mode := d } →
    deliver o s = s.withSequencer (s.sequencer.event q s.moment)

/-- The expiries of an arm's swing timer, retry wait and yield time, in the working modes and in the state whose timer
it is: what the arm becomes, before the other blocks answer. A failed swing or yield adds an attempt and, within the
retry limit, is TIMED_OUT and tried again; past it the arm is in FAULT, and the motion is FAULTED. A publish gives the
arms their positions and pressures. In the working modes an arm swinging out that is deployed, at its reach less 20 or
above, records DONE and is LOWERING; one swinging in at 50 or below records DONE and is STOWED; one WORKING below its
reach less 60 is YIELDING, with a new motion; one yielding and deployed records DONE and is WORKING; no other moves, and
none without a position. A profile offer with a new reach tests a WORKING arm so, if it leaves the arm wanted out as it
was (one that makes it wanted in is taken first, the model's choice, log 43). -/
def Obligations.ArmTimersAndPublishesMoveTheArm : Prop :=
  (∀ (s : State) (posL posR pressL pressR : Option Int),
    ∃ (q : Sequencer) (out : List Offer),
      deliver (.sequencerMeasures posL posR pressL pressR) s = (s.setSequencer q).emit out ∧
      q.left.pressure = pressL ∧ q.right.pressure = pressR ∧ q.main.state = s.sequencer.main.state ∧
      ∀ x pos a b, pos = (match x with | .left => posL | .right => posR) → a = s.sequencer.arm x → b = q.arm x →
        b.position = pos ∧
        (s.sequencer.mode.working = false ∨ pos = none → a.stays b ∧ b.attempts = a.attempts) ∧
        (s.sequencer.mode.working = true → ∀ p, pos = some p →
          (a.state = .swingingOut → (a.reach : Int) - 20 ≤ p →
            a.records b x s.moment .done none out ∧ b.entered .lowering (some (s.mc.time + 600)) none ∧
              b.attempts = a.attempts) ∧
          (a.state = .swingingIn → p ≤ 50 →
            a.records b x s.moment .done none out ∧ b.entered .stowed none none ∧ b.attempts = 0) ∧
          (a.state = .working → p < (a.reach : Int) - 60 →
            b.entered .yielding (some (s.mc.time + 3000)) (some ⟨.yield, s.mc.time, a.attempts⟩) ∧
              b.outcomes = a.outcomes ∧ b.attempts = a.attempts ∧ b.press = a.press) ∧
          (a.state = .yielding → (a.reach : Int) - 20 ≤ p →
            a.records b x s.moment .done none out ∧ b.entered .working none none ∧ b.attempts = 0 ∧
              b.press = a.press) ∧
          ((a.state = .swingingOut ∨ a.state = .yielding → p < (a.reach : Int) - 20) →
            (a.state = .swingingIn → 50 < p) → (a.state = .working → (a.reach : Int) - 60 ≤ p) →
            a.stays b ∧ b.attempts = a.attempts))) ∧
  (∀ (s : State) (r : Profile), s.sequencer.mode.working = true →
    ∃ (q : Sequencer) (out : List Offer), deliver (.sequencerProfile r) s = (s.setSequencer q).emit out ∧
      q.left.reach = r.reachL ∧ q.right.reach = r.reachR ∧ q.pressTarget = r.pressTarget ∧ q.mainRpm = r.mainRpm ∧
      q.sideRpm = r.sideRpm ∧ q.armsUsed = r.armsUsed ∧
      ∀ x reach a b p, reach = (match x with | .left => r.reachL | .right => r.reachR) → a = s.sequencer.arm x →
        b = q.arm x → a.state = .working → a.position = some p →
        ((s.sequencer.wishedOut x ↔ { s.sequencer with armsUsed := r.armsUsed }.wishedOut x) →
          (reach ≠ a.reach ∧ p < (reach : Int) - 60 →
            b.entered .yielding (some (s.mc.time + 3000)) (some ⟨.yield, s.mc.time, a.attempts⟩) ∧
              b.outcomes = a.outcomes ∧ b.attempts = a.attempts ∧ b.press = a.press) ∧
          (reach = a.reach ∨ (reach : Int) - 60 ≤ p → a.stays b ∧ b.attempts = a.attempts)) ∧
        (s.sequencer.wishedOut x → ¬ { s.sequencer with armsUsed := r.armsUsed }.wishedOut x →
          b.entered .raising (some (s.mc.time + 600)) a.motion ∧ b.outcomes = a.outcomes)) ∧
  ∀ (s : State) (x : Side) (e : Time) (m : Motion), s.offers = [] → s.sequencer.mode.working = true →
    (s.sequencer.arm x).timer = some e → reached s.mc.time e = true → (s.sequencer.arm x).motion = some m →
    (∀ c k after, (c = Instr.swingTimerExpiry x ∧ (s.sequencer.arm x).state = .swingingOut ∧ k = .swingOut ∧
            after = ArmState.retryWait ∨
          c = .swingTimerExpiry x ∧ (s.sequencer.arm x).state = .swingingIn ∧ k = .swingIn ∧ after = .retryWait ∨
          c = .yieldTimeExpiry x ∧ (s.sequencer.arm x).state = .yielding ∧ k = MotionKind.yield ∧ after = .raising) →
      ∃ (q : Sequencer) (out : List Offer), exec c s = .next (((s.setSequencer q).emit out).settle) ∧
        q.mode = s.sequencer.mode ∧ (∀ y, y ≠ x → (q.arm y).state = (s.sequencer.arm y).state) ∧
        q.main.state = s.sequencer.main.state ∧ (q.arm x).attempts = (s.sequencer.arm x).attempts + 1 ∧
        (q.arm x).swing = 0 ∧ (q.arm x).lift = false ∧ (q.arm x).press = 0 ∧ (q.arm x).broom = 0 ∧
        ((s.sequencer.arm x).attempts + 1 ≤ (s.sequencer.arm x).settings.retryLimit →
          (q.arm x).state = after ∧
          (after = .retryWait →
            (q.arm x).timer = some (s.mc.time + BitVec.ofNat 32 (((s.sequencer.arm x).attempts + 1) * 250)) ∧
            (q.arm x).motion = some ⟨k, s.mc.time, (s.sequencer.arm x).attempts + 1⟩) ∧
          (after = .raising →
            (q.arm x).timer = some (s.mc.time + 600) ∧ (q.arm x).afterFail = true ∧ (q.arm x).motion = none) ∧
          (q.arm x).outcomes =
            (⟨m.kind, .timedOut, m.attempts, s.pulse.path, s.mc.time - m.openedAt, none⟩ ::
              (s.sequencer.arm x).outcomes).take 3 ∧
          .post .armOutcome (sideNumber x) ((1 + 4 * m.kind.number : Nat) : Int) ∈ out) ∧
        ((s.sequencer.arm x).settings.retryLimit < (s.sequencer.arm x).attempts + 1 →
          (q.arm x).state = .fault ∧ (q.arm x).fault = some .retryLimit ∧ (q.arm x).timer = none ∧
          (q.arm x).motion = none ∧
          (q.arm x).outcomes =
            (⟨m.kind, .faulted, m.attempts, s.pulse.path, s.mc.time - m.openedAt, none⟩ ::
              (s.sequencer.arm x).outcomes).take 3 ∧
          .post .armFault (sideNumber x) 0 ∈ out)) ∧
    ((s.sequencer.arm x).state = .retryWait →
      ∃ (q : Sequencer) (out : List Offer),
        exec (.retryWaitExpiry x) s = .next (((s.setSequencer q).emit out).settle) ∧
        (q.arm x).state = (if m.kind = .swingIn then .swingingIn else .swingingOut) ∧
        (q.arm x).swing =
          (if m.kind = .swingIn then -((s.sequencer.arm x).settings.swingDrive : Int)
           else (s.sequencer.arm x).settings.swingDrive) ∧
        (q.arm x).timer = some (s.mc.time + BitVec.ofNat 32 (s.sequencer.arm x).settings.swingLimit) ∧
        (q.arm x).motion = some m ∧ (q.arm x).attempts = (s.sequencer.arm x).attempts ∧
        (q.arm x).outcomes = (s.sequencer.arm x).outcomes ∧
        (∀ y, y ≠ x → (q.arm y).state = (s.sequencer.arm y).state) ∧ q.main.state = s.sequencer.main.state)

/-- LOWER_TIME_EXPIRY takes LOWERING to WORKING with the attempt count 0. LIFT_TIME_EXPIRY takes RAISING to SWINGING_IN
when the arm is not wanted out, to RETRY_WAIT after a failed attempt, to RAISED under a lift cause, and on to LOWERING
or SWINGING_OUT without one. The main broom's lower time takes LOWERING to DOWN, its lift time LIFTING to UP or back to
LOWERING. All this is before the other blocks answer. A broom turns at its target under a FULL row, under a TRIMMED one
at the grant by 1000 over the coefficient, at most the target, and under a HELD one not at all; at a coefficient of 0 at
the target, but under a HELD row at 0 (the model's choice, log 39). However an event of the sequencer goes, at its end
an arm's demand is its target by Cb over 1000 while LOWERING, WORKING or YIELDING, else 0, the main broom's likewise
with Cm while LOWERING or DOWN, a changed demand is offered, a broom coil is driven while WORKING, YIELDING or DOWN and
is 0 else, and states, reports and LIFT values are offered exactly when they have changed, or all of them at START. -/
def Obligations.LiftAndLowerTimesExpire : Prop :=
  (∀ (row : GrantCopy) (target k : Nat),
    (row.state = .full → broomRpm row target k = target) ∧
    (row.state = .trimmed →
      broomRpm row target k = if k = 0 then target else min target (row.grant * 1000 / k)) ∧
    (row.state = .held → broomRpm row target k = 0)) ∧
  (∀ (old q v : Sequencer) (all : Bool) (out : List Offer), old.finish q all = ⟨v, out⟩ →
    v = { q with
      left := { q.left with broom := v.left.broom, demand := v.left.demand }
      right := { q.right with broom := v.right.broom, demand := v.right.demand }
      main := { q.main with broom := v.main.broom, demand := v.main.demand } } ∧
    (∀ x, (v.arm x).demand =
      (if (q.arm x).state = .lowering ∨ (q.arm x).state = .working ∨ (q.arm x).state = .yielding then
        min q.sideRpm q.sideRpmMax * q.cb / 1000 else 0) ∧
      (v.arm x).broom =
        (if q.mode.working = false then (q.arm x).broom
         else if (q.arm x).state = .working ∨ (q.arm x).state = .yielding then
           broomRpm (q.arm x).row (min q.sideRpm q.sideRpmMax) q.cb
         else 0)) ∧
    v.main.demand =
      (if q.main.state = .lowering ∨ q.main.state = .down then min q.mainRpm q.mainRpmMax * q.cm / 1000 else 0) ∧
    v.main.broom =
      (if q.mode.working = false then q.main.broom
       else if q.main.state = .down then broomRpm q.main.row (min q.mainRpm q.mainRpmMax) q.cm else 0) ∧
    (∀ c n, .demand c n ∈ out ↔
      c = .armL ∧ n = v.left.demand ∧ n ≠ old.left.demand ∨ c = .armR ∧ n = v.right.demand ∧ n ≠ old.right.demand ∨
        c = .main ∧ n = v.main.demand ∧ n ≠ old.main.demand) ∧
    (∀ l r m, .chainLifts l r m ∈ out ↔
      l = q.left.lift ∧ r = q.right.lift ∧ m = q.main.lift ∧
        (all = true ∨ l ≠ old.left.lift ∨ r ≠ old.right.lift ∨ m ≠ old.main.lift)) ∧
    (∀ l r m, .modeImplements l r m ∈ out ↔
      l = q.left.state ∧ r = q.right.state ∧ m = q.main.state ∧
        (all = true ∨ l ≠ old.left.state ∨ r ≠ old.right.state ∨ m ≠ old.main.state)) ∧
    (∀ l r m, .waterImplements l r m ∈ out ↔ .modeImplements l r m ∈ out) ∧
    (∀ i, .governorImplements i ∈ out ↔ i = q.report ∧ (all = true ∨ i ≠ old.report)) ∧
    ∀ y : Sequencer, y.report.armL = y.left.state ∧ y.report.armR = y.right.state ∧ y.report.main = y.main.state ∧
      y.report.liftLFailed = y.left.liftFailed ∧ y.report.liftRFailed = y.right.liftFailed ∧
      y.report.liftMFailed = y.main.liftFailed ∧
      (y.report.outL = true ↔ y.left.state = .fault ∧ ∀ p, y.left.position = some p → 50 < p) ∧
      (y.report.outR = true ↔ y.right.state = .fault ∧ ∀ p, y.right.position = some p → 50 < p)) ∧
  ∀ (s : State) (x : Side) (e : Time), s.offers = [] → s.sequencer.mode.working = true →
    ((s.sequencer.arm x).timer = some e → reached s.mc.time e = true →
      ((s.sequencer.arm x).state = .lowering →
        ∃ (q : Sequencer) (out : List Offer),
          exec (.lowerTimeExpiry x) s = .next (((s.setSequencer q).emit out).settle) ∧
          (q.arm x).state = .working ∧ (q.arm x).attempts = 0 ∧ (q.arm x).timer = none ∧ (q.arm x).lift = true ∧
          (q.arm x).swing = 0 ∧
          (q.arm x).broom = broomRpm (s.sequencer.arm x).row (min s.sequencer.sideRpm s.sequencer.sideRpmMax)
            s.sequencer.cb ∧
          (∀ y, y ≠ x → (q.arm y).state = (s.sequencer.arm y).state) ∧ q.main.state = s.sequencer.main.state) ∧
      ((s.sequencer.arm x).state = .raising →
        ∃ (q : Sequencer) (out : List Offer),
          exec (.liftTimeExpiry x) s = .next (((s.setSequencer q).emit out).settle) ∧
          (∀ y, y ≠ x → (q.arm y).state = (s.sequencer.arm y).state) ∧ q.main.state = s.sequencer.main.state ∧
          (s.sequencer.wantedOut x = false →
            (q.arm x).state = .swingingIn ∧
            (q.arm x).motion = some ⟨.swingIn, s.mc.time, (s.sequencer.arm x).attempts⟩ ∧
            (q.arm x).timer = some (s.mc.time + BitVec.ofNat 32 (s.sequencer.arm x).settings.swingLimit)) ∧
          (s.sequencer.wantedOut x = true → (s.sequencer.armCauses x).any = true → (q.arm x).state = .raised) ∧
          (s.sequencer.wantedOut x = true → (s.sequencer.armCauses x).any = false →
            ((s.sequencer.arm x).afterFail = true →
              (q.arm x).state = .retryWait ∧
              (q.arm x).timer = some (s.mc.time + BitVec.ofNat 32 ((s.sequencer.arm x).attempts * 250)) ∧
              (q.arm x).motion = some ⟨.swingOut, s.mc.time, (s.sequencer.arm x).attempts⟩) ∧
            ((s.sequencer.arm x).afterFail = false →
              (q.arm x).state = if (s.sequencer.arm x).deployed then .lowering else .swingingOut)))) ∧
    (s.sequencer.main.timer = some e → reached s.mc.time e = true →
      (s.sequencer.main.state = .lowering →
        ∃ (q : Sequencer) (out : List Offer),
          exec .mainBroomLowerExpiry s = .next (((s.setSequencer q).emit out).settle) ∧
          q.main.state = .down ∧ q.main.timer = none ∧ q.main.lift = true ∧
          q.main.broom =
            broomRpm s.sequencer.main.row (min s.sequencer.mainRpm s.sequencer.mainRpmMax) s.sequencer.cm ∧
          ∀ y, (q.arm y).state = (s.sequencer.arm y).state) ∧
      (s.sequencer.main.state = .lifting →
        ∃ (q : Sequencer) (out : List Offer),
          exec .mainBroomLiftExpiry s = .next (((s.setSequencer q).emit out).settle) ∧
          q.main.state = (if s.sequencer.wantedDown then .lowering else .up) ∧
          q.main.timer = (if s.sequencer.wantedDown then some (s.mc.time + 800) else none) ∧
          ∀ y, (q.arm y).state = (s.sequencer.arm y).state))

/-- An expiry of the arms' and the main broom's timers outside the working modes, in another state, or while the timer
does not run or has not been reached, changes nothing (the model's choice, log 3). REGULATION_STEP, when reached, runs
on for 20 ms from its expiry (log 28; when a step falls due, log 27) and moves the pressure
command of each arm that works or yields by 20 toward a band of 100 kPa about the target, while the data are fresh
and the pressure has a value. -/
def Obligations.SequencerTimersActWhenDue : Prop :=
  ∀ (s : State) (x : Side), s.offers = [] →
    (s.sequencer.mode.working = false ∨ due s.mc.time (s.sequencer.arm x).timer = false →
      ∀ c ∈ [Instr.swingTimerExpiry x, .retryWaitExpiry x, .lowerTimeExpiry x, .yieldTimeExpiry x, .liftTimeExpiry x],
        exec c s = .next s) ∧
    ((s.sequencer.arm x).state ≠ .swingingOut → (s.sequencer.arm x).state ≠ .swingingIn →
      exec (.swingTimerExpiry x) s = .next s) ∧
    ((s.sequencer.arm x).state ≠ .retryWait → exec (.retryWaitExpiry x) s = .next s) ∧
    ((s.sequencer.arm x).state ≠ .lowering → exec (.lowerTimeExpiry x) s = .next s) ∧
    ((s.sequencer.arm x).state ≠ .yielding → exec (.yieldTimeExpiry x) s = .next s) ∧
    ((s.sequencer.arm x).state ≠ .raising → exec (.liftTimeExpiry x) s = .next s) ∧
    (s.sequencer.mode.working = false ∨ due s.mc.time s.sequencer.main.timer = false →
      exec .mainBroomLowerExpiry s = .next s ∧ exec .mainBroomLiftExpiry s = .next s) ∧
    (s.sequencer.main.state ≠ .lowering → exec .mainBroomLowerExpiry s = .next s) ∧
    (s.sequencer.main.state ≠ .lifting → exec .mainBroomLiftExpiry s = .next s) ∧
    (due s.mc.time s.sequencer.regTimer = false → exec .regulationStep s = .next s) ∧
    ∀ e target, s.sequencer.regTimer = some e → reached s.mc.time e = true →
      target = min s.sequencer.pressTarget s.sequencer.armPressMax →
      ∃ q : Sequencer, exec .regulationStep s = .next (s.setSequencer q) ∧
        q = { s.sequencer with left := q.left, right := q.right, regTimer := some (e + 20) } ∧
        ∀ y, q.arm y = { s.sequencer.arm y with press := (q.arm y).press } ∧
          (q.arm y).press =
            (match (s.sequencer.arm y).pressure with
              | none => (s.sequencer.arm y).press
              | some v =>
                if s.sequencer.stale = true ∨
                    (s.sequencer.arm y).state ≠ .working ∧ (s.sequencer.arm y).state ≠ .yielding then
                  (s.sequencer.arm y).press
                else if v < (target : Int) - 100 then min 1000 ((s.sequencer.arm y).press + 20)
                else if (target : Int) + 100 < v then (s.sequencer.arm y).press - 20
                else (s.sequencer.arm y).press)

/-! ### Water controller and valve chain driver (10) -/

/-- WATER of the WATER holder replaces enable and exclusion set and is answered with water state and eligible set; an
enable above 1 or an exclusion set with a bit above 11 gets BAD_VALUE, another station NOT_HOLDER.
PRIME_TIMER_EXPIRY in PRIMING, when reached: SPRAYING when the spray conditions hold, else IDLE_WAIT with the
lines full for 10 s; nothing else of the controller changes but pump, nozzles and the prime position. Otherwise it
changes nothing (log 3). -/
def Obligations.WaterRequestAndPriming : Prop :=
  (∀ (p : Port) (tag enable : Byte) (exclusion : BitVec 16) (s : State), s.hears p .water → s.offers = [] →
    (2 ≤ enable.toNat ∨ 4096 ≤ exclusion.toNat →
      exec (.water p tag enable exclusion) s = .next (s.respond p 0x0D tag ⟨.badValue, []⟩)) ∧
    (enable.toNat ≤ 1 → exclusion.toNat < 4096 →
      ((s.mc.claims.get .water).holder ≠ some p →
        exec (.water p tag enable exclusion) s = .next (s.respond p 0x0D tag ⟨.notHolder, []⟩)) ∧
      ((s.mc.claims.get .water).holder = some p →
        ∃ t : State, exec (.water p tag enable exclusion) s =
            .next (t.respond p 0x0D tag ⟨.ok, byte t.water.state.number :: bytes2 t.water.eligible.toNat⟩) ∧
          Kept s t ∧ t.water.enable = decide (enable = 1) ∧ t.water.exclusion = exclusion.truncate 12))) ∧
  ∀ (s : State) (e : Time), s.offers = [] →
    (s.water.state ≠ .priming ∨ due s.mc.time s.water.primeTimer = false →
      exec .primeTimerExpiry s = .next s) ∧
    (s.water.state = .priming → s.water.primeTimer = some e → reached s.mc.time e = true →
      s.water.copies.mode ≠ .service →
      (s.water.copies.mode = .sweep → s.water.enable = true → s.water.tankEmpty = false →
        s.water.copies.cutWater = false → s.water.eligible ≠ 0 → s.water.copies.row.state ≠ .held →
        200 ≤ s.water.copies.groundSpeed → 150 ≤ s.water.allowed →
        ∃ t : State, exec .primeTimerExpiry s = .next t ∧ Kept s t ∧
          t.water =
            { s.water with
              state := .spraying, primeTimer := none, pump := s.water.allowed, nozzles := s.water.eligible,
              prime := false }) ∧
      (s.water.copies.groundSpeed < 200 ∨ s.water.allowed < 150 →
        ∃ t : State, exec .primeTimerExpiry s = .next t ∧ Kept s t ∧
          t.water =
            { s.water with
              state := .idleWait, primeTimer := none, wetUntil := s.mc.time + 10000, wet := true, pump := 0,
              nozzles := 0, prime := false }))

/-- A re-evaluation: a group is eligible that the profile names, that is not excluded and not failed, whose
association is satisfied, and, while GROUND_LOST, that is exempt; wanted and allowed duty and the demand are those
of R161; the state moves by R162, R163 and R165, the lines being full for 10 s from SPRAYING to IDLE_WAIT and the prime
timer starting with PRIMING; the pump is at 400 while PRIMING, at the allowed duty while SPRAYING, else 0; the nozzles
are the eligible set while SPRAYING; requests and demand are offered when they change. A published level below the empty
level sets the tank latch with TANK_EMPTY, one above the refill level clears it with TANK_REFILLED. A ground loss while
PRIMING or SPRAYING that cuts groups sets the auto cut flag with AUTO_CUT and their number; the regain clears it with
AUTO_CUT_END and the number eligible. A path advance while SPRAYING adds to the sprayed path, which saturates. The other
offers replace their copy and re-evaluate. -/
def Obligations.WaterDutiesAndOutputs : Prop :=
  (∀ (old w v : Water) (now : Time) (out : List Offer) (shut primes sprays : Bool), old.reevaluate w now = ⟨v, out⟩ →
    shut = decide (w.copies.mode ≠ .sweep ∨ w.enable = false) →
    primes = decide (w.copies.mode = .sweep ∧ w.enable = true ∧ w.tankEmpty = false ∧ w.copies.cutWater = false ∧
      v.eligible ≠ 0 ∧ w.copies.row.state ≠ .held ∧ w.copies.primeFailed = false) →
    sprays = decide (w.copies.mode = .sweep ∧ w.enable = true ∧ w.tankEmpty = false ∧ w.copies.cutWater = false ∧
      v.eligible ≠ 0 ∧ w.copies.row.state ≠ .held ∧ 200 ≤ w.copies.groundSpeed ∧ 150 ≤ v.allowed) →
    (∀ n : Fin 12, v.eligible.getLsbD n.val =
      (w.copies.groups.getLsbD n.val && !w.exclusion.getLsbD n.val && !w.copies.failed.getLsbD n.val &&
        (match w.associations.get n with
          | .none => true
          | .main => w.copies.main == .down
          | .armL => w.copies.armL == .working || w.copies.armL == .yielding
          | .armR => w.copies.armR == .working || w.copies.armR == .yielding) &&
        (w.copies.ground == .present || w.settings.exempt.getLsbD n.val))) ∧
    v.wanted =
      min 1000 (w.copies.groundSpeed * ((List.range 12).filter v.eligible.getLsbD).length * w.copies.dose / 1000) ∧
    v.allowed =
      (if w.copies.cw = 0 then v.wanted else min v.wanted (w.copies.row.grant * 1000 / w.copies.cw)) ∧
    v.demand =
      (if w.copies.mode = .sweep ∧ w.enable = true ∧ w.tankEmpty = false then v.wanted * w.copies.cw / 1000 else 0) ∧
    v.pump = (match v.state with
      | .priming => 400
      | .spraying => v.allowed
      | .off | .idleWait | .empty => 0) ∧
    v.nozzles = (if v.state = .spraying then v.eligible else 0) ∧
    v.prime = (if w.copies.mode = .service then w.prime else decide (v.state = .priming)) ∧
    v.state =
      (match w.state with
        | .off =>
          if w.copies.mode = .sweep ∧ w.tankEmpty = true then .empty else if primes then .priming else .off
        | .priming =>
          if shut then .off else if w.tankEmpty then .empty else if primes then .priming else .idleWait
        | .spraying =>
          if shut then .off else if w.tankEmpty then .empty else if sprays then .spraying else .idleWait
        | .idleWait =>
          if shut then .off
          else if w.tankEmpty then .empty
          else if sprays then (if w.wet then .spraying else if w.copies.primeFailed then .idleWait else .priming)
          else .idleWait
        | .empty =>
          if w.copies.mode ≠ .sweep then .off
          else if w.tankEmpty then .empty
          else if primes then .priming else .off) ∧
    (v.wetUntil, v.wet) =
      (if w.state = .spraying ∧ v.state = .idleWait then (now + 10000, true) else (w.wetUntil, w.wet)) ∧
    (v.state = .priming → v.primeTimer =
      if w.state = .priming then w.primeTimer else some (now + BitVec.ofNat 32 w.settings.primeTime)) ∧
    (v.state ≠ .priming → w.state = .priming ∨ w.primeTimer = none → v.primeTimer = none) ∧
    v.tankEmpty = w.tankEmpty ∧ v.autoCut = w.autoCut ∧ v.sprayed = w.sprayed ∧ v.copies = w.copies ∧
    (∀ n p, .chainWater n p ∈ out ↔ n = v.nozzles ∧ p = v.prime ∧ (n ≠ old.nozzles ∨ p ≠ old.prime)) ∧
    (∀ c n, .demand c n ∈ out ↔ c = .water ∧ n = v.demand ∧ n ≠ old.demand)) ∧
  (∀ (s : State) (level : Option Int) (w : Water), w = s.water →
    deliver (.waterTank none) s =
      s.withWater (w.reevaluate { w with copies := { w.copies with tankLevel := none } } s.mc.time) ∧
    ∀ l e, level = some l →
      e = w.reevaluate
        { w with
          tankEmpty :=
            if w.tankEmpty = false ∧ l < w.settings.emptyLevel then true
            else if w.tankEmpty = true ∧ (w.settings.refillLevel : Int) < l then false
            else w.tankEmpty
          copies := { w.copies with tankLevel := level } } s.mc.time →
      deliver (.waterTank level) s =
        (s.setWater e.val).emit
          ((if w.tankEmpty = false ∧ l < w.settings.emptyLevel then [.post .tankEmpty 0 l]
            else if w.tankEmpty = true ∧ (w.settings.refillLevel : Int) < l then [.post .tankRefilled 0 l]
            else []) ++ e.out)) ∧
  (∀ (s : State) (status : GroundStatus) (speed cut : Nat) (w : Water) (c : WaterCopies), w = s.water →
    c = { w.copies with ground := status, groundSpeed := speed } →
    cut = ((List.finRange 12).filter fun n =>
      w.copies.groups.getLsbD n.val && !w.exclusion.getLsbD n.val && !w.copies.failed.getLsbD n.val &&
        (match w.associations.get n with
          | .none => true
          | .main => w.copies.main == .down
          | .armL => w.copies.armL == .working || w.copies.armL == .yielding
          | .armR => w.copies.armR == .working || w.copies.armR == .yielding) &&
        !w.settings.exempt.getLsbD n.val).length →
    (w.copies.ground = .present → status = .lost → (w.state = .priming ∨ w.state = .spraying) → 0 < cut →
      ∀ e, e = w.reevaluate { w with autoCut := true, copies := c } s.mc.time →
        deliver (.waterGround status speed) s = (s.setWater e.val).emit (.post .autoCut 0 cut :: e.out)) ∧
    (∀ e, e = w.reevaluate { w with copies := c } s.mc.time →
      (w.copies.ground = .lost → status = .present → w.autoCut = true →
        deliver (.waterGround status speed) s =
          (s.setWater { e.val with autoCut := false }).emit
            (e.out ++ [.post .autoCutEnd 0 ((List.range 12).filter e.val.eligible.getLsbD).length])) ∧
      (w.copies.ground = status ∨ status = .present ∧ w.autoCut = false ∨
          status = .lost ∧ (w.state ≠ .priming ∧ w.state ≠ .spraying ∨ cut = 0) →
        deliver (.waterGround status speed) s = s.withWater e))) ∧
  (∀ (s : State) (path advance : Nat),
    deliver (.waterPath path advance) s =
      s.withWater (s.water.reevaluate
        { s.water with
          sprayed :=
            if s.water.state = .spraying then min 4294967295 (s.water.sprayed + advance) else s.water.sprayed
          copies := { s.water.copies with path := path, advance := advance } } s.mc.time)) ∧
  ∀ (s : State) (o : Offer) (c : WaterCopies) (b : Bool) (g : GroupSet) (n : Nat) (r : GrantCopy) (x y : ArmState)
    (m : BroomState),
    (o, c) ∈
      [(Offer.waterCut b, { s.water.copies with cutWater := b }),
        (.waterProfile g n, { s.water.copies with groups := g, dose := n }),
        (.waterCoefficient n, { s.water.copies with cw := n }), (.waterGrant r, { s.water.copies with row := r }),
        (.waterImplements x y m, { s.water.copies with armL := x, armR := y, main := m })] →
    deliver o s = s.withWater (s.water.reevaluate { s.water with copies := c } s.mc.time)

/-- REFRESH_TIMER_EXPIRY, when reached, restarts from its expiry (log 28) and starts a refresh with a copy of the wanted
pattern, or notes it while one is running; when not reached it changes nothing (the model's choice, log 3).
REFRESH_COMPLETION, while one is running, and whenever it then comes (the model's choice, log 4): the shifted pattern is
loaded, echo and fault bits are taken, each position's count follows its mismatch, and a count of 2 fails the position,
with CHAIN_FAILED (0 for the echo, 1 for the fault bit, 2 for both), whose owner is told; then a noted refresh starts
with the wanted pattern, or the driver is idle. That this comes after everything the owners make of the failure is
deduced (log 45). An arm that is told that its LIFT position has failed, in any state but FAULT and in every mode,
records an open motion as FAULTED and is in FAULT with cause LIFT_FAILED, with ARM_FAULT and value 1, its timer stopped,
LIFT off and its coils 0, but in SERVICE at their service values (the model's choice, log 14); the main broom likewise
with BROOM_FAULT. An arm or main broom in FAULT, or told that its position has not failed, keeps its state. CLEAR_FAILED
outside SERVICE gets WRONG_MODE; in SERVICE each named position leaves the failed set with a mismatch count of 0, the
others stay, and the answer holds the failed set afterwards. -/
def Obligations.ChainIsRefreshedCheckedAndCleared : Prop :=
  (∀ (s : State), s.offers = [] →
    (reached s.mc.time s.chain.timer = false → exec .refreshTimerExpiry s = .next s) ∧
    (reached s.mc.time s.chain.timer = true →
      (s.chain.shifting = false →
        exec .refreshTimerExpiry s =
          .next (s.setChain
            { s.chain with timer := s.chain.timer + 20, shifted := s.chain.wanted, shifting := true })) ∧
      (s.chain.shifting = true →
        exec .refreshTimerExpiry s =
          .next (s.setChain { s.chain with timer := s.chain.timer + 20, waiting := true }))) ∧
    ∀ echo fault : Mask,
      (s.chain.shifting = false → exec (.refreshCompletion echo fault) s = .next s) ∧
      (s.chain.shifting = true →
        ∃ t : State, exec (.refreshCompletion echo fault) s = .next t ∧ t.configuration = s.configuration ∧
          t.standing =
            { s.standing with
              loaded := s.chain.shifted, prevLoaded := s.chain.loaded, echo := echo, fault := fault } ∧
          (∀ i : Fin 16,
            (s.chain.failed.getLsbD i.val = true →
              t.chain.counts.get i = s.chain.counts.get i ∧ t.chain.failed.getLsbD i.val = true) ∧
            (s.chain.failed.getLsbD i.val = false →
              t.chain.counts.get i =
                (if echo.getLsbD i.val ≠ s.chain.loaded.getLsbD i.val ∨ fault.getLsbD i.val = true then
                  s.chain.counts.get i + 1 else 0) ∧
              t.chain.failed.getLsbD i.val = decide (2 ≤ t.chain.counts.get i))) ∧
          t.chain.waiting = false ∧ (t.chain.shifting = true → t.chain.shifted = t.chain.wanted) ∧
          (s.chain.waiting = true → t.chain.shifting = true) ∧
          (t.sequencer.left.liftFailed = t.chain.failed.getLsbD 12 ∨
            t.sequencer.left.liftFailed = s.sequencer.left.liftFailed ∧
              t.chain.failed.getLsbD 12 = s.chain.failed.getLsbD 12) ∧
          (t.sequencer.right.liftFailed = t.chain.failed.getLsbD 13 ∨
            t.sequencer.right.liftFailed = s.sequencer.right.liftFailed ∧
              t.chain.failed.getLsbD 13 = s.chain.failed.getLsbD 13) ∧
          (t.sequencer.main.liftFailed = t.chain.failed.getLsbD 14 ∨
            t.sequencer.main.liftFailed = s.sequencer.main.liftFailed ∧
              t.chain.failed.getLsbD 14 = s.chain.failed.getLsbD 14) ∧
          (t.water.copies.failed = t.chain.failed.truncate 12 ∧
              t.water.copies.primeFailed = t.chain.failed.getLsbD 15 ∨
            t.water.copies.failed = s.water.copies.failed ∧
              t.water.copies.primeFailed = s.water.copies.primeFailed ∧
              t.chain.failed &&& 0x8FFF = s.chain.failed &&& 0x8FFF) ∧
          ∃ (c : Chain) (out : List Offer) (u : State),
            u = ((s.setChain c).emit out).settle ∧ t = u.setChain u.chain.afterCompletion ∧
            ∀ i v, .post .chainFailed i v ∈ out ↔
              ∃ k : Fin 16, i = k.val ∧ s.chain.failed.getLsbD k.val = false ∧ t.chain.failed.getLsbD k.val = true ∧
                v = (if fault.getLsbD k.val = false then 0
                  else if echo.getLsbD k.val = s.chain.loaded.getLsbD k.val then 1 else 2 : Int))) ∧
  (∀ (s : State) (l r m : Bool),
    ∃ (q : Sequencer) (out : List Offer), deliver (.sequencerLiftFailed l r m) s = (s.setSequencer q).emit out ∧
      (∀ x f a b, f = (match x with | .left => l | .right => r) → a = s.sequencer.arm x → b = q.arm x →
        b.liftFailed = f ∧
        (f = true → a.liftFailed = false → a.state ≠ .fault →
          a.records b x s.moment .faulted none out ∧ .post .armFault (sideNumber x) 1 ∈ out ∧ b.state = .fault ∧
            b.fault = some .liftFailed ∧ b.timer = none ∧ b.motion = none ∧ b.lift = false ∧
            (b.swing, b.broom, b.press) =
              (if s.sequencer.mode = .service then (a.swing, a.broom, a.press) else (0, 0, 0))) ∧
        (f = false ∨ a.liftFailed = true → a.stays b) ∧
        (a.state = .fault → b.state = .fault ∧ b.fault = a.fault ∧ b.outcomes = a.outcomes)) ∧
      q.main.liftFailed = m ∧
      (m = true → s.sequencer.main.liftFailed = false → s.sequencer.main.state ≠ .fault →
        .post .broomFault 0 1 ∈ out ∧ q.main.state = .fault ∧ q.main.fault = some .liftFailed ∧
          q.main.timer = none ∧ q.main.lift = false ∧
          q.main.broom = if s.sequencer.mode = .service then s.sequencer.main.broom else 0) ∧
      (m = false ∨ s.sequencer.main.liftFailed = true ∨ s.sequencer.main.state = .fault →
        q.main.state = s.sequencer.main.state ∧ q.main.fault = s.sequencer.main.fault ∧
          q.main.timer = s.sequencer.main.timer)) ∧
  ∀ (p : Port) (tag : Byte) (set : Mask) (s : State), s.hears p .clearFailed → s.offers = [] →
    (s.mc.mode ≠ .service →
      exec (.clearFailed p tag set) s = .next (s.respond p 0x11 tag ⟨.wrongMode, []⟩)) ∧
    (s.mc.mode = .service →
      ∃ t : State, exec (.clearFailed p tag set) s =
          .next (t.respond p 0x11 tag ⟨.ok, bytes2 (s.chain.failed &&& ~~~set).toNat⟩) ∧ Kept s t ∧
        t.chain.failed = s.chain.failed &&& ~~~set ∧
        ∀ i : Fin 16, t.chain.counts.get i =
          if s.chain.failed.getLsbD i.val && set.getLsbD i.val then 0 else s.chain.counts.get i)

/-! ### Invariants -/

/-- The time counter advances by 1 with TIME_COUNTER_ADVANCE, wrapping after 4294967295, and the water lines cease to
be taken as full when it reaches the wet-until time (a flag of the model's, log 8); nothing else changes, no timer
acting at it (the model's choice, log 3). No other command but POWER_ON changes it. Only a WRITE, a frame or power-on
changes a configuration record; only power-on changes the link rate and the classes of the ports; only a CLAIM,
RELEASE, RESTART, frame or power-on changes the claims. -/
def Obligations.TimeAndRecordsChangeByTheirCommandsAlone : Prop :=
  (∀ s : State,
    exec .timeCounterAdvance s =
      .next ((s.setMc { s.mc with time := s.mc.time + 1 }).setWater
        { s.water with wet := s.water.wet && s.mc.time + 1 != s.water.wetUntil })) ∧
  (∀ (c : Instr) (s t : State), exec c s = .next t → c.isPowerOn = false → c ≠ .timeCounterAdvance →
    t.mc.time = s.mc.time) ∧
  ∀ (c : Instr) (s t : State), exec c s = .next t →
    (c.configures = false → t.configuration = s.configuration) ∧
    (c.isPowerOn = false →
      t.rate = s.rate ∧ t.pending = s.pending ∧ ∀ p, (t.port p).authority = (s.port p).authority) ∧
    ((∀ p tag d, c ≠ .claim p tag d) → (∀ p tag d, c ≠ .release p tag d) → (∀ p tag, c ≠ .restart p tag) →
      (∀ p, c ≠ .frameEnd p) → c.isPowerOn = false → t.mc.claims = s.mc.claims)

/-- Every step keeps the port units sound. Every step keeps the claims sound: no holder's port is CUT_OFF, holders are
of class OPERATOR or ROUTE, and TRAVEL's is an OPERATOR. -/
def Obligations.PortsAndClaimsStaySound : Prop :=
  (KeptByStep State.portsSound) ∧
  KeptByStep State.claimsSound

/-- Every step keeps the budget sound: the grants never exceed the ceiling. -/
def Obligations.GrantsNeverExceedTheCeiling : Prop := KeptByStep State.budgetSound

/-- Every step keeps the travel governor sound: the command never exceeds the ceiling, the coils follow it, target and
command have the sign of the state, and the command is one of reverse only with every implement lifted. The step
starts, as between any two commands, with no offer waiting and every copy of the machine mode agreeing, which
CopiesAgreeBetweenCommands carries from step to step. -/
def Obligations.ReverseOnlyWithImplementsLifted : Prop :=
  ∀ s t : State, s.inStep → s.governor.sound → StepsTo s t → t.governor.sound

/-- Every step keeps the water controller and the chain driver sound: the pump runs only while PRIMING and SPRAYING,
nozzles are asked for only while SPRAYING and eligible, and no failed position is wanted. -/
def Obligations.WaterAndChainStaySound : Prop := KeptByStep fun s => s.water.sound ∧ s.chain.sound

/-- Every step keeps the measurement records, the profile rows, the change queue and the outcome stacks sound. -/
def Obligations.RecordsStaySound : Prop := KeptByStep State.recordsSound

/-- A step that starts with the copies named here agreeing with their owners, and leaves no offer waiting, ends so: the
machine mode, the limits, the stale flag, the trip outputs, the speeds, direction, slip ratio, ground status and path
counter, the active profile row and its ranks, the coefficients, the grants and row states, lift-for-reverse, the
implement states and their report, and the failed positions. It says nothing of the published role values (grade, arm
positions and pressures, tank level), of the path advances and of the demands offered. That the path copies of selector
and water controller follow the counter to 0 at START and RESTART is the model's choice (log 11): R85 offers the
counter at window ends alone. -/
def Obligations.CopiesAgreeBetweenCommands : Prop :=
  ∀ s t : State, s.copiesAgree → (∃ l, namesEachOnce l ∧ (s.selector.rows.get s.selector.active).shedOrder = l) →
    StepsTo s t → t.offers = [] → t.copiesAgree

/-- The state after reset has every invariant. Its straps are the model's choice (log 6), and so is the 0 of the copies
that no table gives a power-on value, the selector's path and the governor's ground speed (log 11). -/
def Obligations.ResetIsSound : Prop :=
  State.reset.portsSound ∧ State.reset.claimsSound ∧ State.reset.budgetSound ∧ State.reset.governor.sound ∧
    State.reset.water.sound ∧ State.reset.chain.sound ∧ State.reset.recordsSound ∧ State.reset.copiesAgree
end

