-- ==== Sys2Proof/Laws/State.lean ====
section
/-! SUPPORT. One lemma per field and update of `State`, of the port units, of the claim table, of the budget rows and of
the side arms. All but the lemmas on `get` after `set` are true by definition. -/

namespace Sys2Proof.Machine

/-! ### `State.setPorts` -/

@[simp] theorem State.setPorts_rate (s : State) (x : Ports) : (s.setPorts x).rate = s.rate := rfl
@[simp] theorem State.setPorts_ports (s : State) (x : Ports) : (s.setPorts x).ports = x := rfl
@[simp] theorem State.setPorts_mc (s : State) (x : Ports) : (s.setPorts x).mc = s.mc := rfl
@[simp] theorem State.setPorts_scanner (s : State) (x : Ports) : (s.setPorts x).scanner = s.scanner := rfl
@[simp] theorem State.setPorts_monitor (s : State) (x : Ports) : (s.setPorts x).monitor = s.monitor := rfl
@[simp] theorem State.setPorts_pulse (s : State) (x : Ports) : (s.setPorts x).pulse = s.pulse := rfl
@[simp] theorem State.setPorts_selector (s : State) (x : Ports) : (s.setPorts x).selector = s.selector := rfl
@[simp] theorem State.setPorts_budget (s : State) (x : Ports) : (s.setPorts x).budget = s.budget := rfl
@[simp] theorem State.setPorts_governor (s : State) (x : Ports) : (s.setPorts x).governor = s.governor := rfl
@[simp] theorem State.setPorts_sequencer (s : State) (x : Ports) : (s.setPorts x).sequencer = s.sequencer := rfl
@[simp] theorem State.setPorts_water (s : State) (x : Ports) : (s.setPorts x).water = s.water := rfl
@[simp] theorem State.setPorts_chain (s : State) (x : Ports) : (s.setPorts x).chain = s.chain := rfl
@[simp] theorem State.setPorts_offers (s : State) (x : Ports) : (s.setPorts x).offers = s.offers := rfl
@[simp] theorem State.setPorts_pending (s : State) (x : Ports) : (s.setPorts x).pending = s.pending := rfl
@[simp] theorem State.setPorts_same (s : State) : s.setPorts s.ports = s := rfl

/-! ### `State.setMc` -/

@[simp] theorem State.setMc_rate (s : State) (x : ModeController) : (s.setMc x).rate = s.rate := rfl
@[simp] theorem State.setMc_ports (s : State) (x : ModeController) : (s.setMc x).ports = s.ports := rfl
@[simp] theorem State.setMc_mc (s : State) (x : ModeController) : (s.setMc x).mc = x := rfl
@[simp] theorem State.setMc_scanner (s : State) (x : ModeController) : (s.setMc x).scanner = s.scanner := rfl
@[simp] theorem State.setMc_monitor (s : State) (x : ModeController) : (s.setMc x).monitor = s.monitor := rfl
@[simp] theorem State.setMc_pulse (s : State) (x : ModeController) : (s.setMc x).pulse = s.pulse := rfl
@[simp] theorem State.setMc_selector (s : State) (x : ModeController) : (s.setMc x).selector = s.selector := rfl
@[simp] theorem State.setMc_budget (s : State) (x : ModeController) : (s.setMc x).budget = s.budget := rfl
@[simp] theorem State.setMc_governor (s : State) (x : ModeController) : (s.setMc x).governor = s.governor := rfl
@[simp] theorem State.setMc_sequencer (s : State) (x : ModeController) : (s.setMc x).sequencer = s.sequencer := rfl
@[simp] theorem State.setMc_water (s : State) (x : ModeController) : (s.setMc x).water = s.water := rfl
@[simp] theorem State.setMc_chain (s : State) (x : ModeController) : (s.setMc x).chain = s.chain := rfl
@[simp] theorem State.setMc_offers (s : State) (x : ModeController) : (s.setMc x).offers = s.offers := rfl
@[simp] theorem State.setMc_pending (s : State) (x : ModeController) : (s.setMc x).pending = s.pending := rfl
@[simp] theorem State.setMc_same (s : State) : s.setMc s.mc = s := rfl

/-! ### `State.setScanner` -/

@[simp] theorem State.setScanner_rate (s : State) (x : Scanner) : (s.setScanner x).rate = s.rate := rfl
@[simp] theorem State.setScanner_ports (s : State) (x : Scanner) : (s.setScanner x).ports = s.ports := rfl
@[simp] theorem State.setScanner_mc (s : State) (x : Scanner) : (s.setScanner x).mc = s.mc := rfl
@[simp] theorem State.setScanner_scanner (s : State) (x : Scanner) : (s.setScanner x).scanner = x := rfl
@[simp] theorem State.setScanner_monitor (s : State) (x : Scanner) : (s.setScanner x).monitor = s.monitor := rfl
@[simp] theorem State.setScanner_pulse (s : State) (x : Scanner) : (s.setScanner x).pulse = s.pulse := rfl
@[simp] theorem State.setScanner_selector (s : State) (x : Scanner) : (s.setScanner x).selector = s.selector := rfl
@[simp] theorem State.setScanner_budget (s : State) (x : Scanner) : (s.setScanner x).budget = s.budget := rfl
@[simp] theorem State.setScanner_governor (s : State) (x : Scanner) : (s.setScanner x).governor = s.governor := rfl
@[simp] theorem State.setScanner_sequencer (s : State) (x : Scanner) : (s.setScanner x).sequencer = s.sequencer := rfl
@[simp] theorem State.setScanner_water (s : State) (x : Scanner) : (s.setScanner x).water = s.water := rfl
@[simp] theorem State.setScanner_chain (s : State) (x : Scanner) : (s.setScanner x).chain = s.chain := rfl
@[simp] theorem State.setScanner_offers (s : State) (x : Scanner) : (s.setScanner x).offers = s.offers := rfl
@[simp] theorem State.setScanner_pending (s : State) (x : Scanner) : (s.setScanner x).pending = s.pending := rfl
@[simp] theorem State.setScanner_same (s : State) : s.setScanner s.scanner = s := rfl

/-! ### `State.setMonitor` -/

@[simp] theorem State.setMonitor_rate (s : State) (x : Monitor) : (s.setMonitor x).rate = s.rate := rfl
@[simp] theorem State.setMonitor_ports (s : State) (x : Monitor) : (s.setMonitor x).ports = s.ports := rfl
@[simp] theorem State.setMonitor_mc (s : State) (x : Monitor) : (s.setMonitor x).mc = s.mc := rfl
@[simp] theorem State.setMonitor_scanner (s : State) (x : Monitor) : (s.setMonitor x).scanner = s.scanner := rfl
@[simp] theorem State.setMonitor_monitor (s : State) (x : Monitor) : (s.setMonitor x).monitor = x := rfl
@[simp] theorem State.setMonitor_pulse (s : State) (x : Monitor) : (s.setMonitor x).pulse = s.pulse := rfl
@[simp] theorem State.setMonitor_selector (s : State) (x : Monitor) : (s.setMonitor x).selector = s.selector := rfl
@[simp] theorem State.setMonitor_budget (s : State) (x : Monitor) : (s.setMonitor x).budget = s.budget := rfl
@[simp] theorem State.setMonitor_governor (s : State) (x : Monitor) : (s.setMonitor x).governor = s.governor := rfl
@[simp] theorem State.setMonitor_sequencer (s : State) (x : Monitor) : (s.setMonitor x).sequencer = s.sequencer := rfl
@[simp] theorem State.setMonitor_water (s : State) (x : Monitor) : (s.setMonitor x).water = s.water := rfl
@[simp] theorem State.setMonitor_chain (s : State) (x : Monitor) : (s.setMonitor x).chain = s.chain := rfl
@[simp] theorem State.setMonitor_offers (s : State) (x : Monitor) : (s.setMonitor x).offers = s.offers := rfl
@[simp] theorem State.setMonitor_pending (s : State) (x : Monitor) : (s.setMonitor x).pending = s.pending := rfl
@[simp] theorem State.setMonitor_same (s : State) : s.setMonitor s.monitor = s := rfl

/-! ### `State.setPulse` -/

@[simp] theorem State.setPulse_rate (s : State) (x : Pulse) : (s.setPulse x).rate = s.rate := rfl
@[simp] theorem State.setPulse_ports (s : State) (x : Pulse) : (s.setPulse x).ports = s.ports := rfl
@[simp] theorem State.setPulse_mc (s : State) (x : Pulse) : (s.setPulse x).mc = s.mc := rfl
@[simp] theorem State.setPulse_scanner (s : State) (x : Pulse) : (s.setPulse x).scanner = s.scanner := rfl
@[simp] theorem State.setPulse_monitor (s : State) (x : Pulse) : (s.setPulse x).monitor = s.monitor := rfl
@[simp] theorem State.setPulse_pulse (s : State) (x : Pulse) : (s.setPulse x).pulse = x := rfl
@[simp] theorem State.setPulse_selector (s : State) (x : Pulse) : (s.setPulse x).selector = s.selector := rfl
@[simp] theorem State.setPulse_budget (s : State) (x : Pulse) : (s.setPulse x).budget = s.budget := rfl
@[simp] theorem State.setPulse_governor (s : State) (x : Pulse) : (s.setPulse x).governor = s.governor := rfl
@[simp] theorem State.setPulse_sequencer (s : State) (x : Pulse) : (s.setPulse x).sequencer = s.sequencer := rfl
@[simp] theorem State.setPulse_water (s : State) (x : Pulse) : (s.setPulse x).water = s.water := rfl
@[simp] theorem State.setPulse_chain (s : State) (x : Pulse) : (s.setPulse x).chain = s.chain := rfl
@[simp] theorem State.setPulse_offers (s : State) (x : Pulse) : (s.setPulse x).offers = s.offers := rfl
@[simp] theorem State.setPulse_pending (s : State) (x : Pulse) : (s.setPulse x).pending = s.pending := rfl
@[simp] theorem State.setPulse_same (s : State) : s.setPulse s.pulse = s := rfl

/-! ### `State.setSelector` -/

@[simp] theorem State.setSelector_rate (s : State) (x : Selector) : (s.setSelector x).rate = s.rate := rfl
@[simp] theorem State.setSelector_ports (s : State) (x : Selector) : (s.setSelector x).ports = s.ports := rfl
@[simp] theorem State.setSelector_mc (s : State) (x : Selector) : (s.setSelector x).mc = s.mc := rfl
@[simp] theorem State.setSelector_scanner (s : State) (x : Selector) : (s.setSelector x).scanner = s.scanner := rfl
@[simp] theorem State.setSelector_monitor (s : State) (x : Selector) : (s.setSelector x).monitor = s.monitor := rfl
@[simp] theorem State.setSelector_pulse (s : State) (x : Selector) : (s.setSelector x).pulse = s.pulse := rfl
@[simp] theorem State.setSelector_selector (s : State) (x : Selector) : (s.setSelector x).selector = x := rfl
@[simp] theorem State.setSelector_budget (s : State) (x : Selector) : (s.setSelector x).budget = s.budget := rfl
@[simp] theorem State.setSelector_governor (s : State) (x : Selector) : (s.setSelector x).governor = s.governor := rfl
@[simp] theorem State.setSelector_sequencer (s : State) (x : Selector) : (s.setSelector x).sequencer = s.sequencer := rfl
@[simp] theorem State.setSelector_water (s : State) (x : Selector) : (s.setSelector x).water = s.water := rfl
@[simp] theorem State.setSelector_chain (s : State) (x : Selector) : (s.setSelector x).chain = s.chain := rfl
@[simp] theorem State.setSelector_offers (s : State) (x : Selector) : (s.setSelector x).offers = s.offers := rfl
@[simp] theorem State.setSelector_pending (s : State) (x : Selector) : (s.setSelector x).pending = s.pending := rfl
@[simp] theorem State.setSelector_same (s : State) : s.setSelector s.selector = s := rfl

/-! ### `State.setBudget` -/

@[simp] theorem State.setBudget_rate (s : State) (x : Budget) : (s.setBudget x).rate = s.rate := rfl
@[simp] theorem State.setBudget_ports (s : State) (x : Budget) : (s.setBudget x).ports = s.ports := rfl
@[simp] theorem State.setBudget_mc (s : State) (x : Budget) : (s.setBudget x).mc = s.mc := rfl
@[simp] theorem State.setBudget_scanner (s : State) (x : Budget) : (s.setBudget x).scanner = s.scanner := rfl
@[simp] theorem State.setBudget_monitor (s : State) (x : Budget) : (s.setBudget x).monitor = s.monitor := rfl
@[simp] theorem State.setBudget_pulse (s : State) (x : Budget) : (s.setBudget x).pulse = s.pulse := rfl
@[simp] theorem State.setBudget_selector (s : State) (x : Budget) : (s.setBudget x).selector = s.selector := rfl
@[simp] theorem State.setBudget_budget (s : State) (x : Budget) : (s.setBudget x).budget = x := rfl
@[simp] theorem State.setBudget_governor (s : State) (x : Budget) : (s.setBudget x).governor = s.governor := rfl
@[simp] theorem State.setBudget_sequencer (s : State) (x : Budget) : (s.setBudget x).sequencer = s.sequencer := rfl
@[simp] theorem State.setBudget_water (s : State) (x : Budget) : (s.setBudget x).water = s.water := rfl
@[simp] theorem State.setBudget_chain (s : State) (x : Budget) : (s.setBudget x).chain = s.chain := rfl
@[simp] theorem State.setBudget_offers (s : State) (x : Budget) : (s.setBudget x).offers = s.offers := rfl
@[simp] theorem State.setBudget_pending (s : State) (x : Budget) : (s.setBudget x).pending = s.pending := rfl
@[simp] theorem State.setBudget_same (s : State) : s.setBudget s.budget = s := rfl

/-! ### `State.setGovernor` -/

@[simp] theorem State.setGovernor_rate (s : State) (x : Governor) : (s.setGovernor x).rate = s.rate := rfl
@[simp] theorem State.setGovernor_ports (s : State) (x : Governor) : (s.setGovernor x).ports = s.ports := rfl
@[simp] theorem State.setGovernor_mc (s : State) (x : Governor) : (s.setGovernor x).mc = s.mc := rfl
@[simp] theorem State.setGovernor_scanner (s : State) (x : Governor) : (s.setGovernor x).scanner = s.scanner := rfl
@[simp] theorem State.setGovernor_monitor (s : State) (x : Governor) : (s.setGovernor x).monitor = s.monitor := rfl
@[simp] theorem State.setGovernor_pulse (s : State) (x : Governor) : (s.setGovernor x).pulse = s.pulse := rfl
@[simp] theorem State.setGovernor_selector (s : State) (x : Governor) : (s.setGovernor x).selector = s.selector := rfl
@[simp] theorem State.setGovernor_budget (s : State) (x : Governor) : (s.setGovernor x).budget = s.budget := rfl
@[simp] theorem State.setGovernor_governor (s : State) (x : Governor) : (s.setGovernor x).governor = x := rfl
@[simp] theorem State.setGovernor_sequencer (s : State) (x : Governor) : (s.setGovernor x).sequencer = s.sequencer := rfl
@[simp] theorem State.setGovernor_water (s : State) (x : Governor) : (s.setGovernor x).water = s.water := rfl
@[simp] theorem State.setGovernor_chain (s : State) (x : Governor) : (s.setGovernor x).chain = s.chain := rfl
@[simp] theorem State.setGovernor_offers (s : State) (x : Governor) : (s.setGovernor x).offers = s.offers := rfl
@[simp] theorem State.setGovernor_pending (s : State) (x : Governor) : (s.setGovernor x).pending = s.pending := rfl
@[simp] theorem State.setGovernor_same (s : State) : s.setGovernor s.governor = s := rfl

/-! ### `State.setSequencer` -/

@[simp] theorem State.setSequencer_rate (s : State) (x : Sequencer) : (s.setSequencer x).rate = s.rate := rfl
@[simp] theorem State.setSequencer_ports (s : State) (x : Sequencer) : (s.setSequencer x).ports = s.ports := rfl
@[simp] theorem State.setSequencer_mc (s : State) (x : Sequencer) : (s.setSequencer x).mc = s.mc := rfl
@[simp] theorem State.setSequencer_scanner (s : State) (x : Sequencer) : (s.setSequencer x).scanner = s.scanner := rfl
@[simp] theorem State.setSequencer_monitor (s : State) (x : Sequencer) : (s.setSequencer x).monitor = s.monitor := rfl
@[simp] theorem State.setSequencer_pulse (s : State) (x : Sequencer) : (s.setSequencer x).pulse = s.pulse := rfl
@[simp] theorem State.setSequencer_selector (s : State) (x : Sequencer) : (s.setSequencer x).selector = s.selector := rfl
@[simp] theorem State.setSequencer_budget (s : State) (x : Sequencer) : (s.setSequencer x).budget = s.budget := rfl
@[simp] theorem State.setSequencer_governor (s : State) (x : Sequencer) : (s.setSequencer x).governor = s.governor := rfl
@[simp] theorem State.setSequencer_sequencer (s : State) (x : Sequencer) : (s.setSequencer x).sequencer = x := rfl
@[simp] theorem State.setSequencer_water (s : State) (x : Sequencer) : (s.setSequencer x).water = s.water := rfl
@[simp] theorem State.setSequencer_chain (s : State) (x : Sequencer) : (s.setSequencer x).chain = s.chain := rfl
@[simp] theorem State.setSequencer_offers (s : State) (x : Sequencer) : (s.setSequencer x).offers = s.offers := rfl
@[simp] theorem State.setSequencer_pending (s : State) (x : Sequencer) : (s.setSequencer x).pending = s.pending := rfl
@[simp] theorem State.setSequencer_same (s : State) : s.setSequencer s.sequencer = s := rfl

/-! ### `State.setWater` -/

@[simp] theorem State.setWater_rate (s : State) (x : Water) : (s.setWater x).rate = s.rate := rfl
@[simp] theorem State.setWater_ports (s : State) (x : Water) : (s.setWater x).ports = s.ports := rfl
@[simp] theorem State.setWater_mc (s : State) (x : Water) : (s.setWater x).mc = s.mc := rfl
@[simp] theorem State.setWater_scanner (s : State) (x : Water) : (s.setWater x).scanner = s.scanner := rfl
@[simp] theorem State.setWater_monitor (s : State) (x : Water) : (s.setWater x).monitor = s.monitor := rfl
@[simp] theorem State.setWater_pulse (s : State) (x : Water) : (s.setWater x).pulse = s.pulse := rfl
@[simp] theorem State.setWater_selector (s : State) (x : Water) : (s.setWater x).selector = s.selector := rfl
@[simp] theorem State.setWater_budget (s : State) (x : Water) : (s.setWater x).budget = s.budget := rfl
@[simp] theorem State.setWater_governor (s : State) (x : Water) : (s.setWater x).governor = s.governor := rfl
@[simp] theorem State.setWater_sequencer (s : State) (x : Water) : (s.setWater x).sequencer = s.sequencer := rfl
@[simp] theorem State.setWater_water (s : State) (x : Water) : (s.setWater x).water = x := rfl
@[simp] theorem State.setWater_chain (s : State) (x : Water) : (s.setWater x).chain = s.chain := rfl
@[simp] theorem State.setWater_offers (s : State) (x : Water) : (s.setWater x).offers = s.offers := rfl
@[simp] theorem State.setWater_pending (s : State) (x : Water) : (s.setWater x).pending = s.pending := rfl
@[simp] theorem State.setWater_same (s : State) : s.setWater s.water = s := rfl

/-! ### `State.setChain` -/

@[simp] theorem State.setChain_rate (s : State) (x : Chain) : (s.setChain x).rate = s.rate := rfl
@[simp] theorem State.setChain_ports (s : State) (x : Chain) : (s.setChain x).ports = s.ports := rfl
@[simp] theorem State.setChain_mc (s : State) (x : Chain) : (s.setChain x).mc = s.mc := rfl
@[simp] theorem State.setChain_scanner (s : State) (x : Chain) : (s.setChain x).scanner = s.scanner := rfl
@[simp] theorem State.setChain_monitor (s : State) (x : Chain) : (s.setChain x).monitor = s.monitor := rfl
@[simp] theorem State.setChain_pulse (s : State) (x : Chain) : (s.setChain x).pulse = s.pulse := rfl
@[simp] theorem State.setChain_selector (s : State) (x : Chain) : (s.setChain x).selector = s.selector := rfl
@[simp] theorem State.setChain_budget (s : State) (x : Chain) : (s.setChain x).budget = s.budget := rfl
@[simp] theorem State.setChain_governor (s : State) (x : Chain) : (s.setChain x).governor = s.governor := rfl
@[simp] theorem State.setChain_sequencer (s : State) (x : Chain) : (s.setChain x).sequencer = s.sequencer := rfl
@[simp] theorem State.setChain_water (s : State) (x : Chain) : (s.setChain x).water = s.water := rfl
@[simp] theorem State.setChain_chain (s : State) (x : Chain) : (s.setChain x).chain = x := rfl
@[simp] theorem State.setChain_offers (s : State) (x : Chain) : (s.setChain x).offers = s.offers := rfl
@[simp] theorem State.setChain_pending (s : State) (x : Chain) : (s.setChain x).pending = s.pending := rfl
@[simp] theorem State.setChain_same (s : State) : s.setChain s.chain = s := rfl

/-! ### `State.setOffers` -/

@[simp] theorem State.setOffers_rate (s : State) (x : List Offer) : (s.setOffers x).rate = s.rate := rfl
@[simp] theorem State.setOffers_ports (s : State) (x : List Offer) : (s.setOffers x).ports = s.ports := rfl
@[simp] theorem State.setOffers_mc (s : State) (x : List Offer) : (s.setOffers x).mc = s.mc := rfl
@[simp] theorem State.setOffers_scanner (s : State) (x : List Offer) : (s.setOffers x).scanner = s.scanner := rfl
@[simp] theorem State.setOffers_monitor (s : State) (x : List Offer) : (s.setOffers x).monitor = s.monitor := rfl
@[simp] theorem State.setOffers_pulse (s : State) (x : List Offer) : (s.setOffers x).pulse = s.pulse := rfl
@[simp] theorem State.setOffers_selector (s : State) (x : List Offer) : (s.setOffers x).selector = s.selector := rfl
@[simp] theorem State.setOffers_budget (s : State) (x : List Offer) : (s.setOffers x).budget = s.budget := rfl
@[simp] theorem State.setOffers_governor (s : State) (x : List Offer) : (s.setOffers x).governor = s.governor := rfl
@[simp] theorem State.setOffers_sequencer (s : State) (x : List Offer) : (s.setOffers x).sequencer = s.sequencer := rfl
@[simp] theorem State.setOffers_water (s : State) (x : List Offer) : (s.setOffers x).water = s.water := rfl
@[simp] theorem State.setOffers_chain (s : State) (x : List Offer) : (s.setOffers x).chain = s.chain := rfl
@[simp] theorem State.setOffers_offers (s : State) (x : List Offer) : (s.setOffers x).offers = x := rfl
@[simp] theorem State.setOffers_pending (s : State) (x : List Offer) : (s.setOffers x).pending = s.pending := rfl
@[simp] theorem State.setOffers_same (s : State) : s.setOffers s.offers = s := rfl

/-! ### `State.setPending` -/

@[simp] theorem State.setPending_rate (s : State) (x : List Instr) : (s.setPending x).rate = s.rate := rfl
@[simp] theorem State.setPending_ports (s : State) (x : List Instr) : (s.setPending x).ports = s.ports := rfl
@[simp] theorem State.setPending_mc (s : State) (x : List Instr) : (s.setPending x).mc = s.mc := rfl
@[simp] theorem State.setPending_scanner (s : State) (x : List Instr) : (s.setPending x).scanner = s.scanner := rfl
@[simp] theorem State.setPending_monitor (s : State) (x : List Instr) : (s.setPending x).monitor = s.monitor := rfl
@[simp] theorem State.setPending_pulse (s : State) (x : List Instr) : (s.setPending x).pulse = s.pulse := rfl
@[simp] theorem State.setPending_selector (s : State) (x : List Instr) : (s.setPending x).selector = s.selector := rfl
@[simp] theorem State.setPending_budget (s : State) (x : List Instr) : (s.setPending x).budget = s.budget := rfl
@[simp] theorem State.setPending_governor (s : State) (x : List Instr) : (s.setPending x).governor = s.governor := rfl
@[simp] theorem State.setPending_sequencer (s : State) (x : List Instr) : (s.setPending x).sequencer = s.sequencer := rfl
@[simp] theorem State.setPending_water (s : State) (x : List Instr) : (s.setPending x).water = s.water := rfl
@[simp] theorem State.setPending_chain (s : State) (x : List Instr) : (s.setPending x).chain = s.chain := rfl
@[simp] theorem State.setPending_offers (s : State) (x : List Instr) : (s.setPending x).offers = s.offers := rfl
@[simp] theorem State.setPending_pending (s : State) (x : List Instr) : (s.setPending x).pending = x := rfl
@[simp] theorem State.setPending_same (s : State) : s.setPending s.pending = s := rfl

/-! ### `State.emit` -/

@[simp] theorem State.emit_rate (s : State) (os : List Offer) : (s.emit os).rate = s.rate := rfl
@[simp] theorem State.emit_ports (s : State) (os : List Offer) : (s.emit os).ports = s.ports := rfl
@[simp] theorem State.emit_mc (s : State) (os : List Offer) : (s.emit os).mc = s.mc := rfl
@[simp] theorem State.emit_scanner (s : State) (os : List Offer) : (s.emit os).scanner = s.scanner := rfl
@[simp] theorem State.emit_monitor (s : State) (os : List Offer) : (s.emit os).monitor = s.monitor := rfl
@[simp] theorem State.emit_pulse (s : State) (os : List Offer) : (s.emit os).pulse = s.pulse := rfl
@[simp] theorem State.emit_selector (s : State) (os : List Offer) : (s.emit os).selector = s.selector := rfl
@[simp] theorem State.emit_budget (s : State) (os : List Offer) : (s.emit os).budget = s.budget := rfl
@[simp] theorem State.emit_governor (s : State) (os : List Offer) : (s.emit os).governor = s.governor := rfl
@[simp] theorem State.emit_sequencer (s : State) (os : List Offer) : (s.emit os).sequencer = s.sequencer := rfl
@[simp] theorem State.emit_water (s : State) (os : List Offer) : (s.emit os).water = s.water := rfl
@[simp] theorem State.emit_chain (s : State) (os : List Offer) : (s.emit os).chain = s.chain := rfl
@[simp] theorem State.emit_offers (s : State) (os : List Offer) : (s.emit os).offers = s.offers ++ os := rfl
@[simp] theorem State.emit_pending (s : State) (os : List Offer) : (s.emit os).pending = s.pending := rfl
@[simp] theorem State.emit_nil (s : State) : s.emit [] = s := by
  cases s; simp [State.emit, State.setOffers]

/-! ### Port units -/

@[simp] theorem Ports.get_set_same (ps : Ports) (p : Port) (u : PortUnit) : (ps.set p u).get p = u := by
  cases p <;> rfl

theorem Ports.get_set (ps : Ports) (p q : Port) (u : PortUnit) :
    (ps.set p u).get q = if q = p then u else ps.get q := by
  cases p <;> cases q <;> rfl

@[simp] theorem Ports.set_get (ps : Ports) (p : Port) : ps.set p (ps.get p) = ps := by
  cases p <;> rfl

@[simp] theorem Ports.set_set (ps : Ports) (p : Port) (u v : PortUnit) : (ps.set p u).set p v = ps.set p v := by
  cases p <;> rfl

@[simp] theorem State.setPort_rate (s : State) (p : Port) (u : PortUnit) : (s.setPort p u).rate = s.rate := rfl
@[simp] theorem State.setPort_ports (s : State) (p : Port) (u : PortUnit) : (s.setPort p u).ports = s.ports.set p u := rfl
@[simp] theorem State.setPort_mc (s : State) (p : Port) (u : PortUnit) : (s.setPort p u).mc = s.mc := rfl
@[simp] theorem State.setPort_scanner (s : State) (p : Port) (u : PortUnit) : (s.setPort p u).scanner = s.scanner := rfl
@[simp] theorem State.setPort_monitor (s : State) (p : Port) (u : PortUnit) : (s.setPort p u).monitor = s.monitor := rfl
@[simp] theorem State.setPort_pulse (s : State) (p : Port) (u : PortUnit) : (s.setPort p u).pulse = s.pulse := rfl
@[simp] theorem State.setPort_selector (s : State) (p : Port) (u : PortUnit) : (s.setPort p u).selector = s.selector := rfl
@[simp] theorem State.setPort_budget (s : State) (p : Port) (u : PortUnit) : (s.setPort p u).budget = s.budget := rfl
@[simp] theorem State.setPort_governor (s : State) (p : Port) (u : PortUnit) : (s.setPort p u).governor = s.governor := rfl
@[simp] theorem State.setPort_sequencer (s : State) (p : Port) (u : PortUnit) : (s.setPort p u).sequencer = s.sequencer := rfl
@[simp] theorem State.setPort_water (s : State) (p : Port) (u : PortUnit) : (s.setPort p u).water = s.water := rfl
@[simp] theorem State.setPort_chain (s : State) (p : Port) (u : PortUnit) : (s.setPort p u).chain = s.chain := rfl
@[simp] theorem State.setPort_offers (s : State) (p : Port) (u : PortUnit) : (s.setPort p u).offers = s.offers := rfl
@[simp] theorem State.setPort_pending (s : State) (p : Port) (u : PortUnit) : (s.setPort p u).pending = s.pending := rfl

@[simp] theorem State.setPort_port_same (s : State) (p : Port) (u : PortUnit) : (s.setPort p u).port p = u :=
  Ports.get_set_same _ _ _

theorem State.setPort_port (s : State) (p q : Port) (u : PortUnit) :
    (s.setPort p u).port q = if q = p then u else s.port q :=
  Ports.get_set _ _ _ _

@[simp] theorem State.setMc_port (s : State) (x : ModeController) (p : Port) : (s.setMc x).port p = s.port p := rfl
@[simp] theorem State.setScanner_port (s : State) (x : Scanner) (p : Port) : (s.setScanner x).port p = s.port p := rfl
@[simp] theorem State.setMonitor_port (s : State) (x : Monitor) (p : Port) : (s.setMonitor x).port p = s.port p := rfl
@[simp] theorem State.setPulse_port (s : State) (x : Pulse) (p : Port) : (s.setPulse x).port p = s.port p := rfl
@[simp] theorem State.setSelector_port (s : State) (x : Selector) (p : Port) : (s.setSelector x).port p = s.port p := rfl
@[simp] theorem State.setBudget_port (s : State) (x : Budget) (p : Port) : (s.setBudget x).port p = s.port p := rfl
@[simp] theorem State.setGovernor_port (s : State) (x : Governor) (p : Port) : (s.setGovernor x).port p = s.port p := rfl
@[simp] theorem State.setSequencer_port (s : State) (x : Sequencer) (p : Port) : (s.setSequencer x).port p = s.port p := rfl
@[simp] theorem State.setWater_port (s : State) (x : Water) (p : Port) : (s.setWater x).port p = s.port p := rfl
@[simp] theorem State.setChain_port (s : State) (x : Chain) (p : Port) : (s.setChain x).port p = s.port p := rfl
@[simp] theorem State.setOffers_port (s : State) (x : List Offer) (p : Port) : (s.setOffers x).port p = s.port p := rfl
@[simp] theorem State.setPending_port (s : State) (x : List Instr) (p : Port) : (s.setPending x).port p = s.port p := rfl
@[simp] theorem State.emit_port (s : State) (os : List Offer) (p : Port) : (s.emit os).port p = s.port p := rfl

/-! ### Claims, budget rows, side arms -/

@[simp] theorem Claims.get_set_same (c : Claims) (d : Domain) (e : Claim) : (c.set d e).get d = e := by
  cases d <;> rfl

theorem Claims.get_set (c : Claims) (d k : Domain) (e : Claim) :
    (c.set d e).get k = if k = d then e else c.get k := by
  cases d <;> cases k <;> rfl

@[simp] theorem BudgetRows.get_set_same (r : BudgetRows) (c : Consumer) (x : BudgetRow) : (r.set c x).get c = x := by
  cases c <;> rfl

theorem BudgetRows.get_set (r : BudgetRows) (c k : Consumer) (x : BudgetRow) :
    (r.set c x).get k = if k = c then x else r.get k := by
  cases c <;> cases k <;> rfl

@[simp] theorem Sequencer.arm_setArm_same (q : Sequencer) (x : Side) (a : ArmRecord) : (q.setArm x a).arm x = a := by
  cases x <;> rfl

theorem Sequencer.arm_setArm (q : Sequencer) (x y : Side) (a : ArmRecord) :
    (q.setArm x a).arm y = if y = x then a else q.arm y := by
  cases x <;> cases y <;> rfl

/-! ### Emits -/

@[simp] theorem Emit.pure_val {α : Type} (x : α) : (Emit.pure x).val = x := rfl
@[simp] theorem Emit.pure_out {α : Type} (x : α) : (Emit.pure x).out = [] := rfl
@[simp] theorem Emit.andThen_val {α β : Type} (x : Emit α) (f : α → Emit β) : (x.andThen f).val = (f x.val).val := rfl
@[simp] theorem Emit.andThen_out {α β : Type} (x : Emit α) (f : α → Emit β) :
    (x.andThen f).out = x.out ++ (f x.val).out := rfl

end Sys2Proof.Machine
end

