-- ==== Sys2Proof/Laws/Blocks.lean ====
section
/-! SUPPORT. What the event functions of the blocks leave unchanged in their own records. -/

namespace Sys2Proof.Machine

/-! ### Port units -/

theorem PortUnit.link_moveWaiting (u : PortUnit) : u.moveWaiting.link = u.link := by
  unfold PortUnit.moveWaiting; split <;> rfl

theorem PortUnit.link_choose (u : PortUnit) : u.choose.link = u.link := by
  unfold PortUnit.choose
  split
  · rfl
  · split
    · rw [PortUnit.link_moveWaiting]; rfl
    · split <;> rfl

theorem PortUnit.link_chooseIfIdle (u : PortUnit) : u.chooseIfIdle.link = u.link := by
  unfold PortUnit.chooseIfIdle; split <;> first | exact u.link_choose | rfl

theorem PortUnit.link_offerNotice (u : PortUnit) (n : NoticeRecord) : (u.offerNotice n).link = u.link := by
  unfold PortUnit.offerNotice
  split
  · rfl
  · split
    · rfl
    · split
      · rw [PortUnit.link_chooseIfIdle]; rfl
      · rfl

theorem PortUnit.link_respond (u : PortUnit) (r : Response) : (u.respond r).link = u.link := by
  unfold PortUnit.respond
  split
  · rw [PortUnit.link_chooseIfIdle]; rfl
  · rfl

theorem PortUnit.link_frameSent (u : PortUnit) : u.frameSent.link = u.link := by
  unfold PortUnit.frameSent; split <;> first | exact u.link_choose | rfl

theorem PortUnit.link_noticeSent (u : PortUnit) : u.noticeSent.link = u.link := by
  unfold PortUnit.noticeSent; split <;> rfl

/-! ### Budget table -/

theorem BudgetRow.floor_decide (r : BudgetRow) (k : Coefficients) (now : Time) (p : Nat) :
    (r.decide k now p).floor = r.floor := by
  unfold BudgetRow.decide BudgetRow.tryResume BudgetRow.allocate
  split <;> (repeat' split) <;> rfl

theorem BudgetRow.demand_decide (r : BudgetRow) (k : Coefficients) (now : Time) (p : Nat) :
    (r.decide k now p).demand = r.demand := by
  unfold BudgetRow.decide BudgetRow.tryResume BudgetRow.allocate
  split <;> (repeat' split) <;> rfl

theorem BudgetRow.offered_decide (r : BudgetRow) (k : Coefficients) (now : Time) (p : Nat) :
    (r.decide k now p).offered = r.offered := by
  unfold BudgetRow.decide BudgetRow.tryResume BudgetRow.allocate
  split <;> (repeat' split) <;> rfl

theorem BudgetRow.rank_decide (r : BudgetRow) (k : Coefficients) (now : Time) (p : Nat) :
    (r.decide k now p).rank = r.rank := by
  unfold BudgetRow.decide BudgetRow.tryResume BudgetRow.allocate
  split <;> (repeat' split) <;> rfl

/-- A row at its turn is granted at most the points remaining. -/
theorem BudgetRow.grant_decide_le (r : BudgetRow) (k : Coefficients) (now : Time) (p : Nat) :
    (r.decide k now p).grant ≤ p := by
  unfold BudgetRow.decide BudgetRow.tryResume BudgetRow.allocate
  split
  · split
    · rename_i h
      simp only [Bool.and_eq_true, decide_eq_true_eq] at h
      have := h.2
      exact le_trans (Nat.le_add_right _ _) this
    · exact Nat.zero_le _
  all_goals
    split
    · assumption
    · split
      · exact le_refl _
      · exact Nat.zero_le _

/-- The walk keeps every row's offered demand, demand, rank and trim floor. -/
theorem BudgetRows.walk_kept (k : Coefficients) (now : Time) (cs : List Consumer) (p : Nat) (rows : BudgetRows)
    (c : Consumer) :
    (((BudgetRows.walk k now cs p rows).val.get c).offered = (rows.get c).offered ∧
      ((BudgetRows.walk k now cs p rows).val.get c).demand = (rows.get c).demand ∧
      ((BudgetRows.walk k now cs p rows).val.get c).rank = (rows.get c).rank ∧
      ((BudgetRows.walk k now cs p rows).val.get c).floor = (rows.get c).floor) := by
  induction cs generalizing p rows with
  | nil => exact ⟨rfl, rfl, rfl, rfl⟩
  | cons d ds ih =>
    have h := ih (p - ((rows.get d).decide k now p).grant) (rows.set d ((rows.get d).decide k now p))
    simp only [BudgetRows.get_set] at h
    by_cases e : c = d
    · subst e
      simpa [BudgetRows.walk, BudgetRow.offered_decide, BudgetRow.demand_decide, BudgetRow.rank_decide,
        BudgetRow.floor_decide] using h
    · simpa [BudgetRows.walk, e] using h

/-- What an offer to the budget table never changes. -/
def Budget.record (b : Budget) : Coefficients × Nat × ReserveSource × Option Port × Option Time × List Nat :=
  (b.coefficients, b.reserve, b.source, b.lastReporter, b.leaseExpiry, consumers.map fun c => (b.rows.get c).floor)

theorem Budget.record_recomputeFrom (b : Budget) (o : BudgetRows) (now : Time) :
    (b.recomputeFrom o now).val.record = b.record := by
  have h := fun c => (BudgetRows.walk_kept b.coefficients now b.rows.order b.ceiling b.rows c).2.2.2
  simp [Budget.record, Budget.recomputeFrom, h]

theorem Budget.record_recompute (b : Budget) (now : Time) : (b.recompute now).val.record = b.record :=
  b.record_recomputeFrom b.rows now

theorem Budget.record_rederive (b : Budget) (now : Time) : (b.rederive now).val.record = b.record := by
  unfold Budget.rederive
  dsimp only
  split
  · rfl
  · rw [Budget.record_recompute]; rfl

theorem Budget.record_takeDerate (b : Budget) (now : Time) (n : Nat) : (b.takeDerate now n).val.record = b.record := by
  unfold Budget.takeDerate
  rw [Budget.record_rederive]; rfl

theorem Budget.record_takeDemand (b : Budget) (now : Time) (c : Consumer) (n : Nat) :
    (b.takeDemand now c n).val.record = b.record := by
  unfold Budget.takeDemand
  dsimp only
  split
  · cases c <;> rfl
  · rw [Budget.record_recompute]; cases c <;> rfl

theorem Budget.record_takeMode (b : Budget) (now : Time) (m : Mode) : (b.takeMode now m).val.record = b.record := by
  unfold Budget.takeMode
  dsimp only
  split
  · rfl
  · rw [Budget.record_recompute]; rfl

theorem Budget.record_takeRanks (b : Budget) (now : Time) (l : List Consumer) :
    (b.takeRanks now l).val.record = b.record := by
  unfold Budget.takeRanks
  dsimp only
  split
  · rfl
  · rw [Budget.record_recompute]; rfl

theorem Budget.record_start (b : Budget) (now : Time) (l : List Consumer) : (b.start now l).val.record = b.record := by
  unfold Budget.start
  rw [Budget.record_recompute]; rfl

theorem Budget.record_restart (b : Budget) (now : Time) : (b.restart now).val.record = b.record := by
  unfold Budget.restart
  rw [Budget.record_recomputeFrom]; rfl

/-! ### Travel governor -/

/-- What an offer to the travel governor never changes. -/
def Governor.record (g : Governor) : TravelSettings × DriveMap := (g.settings, g.map)

theorem Governor.record_startLiftWait (g : Governor) (now : Time) : (g.startLiftWait now).record = g.record := by
  unfold Governor.startLiftWait
  split
  · split <;> rfl
  · rfl

theorem Governor.record_cut (g : Governor) (now : Time) : (g.cut now).record = g.record := by
  unfold Governor.cut
  split
  · rw [Governor.record_startLiftWait]; rfl
  · rfl

theorem Governor.record_rederive (g : Governor) (now : Time) : (g.rederive now).val.record = g.record := by
  show ((g.takeCeiling.cut now)).record = g.record
  rw [Governor.record_cut]; rfl

theorem Governor.record_holdReverse (g : Governor) (now : Time) : (g.holdReverse now).val.record = g.record := by
  unfold Governor.holdReverse
  exact (Governor.record_startLiftWait _ _).trans rfl

theorem Governor.record_takeSign (g : Governor) (now : Time) (i : Int) : (g.takeSign now i).val.record = g.record := by
  unfold Governor.takeSign Governor.enter
  repeat' split
  all_goals first | rfl | exact g.record_holdReverse now

theorem Governor.record_newRequest (g : Governor) (now : Time) (r : Int) :
    (g.newRequest now r).val.record = g.record := by
  unfold Governor.newRequest
  simp only [Emit.andThen_val]
  rw [Governor.record_rederive, Governor.record_takeSign]; rfl

theorem Governor.record_beginTest (g : Governor) : g.beginTest.record = g.record := by
  unfold Governor.beginTest
  repeat' split
  all_goals rfl

theorem Governor.record_judge (g : Governor) (w : SlipWindow) : (g.judge w).val.record = g.record := by
  unfold Governor.judge
  repeat' split
  all_goals rfl

theorem Governor.record_slipWindowEnd (g : Governor) (now : Time) : (g.slipWindowEnd now).val.record = g.record := by
  unfold Governor.slipWindowEnd
  split
  · dsimp only
    split
    · rw [Governor.record_judge]; rfl
    · rfl
  · split <;> rfl

theorem Governor.record_takeCopies (g : Governor) (now : Time) (c : TravelCopies) :
    (g.takeCopies now c).val.record = g.record := by
  unfold Governor.takeCopies
  rw [Governor.record_rederive]; rfl

theorem Governor.record_takeMotor (g : Governor) (now : Time) (n : Nat) (d : Direction) (j k : Nat) (w : Bool) :
    (g.takeMotor now n d j k w).val.record = g.record := by
  unfold Governor.takeMotor
  simp only [Emit.andThen_val, Emit.pure_val]
  rw [Governor.record_rederive, Governor.record_beginTest]
  split
  · rw [Governor.record_slipWindowEnd]; rfl
  · rfl

theorem Governor.record_takeGround (g : Governor) (now : Time) (x : GroundStatus) (j k : Nat) :
    (g.takeGround now x j k).val.record = g.record := by
  unfold Governor.takeGround
  dsimp only
  rw [Governor.record_rederive]
  cases x <;> rfl

theorem Governor.record_takeImplements (g : Governor) (now : Time) (r : ImplementReport) :
    (g.takeImplements now r).val.record = g.record := by
  unfold Governor.takeImplements
  simp only [Emit.andThen_val]
  rw [Governor.record_rederive]
  split
  · exact (Governor.record_takeCopies _ _ _)
  · exact (Governor.record_beginTest _).trans (Governor.record_takeCopies _ _ _)

theorem Governor.record_takeMode (g : Governor) (now : Time) (m : Mode) : (g.takeMode now m).val.record = g.record := by
  unfold Governor.takeMode
  split
  · exact g.record_takeCopies _ _
  · exact (Governor.record_rederive _ _).trans rfl

theorem Governor.record_start (g : Governor) (now : Time) : (g.start now).val.record = g.record := by
  unfold Governor.start
  rw [Governor.record_rederive]; rfl

theorem Governor.record_holderChanged (g : Governor) (now : Time) : (g.holderChanged now).val.record = g.record := by
  unfold Governor.holderChanged
  rw [Governor.record_newRequest]; rfl

/-! ### Implement sequencer -/

theorem ArmRecord.settings_closeMotion (a : ArmRecord) (x : Side) (t : Moment) (o : MotionOutcome)
    (c : Option AbortCause) : (a.closeMotion x t o c).val.settings = a.settings := by
  unfold ArmRecord.closeMotion; split <;> rfl

theorem ArmRecord.settings_toFault (a : ArmRecord) (x : Side) (t : Moment) (b : Bool) (c : FaultCause) :
    (a.toFault x t b c).val.settings = a.settings := by
  unfold ArmRecord.toFault
  simp only [Emit.andThen_val]
  split <;> exact a.settings_closeMotion _ _ _ _

theorem ArmRecord.settings_gainCause (a : ArmRecord) (x : Side) (t : Moment) (c : AbortCause) :
    (a.gainCause x t c).val.settings = a.settings := by
  unfold ArmRecord.gainCause
  split <;> first | rfl | exact a.settings_closeMotion _ _ _ _

theorem ArmRecord.settings_becomeIn (a : ArmRecord) (x : Side) (t : Moment) :
    (a.becomeIn x t).val.settings = a.settings := by
  unfold ArmRecord.becomeIn
  repeat' (first | split | dsimp only)
  all_goals first | rfl | exact ArmRecord.settings_closeMotion _ _ _ _ _

theorem ArmRecord.settings_becomeOut (a : ArmRecord) (x : Side) (t : Moment) (b : Bool) :
    (a.becomeOut x t b).val.settings = a.settings := by
  unfold ArmRecord.becomeOut
  cases b
  all_goals
    repeat' (first | split | dsimp only)
    all_goals first | rfl | exact ArmRecord.settings_closeMotion _ _ _ _ _

theorem ArmRecord.settings_advance (a : ArmRecord) (t : Moment) (b : Bool) : (a.advance t b).settings = a.settings := by
  unfold ArmRecord.advance
  repeat' split
  all_goals rfl

theorem Sequencer.settings_reactArm (old q : Sequencer) (x : Side) (t : Moment) :
    (old.reactArm q x t).val.settings = (q.arm x).settings := by
  unfold Sequencer.reactArm
  simp only [Emit.andThen_val, Emit.pure_val, ArmRecord.settings_advance]
  repeat' split
  all_goals
    first
    | rfl
    | exact ArmRecord.settings_becomeIn _ _ _
    | exact ArmRecord.settings_becomeOut _ _ _ _
    | exact ArmRecord.settings_gainCause _ _ _ _

theorem MainRecord.settings_advance (b : MainRecord) (t : Moment) (d : Bool) :
    (b.advance t d).settings = b.settings := by
  unfold MainRecord.advance
  repeat' split
  all_goals rfl

/-- What an offer to the implement sequencer never changes. -/
def Sequencer.record (q : Sequencer) : ArmSettings × ArmSettings × ArmSettings :=
  (q.left.settings, q.right.settings, q.main.settings)

theorem Sequencer.record_finish (old q : Sequencer) (b : Bool) : (old.finish q b).val.record = q.record := by
  unfold Sequencer.finish Sequencer.drive
  dsimp only
  split <;> rfl

theorem Sequencer.record_react (old q : Sequencer) (t : Moment) : (old.react q t).val.record = q.record := by
  unfold Sequencer.react
  split
  · simp [Sequencer.record, Sequencer.settings_reactArm, MainRecord.settings_advance, Sequencer.arm]
  · rfl

theorem Sequencer.record_event (old q : Sequencer) (t : Moment) : (old.event q t).val.record = q.record := by
  unfold Sequencer.event
  simp only [Emit.andThen_val]
  rw [Sequencer.record_finish, Sequencer.record_react]

theorem ArmRecord.settings_published (a : ArmRecord) (x : Side) (t : Moment) :
    (a.published x t).val.settings = a.settings := by
  unfold ArmRecord.published
  repeat' split
  all_goals first | rfl | exact ArmRecord.settings_closeMotion _ _ _ _ _

theorem Sequencer.record_takeMeasures (q : Sequencer) (t : Moment) (a b c d : Option Int) :
    (q.takeMeasures t a b c d).val.record = q.record := by
  unfold Sequencer.takeMeasures
  dsimp only
  split
  · simp only [Emit.andThen_val, Emit.pure_val, Sequencer.record_finish]
    simp [Sequencer.record, ArmRecord.settings_published]
  · rw [Sequencer.record_finish]; rfl

theorem ArmRecord.settings_newReach (a : ArmRecord) (t : Moment) : (a.newReach t).settings = a.settings := by
  unfold ArmRecord.newReach; split <;> rfl

theorem Sequencer.record_takeProfile (q : Sequencer) (t : Moment) (r : Profile) :
    (q.takeProfile t r).val.record = q.record := by
  unfold Sequencer.takeProfile
  simp only [Emit.andThen_val, Sequencer.record_finish]
  have h := fun p => Sequencer.record_react q p t
  simp only [Sequencer.record, Prod.mk.injEq] at h ⊢
  split
  · refine ⟨?_, ?_, (h _).2.2⟩
    · dsimp only; split
      · exact (h _).1
      · rw [ArmRecord.settings_newReach]; exact (h _).1
    · dsimp only; split
      · exact (h _).2.1
      · rw [ArmRecord.settings_newReach]; exact (h _).2.1
  · exact h _

theorem ArmRecord.settings_takeFailed (a : ArmRecord) (x : Side) (t : Moment) (b f : Bool) :
    (a.takeFailed x t b f).val.settings = a.settings := by
  unfold ArmRecord.takeFailed
  dsimp only
  repeat' split
  all_goals first | rfl | exact ArmRecord.settings_toFault _ _ _ _ _

theorem MainRecord.settings_takeFailed (a : MainRecord) (b f : Bool) :
    (a.takeFailed b f).val.settings = a.settings := by
  unfold MainRecord.takeFailed MainRecord.toFault
  dsimp only
  repeat' split
  all_goals rfl

theorem Sequencer.record_takeFailed (q : Sequencer) (t : Moment) (l r m : Bool) :
    (q.takeFailed t l r m).val.record = q.record := by
  unfold Sequencer.takeFailed
  simp only [Emit.andThen_val, Sequencer.record_finish]
  simp [Sequencer.record, ArmRecord.settings_takeFailed, MainRecord.settings_takeFailed]

theorem ArmRecord.settings_halt (a : ArmRecord) (x : Side) (t : Moment) : (a.halt x t).val.settings = a.settings := by
  unfold ArmRecord.halt
  simp only [Emit.andThen_val, Emit.pure_val]
  exact a.settings_closeMotion _ _ _ _

theorem Sequencer.record_takeMode (q : Sequencer) (t : Moment) (m : Mode) : (q.takeMode t m).val.record = q.record := by
  unfold Sequencer.takeMode Sequencer.halt
  split
  · rw [Sequencer.record_event]; rfl
  · simp only [Emit.andThen_val, Sequencer.record_finish]
    simp [Sequencer.record, ArmRecord.settings_halt, MainRecord.halt]

theorem ArmRecord.settings_start (a : ArmRecord) (x : Side) (t : Moment) :
    (a.start x t).val.settings = a.settings := by
  unfold ArmRecord.start
  dsimp only
  repeat' split
  all_goals first | rfl | exact ArmRecord.settings_toFault _ _ _ _ _

theorem MainRecord.settings_start (b : MainRecord) (t : Moment) : (b.start t).settings = b.settings := by
  unfold MainRecord.start
  dsimp only
  repeat' split
  all_goals rfl

theorem Sequencer.record_start (q : Sequencer) (t : Moment) : (q.start t).val.record = q.record := by
  unfold Sequencer.start
  simp only [Emit.andThen_val, Sequencer.record_finish]
  simp [Sequencer.record, ArmRecord.settings_start, MainRecord.settings_start]

theorem Sequencer.record_restart (q : Sequencer) : q.restart.val.record = q.record := by
  unfold Sequencer.restart
  rw [Sequencer.record_finish]; rfl

/-! ### Water controller -/

/-- What an offer to the water controller never changes. -/
def Water.record (w : Water) : WaterSettings × Vector Association 12 := (w.settings, w.associations)

theorem Water.record_reevaluate (old w : Water) (now : Time) : (old.reevaluate w now).val.record = w.record := by
  have h : ∀ v : Water, (v.transit now).record = v.record := by
    intro v
    unfold Water.transit Water.offOrPrime
    repeat' split
    all_goals rfl
  exact (h w.takeDuties).trans rfl

theorem Water.record_takeTank (w : Water) (now : Time) (l : Option Int) : (w.takeTank now l).val.record = w.record := by
  unfold Water.takeTank
  simp only [Emit.andThen_val, Water.record_reevaluate]
  unfold Water.latch
  repeat' split
  all_goals rfl

theorem Water.record_takeGround (w : Water) (now : Time) (x : GroundStatus) (n : Nat) :
    (w.takeGround now x n).val.record = w.record := by
  unfold Water.takeGround Water.takeCopies
  dsimp only
  split
  · simp only [Emit.andThen_val, Water.record_reevaluate]
    unfold Water.autoCutTest
    dsimp only
    split <;> rfl
  · simp only [Emit.andThen_val]
    have h : ∀ v : Water, v.autoCutEnds.val.record = v.record := by
      intro v
      unfold Water.autoCutEnds
      split <;> rfl
    rw [h, Water.record_reevaluate]; rfl
  all_goals exact (Water.record_reevaluate _ _ _).trans rfl

/-! ### Valve chain driver -/

/-- What an offer to the chain driver never changes. -/
def Chain.record (c : Chain) : Mask × Mask × Mask × Mask := (c.loaded, c.prevLoaded, c.echo, c.fault)

theorem Chain.record_recompose (c : Chain) : c.recompose.record = c.record := by
  unfold Chain.recompose Chain.wantRefresh
  dsimp only
  repeat' split
  all_goals rfl

theorem Chain.record_unfail (c : Chain) (m : Mask) : (c.unfail m).val.record = c.record := by
  unfold Chain.unfail
  exact (Chain.record_recompose _).trans rfl

/-! ### Measurement scanner, window monitor, pulse unit, profile selector, mode controller -/

/-- What an offer to the scanner never changes. -/
def Scanner.record (c : Scanner) : Vector RoleEntry 12 × List ScanEntry × Nat × Nat :=
  (c.roleMap, c.scanList, c.period, c.staleLimit)

theorem Scanner.record_start (c : Scanner) (now : Time) : (c.start now).record = c.record := by
  unfold Scanner.start
  dsimp only
  repeat' split
  all_goals rfl

theorem Scanner.record_becomeStale (c : Scanner) : c.becomeStale.val.record = c.record := by
  unfold Scanner.becomeStale; split <;> rfl

theorem Scanner.record_restart (c : Scanner) : c.restart.val.record = c.record := by
  unfold Scanner.restart
  rw [Scanner.record_becomeStale]; rfl

/-- What an offer to the window monitor never changes. -/
def Monitor.record (m : Monitor) : Vector Window 6 × List (Option (Fin 6) × Sense) :=
  (m.windows, sixteen.map fun c => ((m.assignments.get c).window, (m.assignments.get c).sense))

theorem Monitor.get_clearLatches (m : Monitor) (x : Mask) (c : Fin 16) :
    (m.clearLatches x).assignments.get c =
      if x.getLsbD c.val && (m.assignments.get c).latched then (m.assignments.get c).clear
      else m.assignments.get c := by
  simp [Monitor.clearLatches, Vector.get_eq_getElem]

theorem Monitor.record_restart (m : Monitor) : m.restart.val.record = m.record := by
  have h : ∀ c, (((m.clearLatches 0xFFFF).assignments.get c).window, ((m.clearLatches 0xFFFF).assignments.get c).sense)
      = ((m.assignments.get c).window, (m.assignments.get c).sense) := by
    intro c
    rw [Monitor.get_clearLatches]
    split <;> rfl
  exact Prod.ext rfl (List.map_congr_left fun c _ => h c)

/-- What an offer to the pulse unit never changes. -/
def Pulse.record (u : Pulse) : Nat × Nat × Nat × Nat := (u.motorPpm, u.groundPpm, u.window, u.lossTime)

/-- What an offer to the profile selector never changes. -/
def Selector.record (x : Selector) : Vector Profile 8 × Vector Zone 16 × ZoneCode := (x.rows, x.zones, x.sharedMask)

theorem Selector.record_applyChange (x : Selector) (r : Fin 8) (c : ZoneCode) :
    (x.applyChange r c).val.record = x.record := by
  unfold Selector.applyChange
  dsimp only
  split <;> rfl

theorem Selector.record_pathAdvance (x : Selector) (n k : Nat) : (x.pathAdvance n k).val.record = x.record := by
  unfold Selector.pathAdvance
  dsimp only
  split
  · rfl
  · rw [Selector.record_applyChange]; rfl

theorem Selector.record_restart (x : Selector) : x.restart.val.record = x.record := by
  unfold Selector.restart
  dsimp only
  split <;> rfl

/-- What an offer to the mode controller never changes. -/
def ModeController.record (c : ModeController) : Time × Claims × Limits × Bool × Bool × Bool × Bool × Option Time :=
  (c.time, c.claims, c.limits, c.softLock, c.hardLock, c.estopAsserted, c.estopLine, c.estopTimer)

theorem ModeController.record_takeHalt (c : ModeController) (b : Bool) : (c.takeHalt b).val.record = c.record := by
  unfold ModeController.takeHalt
  dsimp only
  split <;> rfl

theorem ModeController.record_stowTest (c : ModeController) : c.stowTest.val.record = c.record := by
  unfold ModeController.stowTest
  split <;> rfl

end Sys2Proof.Machine
end

