-- ==== Sys2Proof/Laws/Operands.lean ====
section
/-! SUPPORT. What the readers of a record's fields answer, said once for each: a value and the bound it meets. -/

namespace Sys2Proof.Machine

theorem inRange_eq_some {lo hi x y : Nat} : inRange lo hi x = some y ↔ y = x ∧ lo ≤ y ∧ y ≤ hi := by
  unfold inRange; split <;> simp <;> omega

theorem below_eq_some {n x : Nat} {y : Fin n} : below n x = some y ↔ y.val = x := by
  unfold below; split
  · simp only [Option.some.injEq, Fin.ext_iff]; exact eq_comm
  · simp; omega

theorem channelAt_eq_some {r : List Byte} {o : Nat} {y : Option (Fin 16)} :
    channelAt r o = some y ↔ y.elim 16 Fin.val = field1 r o := by
  unfold channelAt
  rcases y with _ | y
  · simp; exact eq_comm
  · split
    · simp; omega
    · simp [below_eq_some]

theorem flagAt_eq_some {r : List Byte} {o : Nat} {b : Bool} : flagAt r o = some b ↔ b.toNat = field1 r o := by
  unfold flagAt; split <;> cases b <;> simp_all <;> omega

theorem groupsAt_eq_some {r : List Byte} {o : Nat} {y : GroupSet} : groupsAt r o = some y ↔ y.toNat = field2 r o := by
  unfold groupsAt; split
  · rename_i h; simp [← BitVec.toNat_inj, Nat.mod_eq_of_lt h]; exact eq_comm
  · simp; omega

theorem code24At_eq_some {r : List Byte} {o : Nat} {y : ZoneCode} : code24At r o = some y ↔ y.toNat = field4 r o := by
  unfold code24At; split
  · rename_i h; simp [← BitVec.toNat_inj, Nat.mod_eq_of_lt h]; exact eq_comm
  · simp; omega

theorem WindowAction.ofNumber_eq_some {n : Nat} {x : WindowAction} : WindowAction.ofNumber n = some x ↔ x.number = n := by
  constructor
  · unfold WindowAction.ofNumber; split <;> rintro ⟨⟩ <;> rfl
  · rintro rfl; cases x <;> rfl

theorem Sense.ofNumber_eq_some {n : Nat} {x : Sense} : Sense.ofNumber n = some x ↔ x.number = n := by
  constructor
  · unfold Sense.ofNumber; split <;> rintro ⟨⟩ <;> rfl
  · rintro rfl; cases x <;> rfl

theorem consumerOfNumber_eq_some {n : Nat} {x : Consumer} : consumerOfNumber n = some x ↔ consumerNumber x = n := by
  constructor
  · unfold consumerOfNumber; split <;> rintro ⟨⟩ <;> rfl
  · rintro rfl; cases x <;> rfl

theorem ArmsUsed.ofNumber_eq_some {n : Nat} {x : ArmsUsed} : ArmsUsed.ofNumber n = some x ↔ x.number = n := by
  constructor
  · unfold ArmsUsed.ofNumber; split <;> rintro ⟨⟩ <;> rfl
  · rintro rfl; cases x <;> rfl

theorem Association.ofNumber_eq_some {n : Nat} {x : Association} : Association.ofNumber n = some x ↔ x.number = n := by
  constructor
  · unfold Association.ofNumber; split <;> rintro ⟨⟩ <;> rfl
  · rintro rfl; cases x <;> rfl

end Sys2Proof.Machine
end

