-- ==== Sys2Proof/Laws/Settle.lean ====
section
/-! SUPPORT. What taking offers can do: settling with no offer left is no change; a property that every offer keeps
survives settling; offers change no configuration record and no standing record; and what each offer can change. -/

namespace Sys2Proof.Machine

/-! ### Settling -/

/-- With no offer waiting, settling changes nothing. -/
@[simp] theorem settleN_of_offers_nil (n : Nat) (s : State) (h : s.offers = []) : settleN n s = s := by
  cases n with
  | zero => rfl
  | succ n => simp [settleN, h]

/-- With no offer waiting, settling changes nothing. -/
@[simp] theorem State.settle_of_offers_nil (s : State) (h : s.offers = []) : s.settle = s :=
  settleN_of_offers_nil _ s h

/-- One step of settling. -/
theorem settleN_succ (n : Nat) (s : State) (o : Offer) (os : List Offer) (h : s.offers = o :: os) :
    settleN (n + 1) s = settleN n (deliver o (s.setOffers os)) := by
  simp [settleN, h]

/-- A property that no replacement of the offers and no offer breaks survives settling. -/
theorem settleN_keeps {P : State → Prop} (hs : ∀ s os, P s → P (s.setOffers os)) (hd : ∀ o s, P s → P (deliver o s))
    (n : Nat) (s : State) (h : P s) : P (settleN n s) := by
  induction n generalizing s with
  | zero => exact h
  | succ n ih =>
    unfold settleN
    split
    · exact h
    · exact ih _ (hd _ _ (hs _ _ h))

/-- A property that no replacement of the offers and no offer breaks survives settling. -/
theorem State.settle_keeps {P : State → Prop} (hs : ∀ s os, P s → P (s.setOffers os))
    (hd : ∀ o s, P s → P (deliver o s)) (s : State) (h : P s) : P s.settle :=
  settleN_keeps hs hd _ s h

/-- A property that needs the waiting offers to be of a class `C`, which every such offer keeps, survives settling. -/
theorem settleN_keeps_of_class {C : Offer → Prop} {P : State → Prop} (hs : ∀ s os, P s → P (s.setOffers os))
    (hd : ∀ o s, C o → P s → (∀ x ∈ s.offers, C x) → P (deliver o s) ∧ ∀ x ∈ (deliver o s).offers, C x)
    (n : Nat) (s : State) (h : P s) (hc : ∀ x ∈ s.offers, C x) :
    P (settleN n s) ∧ ∀ x ∈ (settleN n s).offers, C x := by
  induction n generalizing s with
  | zero => exact ⟨h, hc⟩
  | succ n ih =>
    cases e : s.offers with
    | nil => rw [settleN_of_offers_nil _ _ e]; exact ⟨h, hc⟩
    | cons o os =>
      rw [settleN_succ n s o os e]
      have hrest : ∀ x ∈ (s.setOffers os).offers, C x := fun x hx => hc x (by rw [e]; exact List.mem_cons_of_mem _ hx)
      have := hd o (s.setOffers os) (hc o (by rw [e]; exact List.mem_cons_self)) (hs _ _ h) hrest
      exact ih _ this.1 this.2

/-! ### One block's event -/

@[simp] theorem State.withMc_mc (s : State) (e : Emit ModeController) : (s.withMc e).mc = e.val := rfl
@[simp] theorem State.withScanner_scanner (s : State) (e : Emit Scanner) : (s.withScanner e).scanner = e.val := rfl
@[simp] theorem State.withMonitor_monitor (s : State) (e : Emit Monitor) : (s.withMonitor e).monitor = e.val := rfl
@[simp] theorem State.withPulse_pulse (s : State) (e : Emit Pulse) : (s.withPulse e).pulse = e.val := rfl
@[simp] theorem State.withSelector_selector (s : State) (e : Emit Selector) : (s.withSelector e).selector = e.val := rfl
@[simp] theorem State.withBudget_budget (s : State) (e : Emit Budget) : (s.withBudget e).budget = e.val := rfl
@[simp] theorem State.withGovernor_governor (s : State) (e : Emit Governor) : (s.withGovernor e).governor = e.val := rfl
@[simp] theorem State.withSequencer_sequencer (s : State) (e : Emit Sequencer) :
    (s.withSequencer e).sequencer = e.val := rfl
@[simp] theorem State.withWater_water (s : State) (e : Emit Water) : (s.withWater e).water = e.val := rfl
@[simp] theorem State.withChain_chain (s : State) (e : Emit Chain) : (s.withChain e).chain = e.val := rfl

/-! ### Notices -/

theorem Ports.get_map_link {ps qs : Ports} (h0 : qs.s0.link = ps.s0.link) (h1 : qs.s1.link = ps.s1.link)
    (h2 : qs.s2.link = ps.s2.link) (p : Port) : (qs.get p).link = (ps.get p).link := by
  cases p <;> assumption

theorem State.standing_post (s : State) (k : NoticeKind) (n : Nat) (v : Int) :
    (s.post k n v).standing = s.standing := by
  simp [State.standing, State.post, State.setPorts, PortUnit.link_offerNotice]

theorem State.standing_setPort (s : State) (p : Port) (u : PortUnit) (h : u.link = (s.port p).link) :
    (s.setPort p u).standing = s.standing := by
  cases p <;> simp_all [State.standing, State.setPort, State.setPorts, Ports.set, State.port, Ports.get]

theorem State.standing_postTo (s : State) (p : Port) (k : NoticeKind) (n : Nat) (v : Int) :
    (s.postTo p k n v).standing = s.standing :=
  s.standing_setPort p _ (PortUnit.link_offerNotice _ _)

/-! ### No offer changes a configuration or a standing record -/

theorem Kept.refl (s : State) : Kept s s := ⟨rfl, rfl⟩

theorem Kept.trans {s t u : State} (a : Kept s t) (b : Kept t u) : Kept s u :=
  ⟨b.1.trans a.1, b.2.trans a.2⟩

theorem Kept.setOffers (s : State) (os : List Offer) : Kept s (s.setOffers os) := ⟨rfl, rfl⟩

theorem Kept.emit (s : State) (os : List Offer) : Kept s (s.emit os) := ⟨rfl, rfl⟩

theorem Kept.setMc (s : State) (x : ModeController) (h : x.record = s.mc.record) : Kept s (s.setMc x) := by
  simp only [ModeController.record, Prod.mk.injEq] at h
  simp [Kept, State.configuration, State.standing, State.setMc, h]

theorem Kept.setScanner (s : State) (x : Scanner) (h : x.record = s.scanner.record) : Kept s (s.setScanner x) := by
  simp only [Scanner.record, Prod.mk.injEq] at h
  simp [Kept, State.configuration, State.standing, State.setScanner, h]

theorem Kept.setMonitor (s : State) (x : Monitor) (h : x.record = s.monitor.record) : Kept s (s.setMonitor x) := by
  simp only [Monitor.record, Prod.mk.injEq] at h
  refine ⟨?_, rfl⟩
  simp only [State.configuration, State.setMonitor, h.1, h.2]

theorem Kept.setPulse (s : State) (x : Pulse) (h : x.record = s.pulse.record) : Kept s (s.setPulse x) := by
  simp only [Pulse.record, Prod.mk.injEq] at h
  simp [Kept, State.configuration, State.standing, State.setPulse, h]

theorem Kept.setSelector (s : State) (x : Selector) (h : x.record = s.selector.record) : Kept s (s.setSelector x) := by
  simp only [Selector.record, Prod.mk.injEq] at h
  simp [Kept, State.configuration, State.standing, State.setSelector, h]

theorem Kept.setBudget (s : State) (x : Budget) (h : x.record = s.budget.record) : Kept s (s.setBudget x) := by
  simp only [Budget.record, Prod.mk.injEq] at h
  exact ⟨by simp only [State.configuration, State.setBudget, h], by simp only [State.standing, State.setBudget, h]⟩

theorem Kept.setGovernor (s : State) (x : Governor) (h : x.record = s.governor.record) : Kept s (s.setGovernor x) := by
  simp only [Governor.record, Prod.mk.injEq] at h
  simp [Kept, State.configuration, State.standing, State.setGovernor, h]

theorem Kept.setSequencer (s : State) (x : Sequencer) (h : x.record = s.sequencer.record) :
    Kept s (s.setSequencer x) := by
  simp only [Sequencer.record, Prod.mk.injEq] at h
  simp [Kept, State.configuration, State.standing, State.setSequencer, h]

theorem Kept.setWater (s : State) (x : Water) (h : x.record = s.water.record) : Kept s (s.setWater x) := by
  simp only [Water.record, Prod.mk.injEq] at h
  simp [Kept, State.configuration, State.standing, State.setWater, h]

theorem Kept.setChain (s : State) (x : Chain) (h : x.record = s.chain.record) : Kept s (s.setChain x) := by
  simp only [Chain.record, Prod.mk.injEq] at h
  simp [Kept, State.configuration, State.standing, State.setChain, h]

/-- No offer changes a configuration record or a standing record. -/
theorem deliver_kept (o : Offer) (s : State) : Kept s (deliver o s) := by
  have mc := fun e => Kept.setMc s e
  have bu := fun (e : Emit Budget) h => (Kept.setBudget s e.val h).trans (Kept.emit _ e.out)
  have go := fun (e : Emit Governor) h => (Kept.setGovernor s e.val h).trans (Kept.emit _ e.out)
  have se := fun (e : Emit Sequencer) h => (Kept.setSequencer s e.val h).trans (Kept.emit _ e.out)
  have wa := fun (e : Emit Water) h => (Kept.setWater s e.val h).trans (Kept.emit _ e.out)
  cases o
  case post k n v => exact ⟨rfl, s.standing_post k n v⟩
  case postTo p k n v => exact ⟨rfl, s.standing_postTo p k n v⟩
  case scannerHalted => exact Kept.setScanner s _ rfl
  case scannerStart => exact Kept.setScanner s _ (Scanner.record_start _ _)
  case scannerRestart => exact (Kept.setScanner s _ (Scanner.record_restart _)).trans (Kept.emit _ _)
  case monitorRestart => exact (Kept.setMonitor s _ (Monitor.record_restart _)).trans (Kept.emit _ _)
  case pulseStart => exact Kept.setPulse s _ rfl
  case pulseRestart => exact (Kept.setPulse s _ rfl).trans (Kept.emit _ _)
  case selectorStart => exact (Kept.setSelector s _ rfl).trans (Kept.emit _ _)
  case selectorRestart => exact (Kept.setSelector s _ (Selector.record_restart _)).trans (Kept.emit _ _)
  case selectorPath n k => exact (Kept.setSelector s _ (Selector.record_pathAdvance _ n k)).trans (Kept.emit _ _)
  case haltOutput b => exact (Kept.setMc s _ (ModeController.record_takeHalt _ b)).trans (Kept.emit _ _)
  case modeImplements l r m =>
    exact (Kept.setMc s (s.mc.takeImplements l r m).val ((ModeController.record_stowTest _).trans rfl)).trans
      (Kept.emit _ _)
  case budgetMode => exact bu _ (Budget.record_takeMode _ _ _)
  case budgetStart => exact bu _ (Budget.record_start _ _ _)
  case budgetRestart => exact bu _ (Budget.record_restart _ _)
  case budgetDerate => exact bu _ (Budget.record_takeDerate _ _ _)
  case budgetRanks => exact bu _ (Budget.record_takeRanks _ _ _)
  case demand => exact bu _ (Budget.record_takeDemand _ _ _ _)
  case governorMode => exact go _ (Governor.record_takeMode _ _ _)
  case governorStart => exact go _ (Governor.record_start _ _)
  case governorLimits => exact go _ (Governor.record_takeCopies _ _ _)
  case governorStale => exact go _ (Governor.record_takeCopies _ _ _)
  case governorGrade => exact go _ (Governor.record_takeCopies _ _ _)
  case governorStop => exact go _ (Governor.record_takeCopies _ _ _)
  case governorCap => exact go _ (Governor.record_takeCopies _ _ _)
  case governorCoefficients => exact go _ (Governor.record_takeCopies _ _ _)
  case governorGrant => exact go _ (Governor.record_takeCopies _ _ _)
  case governorMotor => exact go _ (Governor.record_takeMotor _ _ _ _ _ _ _)
  case governorGround => exact go _ (Governor.record_takeGround _ _ _ _ _)
  case governorImplements => exact go _ (Governor.record_takeImplements _ _ _)
  case sequencerMode => exact se _ (Sequencer.record_takeMode _ _ _)
  case sequencerStart => exact se _ (Sequencer.record_start _ _)
  case sequencerRestart => exact se _ (Sequencer.record_restart _)
  case sequencerLimits => exact se _ ((Sequencer.record_event _ _ _).trans rfl)
  case sequencerStale => exact Kept.setSequencer s _ rfl
  case sequencerMeasures => exact se _ (Sequencer.record_takeMeasures _ _ _ _ _ _)
  case sequencerLift => exact se _ ((Sequencer.record_event _ _ _).trans rfl)
  case sequencerProfile => exact se _ (Sequencer.record_takeProfile _ _ _)
  case sequencerCoefficients => exact se _ ((Sequencer.record_event _ _ _).trans rfl)
  case sequencerGrants => exact se _ ((Sequencer.record_event _ _ _).trans rfl)
  case sequencerLiftFailed => exact se _ (Sequencer.record_takeFailed _ _ _ _ _)
  case liftForReverse => exact se _ ((Sequencer.record_event _ _ _).trans rfl)
  case waterMode => exact wa _ ((Water.record_reevaluate _ _ _).trans rfl)
  case waterStart => exact wa _ ((Water.record_reevaluate _ _ _).trans rfl)
  case waterRestart => exact wa _ ((Water.record_reevaluate _ _ _).trans rfl)
  case waterTank => exact wa _ (Water.record_takeTank _ _ _)
  case waterCut => exact wa _ ((Water.record_reevaluate _ _ _).trans rfl)
  case waterPath => exact wa _ ((Water.record_reevaluate _ _ _).trans rfl)
  case waterGround => exact wa _ (Water.record_takeGround _ _ _ _)
  case waterProfile => exact wa _ ((Water.record_reevaluate _ _ _).trans rfl)
  case waterCoefficient => exact wa _ ((Water.record_reevaluate _ _ _).trans rfl)
  case waterGrant => exact wa _ ((Water.record_reevaluate _ _ _).trans rfl)
  case waterImplements => exact wa _ ((Water.record_reevaluate _ _ _).trans rfl)
  case waterFailed => exact wa _ ((Water.record_reevaluate _ _ _).trans rfl)
  case chainMode => exact Kept.setChain s _ ((Chain.record_recompose _).trans rfl)
  case chainLifts => exact Kept.setChain s _ ((Chain.record_recompose _).trans rfl)
  case chainWater => exact Kept.setChain s _ ((Chain.record_recompose _).trans rfl)
  case chainRestart =>
    exact (Kept.setChain s _ ((show _ = (s.chain.unfail 0xFFFF).val.record from rfl).trans
      (Chain.record_unfail _ _))).trans (Kept.emit _ _)
  case holderChanged d =>
    cases d
    · exact go _ (Governor.record_holderChanged _ _)
    · exact se _ ((Sequencer.record_event _ _ _).trans rfl)
    · exact wa _ ((Water.record_reevaluate _ _ _).trans rfl)

/-- Settling changes no configuration record and no standing record. -/
theorem State.settle_kept (s : State) : Kept s s.settle :=
  s.settle_keeps (P := Kept s) (fun t os h => h.trans (Kept.setOffers t os)) (fun o t h => h.trans (deliver_kept o t))
    (Kept.refl s)

/-- A response changes no configuration record and no standing record. -/
theorem State.respond_kept (s : State) (p : Port) (k t : Byte) (r : Reply) : Kept s (s.respond p k t r) :=
  ⟨rfl, s.standing_setPort p _ (PortUnit.link_respond _ _)⟩

end Sys2Proof.Machine
end

