-- ==== Sys2Proof/Tests/Slice0.lean ====
section
/-! SUPPORT. Tests: the check of well-formed commands with terms it refuses; one or two steps of every command against
the spec's rules and worked examples; and for every statement with hypotheses a state and operands that meet them. -/

namespace Sys2Proof.Tests

set_option Elab.async false

open Sys2Proof Sys2Proof.Machine

/-! ### Helpers -/

/-- The state that a command leaves. -/
def after (c : Instr) (s : State) : State :=
  match exec c s with
  | .next t => t
  | .fault _ | .refused _ => s

/-- The payload of the frame a port sends: result code, status byte, data. -/
def sent (p : Port) (s : State) : List Byte :=
  match (s.port p).transmitter with
  | .response f => (f.drop 3).take (lengthByte f)
  | .idle | .notice .. | .noticeGap _ => []

/-- A state with one port unit changed. -/
def onPort (p : Port) (f : PortUnit → PortUnit) (s : State) : State := s.setPort p (f (s.port p))

/-- A state in a mode, with every copy of the mode. -/
def inMode (m : Mode) (s : State) : State :=
  { s with
    mc := { s.mc with mode := m }
    budget := { s.budget with mode := m }
    governor := { s.governor with copies := { s.governor.copies with mode := m } }
    sequencer := { s.sequencer with mode := m }
    water := { s.water with copies := { s.water.copies with mode := m } }
    chain := { s.chain with mode := m } }

/-- A state with a class on a port. -/
def withClass (p : Port) (c : AuthorityClass) (s : State) : State := onPort p (fun u => { u with authority := c }) s

/-- A state in which one port holds every domain. -/
def heldBy (p : Port) (s : State) : State :=
  { s with mc := { s.mc with claims := ⟨⟨some p, 0⟩, ⟨some p, 0⟩, ⟨some p, 0⟩⟩ } }

/-- A state at a time. -/
def atTime (n : Nat) (s : State) : State := { s with mc := { s.mc with time := BitVec.ofNat 32 n } }

/-- A state with the governor changed. -/
def onGov (f : Governor → Governor) (s : State) : State := { s with governor := f s.governor }

/-- A state with one side arm changed. -/
def onArm (x : Side) (f : ArmRecord → ArmRecord) (s : State) : State :=
  { s with sequencer := s.sequencer.setArm x (f (s.sequencer.arm x)) }

/-- A state with the scanner changed. -/
def onScan (f : Scanner → Scanner) (s : State) : State := { s with scanner := f s.scanner }

/-- A state with the water controller changed. -/
def onWater (f : Water → Water) (s : State) : State := { s with water := f s.water }

/-- A state with the pulse unit changed. -/
def onPulse (f : Pulse → Pulse) (s : State) : State := { s with pulse := f s.pulse }

/-- A state with the valve chain driver changed. -/
def onChain (f : Chain → Chain) (s : State) : State := { s with chain := f s.chain }

/-- A state with the profile selector changed. -/
def onSel (f : Selector → Selector) (s : State) : State := { s with selector := f s.selector }

/-- A state with the budget table changed. -/
def onBudget (f : Budget → Budget) (s : State) : State := { s with budget := f s.budget }

/-- The part right after reset, in a mode. -/
def base (m : Mode) : State := inMode m .reset

/-- The same with a SERVICE station on port S1. -/
def service (m : Mode) : State := withClass .s1 .service (base m)

/-- A valid profile row. -/
def row : Profile :=
  ⟨true, 2500, 300, 120, 800, 800, 3000, 0x0FF, 50, [.travel, .main, .armL, .armR, .water], .both⟩

/-- The state with rows 0 and 1 valid. -/
def withRows (s : State) : State :=
  onSel (fun x => { x with rows := (x.rows.set 0 row).set 1 { row with speedCap := 3000 } }) s

/-- A frame being received whole on a port. -/
def receiving (p : Port) (kind tag : Byte) (payload : List Byte) (s : State) : State :=
  onPort p (fun u => { u with receiver := ⟨.receiving, frame kind tag payload, payload.length + 5, false⟩ }) s

/-! ### Well-formed commands -/

theorem test_record_of_30_bytes_is_well_formed :
    (Instr.writePulse .s0 1 0 (List.replicate 30 0)).wellFormed = true := by decide

theorem test_record_of_31_bytes_is_ill_formed :
    (Instr.writePulse .s0 1 0 (List.replicate 31 0)).wellFormed = false := by decide

theorem test_payload_of_33_bytes_is_ill_formed :
    (Instr.write .s0 1 (List.replicate 33 0)).wellFormed = false := by decide

/-! ### Station ports -/

/-- The CRC of R4 over the nine digits, the value its generator and initial value are known by. -/
theorem test_crc_check : crc [0x31, 0x32, 0x33, 0x34, 0x35, 0x36, 0x37, 0x38, 0x39] = 0x29B1 := by decide +kernel

theorem test_power_on :
    let t := after (.powerOn ⟨⟨false, false⟩, ⟨true, false⟩, ⟨true, true⟩⟩ .mbit1 true) (base .sweep)
    t.mc.mode = .halted ∧ t.mc.estopAsserted = true ∧ t.mc.estopTimer = none ∧ (t.port .s2).authority = .service := by
  decide +kernel

theorem test_receiver_ready :
    ((after (.receiverReady .s0) .reset).port .s0).receiver.state = .ready := by decide +kernel

theorem test_start_bit :
    ((after (.startBit .s0 0x41 false true) (after (.receiverReady .s0) .reset)).port .s0).receiver =
      ⟨.receiving, [0x41], 1, false⟩ := by decide +kernel

/-- The worked example of 01 section 1.4, step 2: 91 and one bad frame. -/
theorem test_bad_frame_degrades :
    let s := onPort .s0 (fun u => { u with errorCount := 91, receiver := ⟨.receiving, [1], 1, true⟩ }) .reset
    let t := after (.frameEnd .s0) s
    (t.port .s0).errorCount = 99 ∧ (t.port .s0).state = .degraded := by decide +kernel

/-- The same, step 7: 191 and one bad frame cut the port off, and its claim is withdrawn. -/
theorem test_bad_frame_cuts_off :
    let s := onPort .s0 (fun u =>
      { u with errorCount := 191, state := .degraded, receiver := ⟨.receiving, [1], 1, true⟩ }) (heldBy .s0 .reset)
    let t := after (.frameEnd .s0) s
    (t.port .s0).errorCount = 199 ∧ (t.port .s0).state = .cutOff ∧ t.mc.claims.travel.holder = none := by
  decide +kernel

/-- The worked example of 01 section 1.6, step 6: the buffered response is chosen. -/
theorem test_transmitter_frame_end :
    let s := onPort .s0 (fun u => { u with transmitter := .noticeGap [1], buffer := some [2, 3] }) .reset
    ((after (.transmitterFrameEnd .s0) s).port .s0).transmitter = .response [2, 3] := by decide +kernel

theorem test_notice_record_sent :
    let n : NoticeRecord := ⟨.windowTrip, 0, false, 0, 0, 0⟩
    let s := onPort .s0 (fun u => { u with transmitter := .notice n.frame true, notices := [n, n] }) .reset
    ((after (.noticeRecordSent .s0) s).port .s0).notices = [n] := by decide +kernel

theorem test_subscribe : sent .s2 (after (.subscribe .s2 9 48) .reset) = [0, 0, 48] := by decide +kernel

/-- READ of the LIMITS record after reset: 3000, 1500, 8000, 6000, 400, 150, no lock. -/
theorem test_read_limits :
    sent .s1 (after (.read .s1 9 3 0 1) .reset) =
      [0, 0, 1, 0x0B, 0xB8, 0x05, 0xDC, 0x1F, 0x40, 0x17, 0x70, 0x01, 0x90, 0x00, 0x96, 0, 0] := by decide +kernel

/-! ### Modes, domains, limits -/

theorem test_claim : (after (.claim .s0 1 0) .reset).mc.claims.travel.holder = some .s0 := by decide +kernel

/-- A ROUTE station finds the domain held by an OPERATOR. -/
theorem test_claim_held : sent .s2 (after (.claim .s2 1 1) (heldBy .s0 .reset)) = [4, 0, 0] := by decide +kernel

theorem test_release : (after (.release .s0 1 0) (heldBy .s0 .reset)).mc.claims.travel = ⟨none, 0⟩ := by
  decide +kernel

theorem test_mode_halt :
    let t := after (.modeHalt .s0 1) (base .sweep)
    t.mc.mode = .halted ∧ t.mc.lastCause = .mode ∧ sent .s0 t = [0, 0, 0] := by decide +kernel

/-- With both arms STOWED and the main broom UP the machine passes STOWING at once. -/
theorem test_mode_transport :
    sent .s0 (after (.modeTransport .s0 1) (heldBy .s0 (base .sweep))) = [0, 0, 1] := by decide +kernel

theorem test_mode_sweep :
    sent .s0 (after (.modeSweep .s0 1) (heldBy .s0 (withRows (base .transport)))) = [0, 0, 2] := by decide +kernel

theorem test_mode_service :
    sent .s1 (after (.modeService .s1 1) (service .transport)) = [0, 0, 4] := by decide +kernel

/-- START right after power-on: ESTOP asserted, roles unassigned, row 0 not valid, no drive map. -/
theorem test_start_not_ready : sent .s0 (after (.start .s0 1) .reset) = [10, 0, 29] := by decide +kernel

theorem test_restart :
    let t := after (.restart .s0 1) (heldBy .s0 (base .sweep))
    t.mc.mode = .halted ∧ t.mc.claims.water.holder = none ∧ t.offers = [] := by decide +kernel

theorem test_lock_soft : sent .s1 (after (.lockSoft .s1 1) (service .halted)) = [0, 0, 1] := by decide +kernel

theorem test_lock_hard : (after (.lockHard .s1 1) (service .sweep)).mc.hardLock = true := by decide +kernel

theorem test_unlock_wrong_mode : sent .s1 (after (.unlock .s1 1) (service .halted)) = [3, 0] := by decide +kernel

theorem test_estop_assertion :
    let s := { base .sweep with mc := { (base .sweep).mc with estopAsserted := false } }
    let t := after .estopAssertion s
    t.mc.mode = .halted ∧ t.mc.estopAsserted = true ∧ t.mc.lastCause = .estop := by decide +kernel

theorem test_estop_line_inactive :
    let s := { base .halted with mc := { (base .halted).mc with estopLine := true, estopTimer := none } }
    (after .estopLineInactive (atTime 5 s)).mc.estopTimer = some 25 := by decide +kernel

theorem test_estop_release : (after .estopRelease (atTime 20 .reset)).mc.estopAsserted = false := by decide +kernel

/-- OUTPUT of BROOM_M in SERVICE. -/
theorem test_output :
    (after (.output .s1 1 2 500) (service .service)).sequencer.main.broom = 500 := by decide +kernel

theorem test_output_drive_refused :
    sent .s1 (after (.output .s1 1 0 0) (service .service)) = [2, 0] := by decide +kernel

theorem test_clear_failed :
    let s := onChain (fun c => { c with failed := 0x0021 }) (service .service)
    sent .s1 (after (.clearFailed .s1 1 0x0020) s) = [0, 0, 0, 1] := by decide +kernel

theorem test_write_limits :
    let r : List Byte := [0x0B, 0xB8, 0x05, 0xDC, 0x1F, 0x40, 0x17, 0x70, 0x01, 0x90, 0x00, 0xC8, 0, 0]
    (after (.writeLimits .s1 1 0 r) (service .service)).sequencer.sideRpmMax = 200 := by decide +kernel

theorem test_write_limits_locked :
    let r : List Byte := [0x0B, 0xB8, 0x05, 0xDC, 0x1F, 0x40, 0x17, 0x70, 0x01, 0x90, 0x00, 0xC8, 0, 0]
    sent .s1 (after (.writeLimits .s1 1 0 r) (service .halted)) = [7, 0] := by decide +kernel

theorem test_time_counter_wraps : (after .timeCounterAdvance (atTime 4294967295 .reset)).mc.time = 0 := by
  decide +kernel

/-! ### Scanner and windows -/

theorem test_write_role_map :
    (after (.writeRoleMap .s0 1 2 [5, 0x02, 0x00, 0xFF, 0x38]) .reset).scanner.roleMap.get 2 =
      ⟨some 5, 512, -200⟩ := by decide +kernel

theorem test_write_scan_list :
    sent .s0 (after (.writeScanList .s0 1 1 [7, 2]) .reset) = [0, 0, 2] := by decide +kernel

theorem test_write_scan_list_refuses_a_channel_twice :
    sent .s0 (after (.writeScanList .s0 1 1 [0, 2]) .reset) = [6, 0] := by decide +kernel

theorem test_write_scan_control :
    let t := after (.writeScanControl .s0 1 0 (20 :: 0 :: 100 :: List.replicate 15 0)) .reset
    t.scanner.period = 20 ∧ t.scanner.staleLimit = 100 ∧ t.scanner.state = .stopped := by decide +kernel

theorem test_single :
    let t := after (.single .s0 1 20 100) .reset
    t.scanner.state = .converting ∧ t.scanner.period = 20 := by decide +kernel

/-- The only entry's conversion ends the pass. -/
theorem test_conversion_complete :
    let t := after (.conversionComplete 1234) (onScan (fun c => { c with state := .converting }) .reset)
    t.scanner.published = [⟨0, 1234⟩] ∧ t.scanner.scanNumber = 1 ∧ t.scanner.stale = false ∧
      t.scanner.state = .stopped := by decide +kernel

theorem test_scan_period_expiry :
    let s := onScan (fun c => { c with state := .waiting, continuous := true, periodTimer := some 10 }) .reset
    let t := after .scanPeriodExpiry (atTime 10 s)
    t.scanner.state = .converting ∧ t.scanner.periodTimer = some 20 := by decide +kernel

theorem test_hold_set : sent .s0 (after (.holdSet .s0 1 0) .reset) = [0, 0, 0, 20] := by decide +kernel

theorem test_release_set_not_holder : sent .s0 (after (.releaseSet .s0 1) .reset) = [5, 0] := by decide +kernel

theorem test_hold_lease_expiry :
    let s := onScan (fun c => { c with hold := some ⟨.s0, 20⟩ }) .reset
    (after .holdLeaseExpiry (atTime 20 s)).scanner.hold = none := by decide +kernel

theorem test_stale_timer_expiry :
    let s := onScan (fun c => { c with stale := false, staleTimer := some 51 }) .reset
    (after .staleTimerExpiry (atTime 51 s)).scanner.stale = true := by decide +kernel

/-- A WRITE of a window whose bounds are out of order. -/
theorem test_write_windows :
    sent .s0 (after (.writeWindows .s0 1 0 [0x03, 0xE8, 0x03, 0xE7, 0, 0, 0, 0]) .reset) = [6, 0] := by decide +kernel

theorem test_write_assignments :
    ((after (.writeAssignments .s0 1 3 [5, 1, 0, 0, 0, 0, 0, 0, 0]) .reset).monitor.assignments.get 3).window =
      some 5 := by decide +kernel

theorem test_clear_latch :
    let s : State :=
      { State.reset with
        monitor :=
          { State.reset.monitor with
            assignments := State.reset.monitor.assignments.set 2 ⟨some 1, .inside, true, 100, 5⟩ } }
    sent .s0 (after (.clearLatch .s0 1 0x0004) s) = [0, 0, 0, 0] := by decide +kernel

/-! ### Pulses, zones, profiles -/

theorem test_motor_pulse : (after (.motorPulse true) .reset).pulse.reverseCount = 1 := by decide +kernel

theorem test_ground_pulse :
    let t := after .groundPulse (atTime 7 .reset)
    t.pulse.groundCount = 1 ∧ t.pulse.lossTimer = some 407 := by decide +kernel

/-- 8 ground edges of 160 per metre in 50 ms: 1000 mm/s and 5 cm. -/
theorem test_speed_window_end :
    let t := after .speedWindowEnd (atTime 50 (onPulse (fun u => { u with groundCount := 8, forwardCount := 16 }) .reset))
    t.pulse.groundSpeed = 1000 ∧ t.pulse.motorSpeed = 1000 ∧ t.pulse.path = 5 ∧ t.pulse.windowTimer = 100 := by
  decide +kernel

/-- The same window end reaches the governor, the selector and the water controller. -/
theorem test_speed_window_end_reaches_the_copies :
    let t := after .speedWindowEnd (atTime 50 (onPulse (fun u => { u with groundCount := 8, forwardCount := 16 }) .reset))
    t.governor.copies.groundSpeed = 1000 ∧ t.selector.path = 5 ∧ t.selector.advance = 5 ∧ t.water.copies.path = 5 ∧
      t.water.copies.advance = 5 := by decide +kernel

theorem test_loss_timer_expiry :
    let s := atTime 400 (onPulse (fun u => { u with motorSpeed := 151 }) .reset)
    (after .lossTimerExpiry s).pulse.status = .lost := by decide +kernel

theorem test_write_pulse :
    let r : List Byte := [0x01, 0x40, 0x00, 0xA0, 100, 0x01, 0x90] ++ List.replicate 15 0
    (after (.writePulse .s0 1 0 r) (atTime 30 .reset)).pulse.windowTimer = 130 := by decide +kernel

theorem test_zone_ahead_queues :
    sent .s2 (after (.zoneAhead .s2 1 7 300) (withRows (base .sweep))) = [0, 0, 16, 0, 1, 1] := by decide +kernel

theorem test_pin :
    (after (.pin .s0 1 1) (heldBy .s0 (withRows (base .transport)))).governor.copies.speedCap = 3000 := by
  decide +kernel

theorem test_unpin : sent .s0 (after (.unpin .s0 1) (heldBy .s0 (base .transport))) = [0, 0, 0] := by decide +kernel

/-- A row whose speed cap is above the forward cap of 3000. -/
theorem test_write_profiles_above_the_forward_cap :
    let r : List Byte := [1, 0x0B, 0xB9] ++ List.replicate 13 0 ++ [0, 1, 2, 3, 4, 0]
    sent .s0 (after (.writeProfiles .s0 1 0 r) .reset) = [6, 0] := by decide +kernel

/-- Arms used 4 is in no list. -/
theorem test_write_profiles_refuses_unknown_arms :
    let r : List Byte := [1, 0x0B, 0xB8] ++ List.replicate 13 0 ++ [0, 1, 2, 3, 4, 4]
    sent .s0 (after (.writeProfiles .s0 1 0 r) .reset) = [6, 0] := by decide +kernel

theorem test_write_zones :
    (after (.writeZones .s0 1 3 [1, 0, 0, 0, 9, 2, 0, 0, 0, 0, 0]) .reset).selector.zones.get 3 =
      ⟨true, 9, 2, none⟩ := by decide +kernel

theorem test_write_zone_mask :
    (after (.writeZoneMask .s0 1 0 ([0, 0, 0, 255] ++ List.replicate 9 0)) .reset).selector.sharedMask = 255 := by
  decide +kernel

/-! ### Budget and travel -/

theorem test_reserve : sent .s1 (after (.reserve .s1 1 800) .reset) = [0, 0, 0x03, 0x20, 0, 0] := by decide +kernel

theorem test_reserve_lease_expiry :
    let s := onBudget (fun b => { b with reserve := 800, source := .reported, leaseExpiry := some 500, ceiling := 800 })
      .reset
    (after .reserveLeaseExpiry (atTime 500 s)).budget.ceiling = 400 := by decide +kernel

theorem test_hold_expiry :
    let s := onBudget (fun b => { b with rows := { b.rows with water := ⟨100, 100, 0, 5, .held, some 1000, true, false, 50⟩ } })
      .reset
    (after (.holdExpiry .water) (atTime 1000 s)).budget.rows.water.state = .full := by decide +kernel

/-- An offer at the millisecond of the hold's expiry, before it, leaves the row held. -/
theorem test_held_until_hold_expiry :
    let s := onBudget (fun b =>
      { b with mode := .sweep, rows := { b.rows with water := ⟨100, 100, 0, 5, .held, some 1000, true, false, 50⟩ } })
      .reset
    let t := after (.reserve .s1 1 800) (atTime 1000 s)
    t.budget.rows.water.state = .held ∧ (after (.holdExpiry .water) t).budget.rows.water.state = .full := by
  decide +kernel

theorem test_write_budget :
    (after (.writeBudget .s0 1 1 (List.replicate 13 0 ++ [60])) .reset).budget.rows.main.floor = 60 := by decide +kernel

theorem test_write_coefficients :
    let r : List Byte :=
      [0, 100, 0, 100, 0x01, 0xF4, 0x02, 0x58, 0, 200, 0x01, 0x2C, 50, 0x03, 0xE8] ++ List.replicate 13 0
    (after (.writeCoefficients .s0 1 0 r) .reset).budget.ceiling = 300 := by decide +kernel

theorem test_travel :
    (after (.travel .s0 1 1000) (heldBy .s0 (base .transport))).governor.leaseExpiry = some 200 := by decide +kernel

theorem test_travel_lease_expiry :
    let s := onGov (fun g => { g with request := 1000, state := .forward, leaseExpiry := some 200 }) (base .transport)
    (after .travelLeaseExpiry (atTime 200 s)).governor.request = 0 := by decide +kernel

/-- The ramp of 600 mm/s in a second: 6 in the first step. -/
theorem test_ramp_step :
    let s := onGov (fun g =>
      { g with
        request := 1000, target := 1000, state := .forward, rampTimer := some 10, demand := 0,
        copies := { g.copies with stale := false, ct := 0 } }) (base .transport)
    (after .rampStep (atTime 10 s)).governor.command = 6 := by decide +kernel

theorem test_lift_wait_expiry :
    let s := onGov (fun g => { g with request := -100, state := .directionHold .reverse, liftWait := some 3000 })
      (base .sweep)
    let t := after .liftWaitExpiry (atTime 3000 s)
    t.governor.state = .standstill ∧ t.governor.reverseBlocked = true := by decide +kernel

theorem test_write_travel :
    let r : List Byte := [0, 200, 0x02, 0x58, 0x04, 0xB0, 0x01, 0xF4, 25] ++ List.replicate 17 0
    (after (.writeTravel .s0 1 0 r) .reset).governor.settings = ⟨200, 600, 1200, 500, 25⟩ := by decide +kernel

theorem test_write_drive_map :
    sent .s0 (after (.writeDriveMap .s0 1 0 [0, 150, 0x03, 0x84, 0x0B, 0xB8, 0]) .reset) = [0, 0, 1] := by
  decide +kernel

/-! ### Implements -/

theorem test_arm :
    (after (.arm .s0 1 1 2) (heldBy .s0 .reset)).sequencer.right.command = .in_ := by decide +kernel

theorem test_broom :
    (after (.broom .s0 1 1) (heldBy .s0 .reset)).sequencer.main.command = .up := by decide +kernel

theorem test_regulation_step :
    let s := onArm .left (fun a => { a with state := .working, pressure := some 2000, press := 40 }) (base .sweep)
    let s := { s with sequencer := { s.sequencer with regTimer := some 20, stale := false, pressTarget := 3000 } }
    let t := after .regulationStep (atTime 20 s)
    t.sequencer.left.press = 60 ∧ t.sequencer.regTimer = some 40 := by decide +kernel

theorem test_swing_timer_expiry :
    let s := onArm .left (fun a =>
      { a with state := .swingingOut, timer := some 4000, motion := some ⟨.swingOut, 0, 0⟩ }) (base .sweep)
    let t := after (.swingTimerExpiry .left) (atTime 4000 s)
    t.sequencer.left.attempts = 1 ∧ t.sequencer.left.outcomes.length = 1 := by decide +kernel

theorem test_retry_wait_expiry :
    let s := onArm .left (fun a =>
      { a with state := .retryWait, timer := some 250, motion := some ⟨.swingIn, 0, 1⟩, position := some 500 })
      (base .sweep)
    (after (.retryWaitExpiry .left) (atTime 250 s)).sequencer.left.state = .swingingIn := by decide +kernel

theorem test_lower_time_expiry :
    let s := onArm .left (fun a => { a with state := .lowering, timer := some 600, lift := true }) (base .sweep)
    let s := { s with sequencer := { s.sequencer with armsUsed := .both } }
    (after (.lowerTimeExpiry .left) (atTime 600 s)).sequencer.left.attempts = 0 := by decide +kernel

theorem test_yield_time_expiry :
    let s := onArm .left (fun a =>
      { a with state := .yielding, timer := some 400, motion := some ⟨.yield, 0, 0⟩ }) (base .sweep)
    (after (.yieldTimeExpiry .left) (atTime 400 s)).sequencer.left.state = .raising := by decide +kernel

theorem test_lift_time_expiry :
    let s := onArm .left (fun a => { a with state := .raising, timer := some 600, position := some 500 })
      (base .transport)
    (after (.liftTimeExpiry .left) (atTime 600 s)).sequencer.left.state = .swingingIn := by decide +kernel

theorem test_main_broom_lower_expiry :
    let s := base .sweep
    let s := { s with sequencer := { s.sequencer with main := { s.sequencer.main with state := .lowering, timer := some 800 } } }
    (after .mainBroomLowerExpiry (atTime 800 s)).mc.main = .down := by decide +kernel

theorem test_main_broom_lift_expiry :
    let s := base .transport
    let s := { s with sequencer := { s.sequencer with main := { s.sequencer.main with state := .lifting, timer := some 600 } } }
    (after .mainBroomLiftExpiry (atTime 600 s)).sequencer.main.state = .up := by decide +kernel

theorem test_write_implements :
    let r : List Byte := [0x0F, 0xA0, 3, 0x02, 0xBC, 0x01, 0x90] ++ List.replicate 15 0
    (after (.writeImplements .s0 1 1 r) .reset).sequencer.right.settings = ⟨4000, 3, 700, 400⟩ := by decide +kernel

theorem test_write_implements_main_refused :
    let r : List Byte := [0x0F, 0xA0, 3, 0x02, 0xBC, 0x01, 0x90] ++ List.replicate 15 0
    sent .s0 (after (.writeImplements .s0 1 2 r) .reset) = [2, 0] := by decide +kernel

/-! ### Water and chain -/

theorem test_water :
    let t := after (.water .s0 1 0 0x0003) (heldBy .s0 .reset)
    t.water.enable = false ∧ t.water.exclusion = 3 := by decide +kernel

theorem test_prime_timer_expiry :
    let s := onWater (fun w => { w with state := .priming, primeTimer := some 800, pump := 400, prime := true })
      (base .sweep)
    let t := after .primeTimerExpiry (atTime 800 s)
    t.water.state = .idleWait ∧ t.water.wetUntil = 10800 := by decide +kernel

theorem test_write_water :
    let r : List Byte := [0x03, 0x20, 0x0F, 0xFF, 0, 50, 0, 150] ++ List.replicate 18 0
    (after (.writeWater .s0 1 0 r) .reset).water.settings = ⟨800, 4095, 50, 150⟩ := by decide +kernel

theorem test_write_association :
    (after (.writeAssociation .s0 1 11 [3]) .reset).water.associations.get 11 = .armR := by decide +kernel

theorem test_write_association_refuses_unknown :
    sent .s0 (after (.writeAssociation .s0 1 11 [4]) .reset) = [6, 0] := by decide +kernel

theorem test_refresh_timer_expiry :
    let t := after .refreshTimerExpiry (atTime 20 .reset)
    t.chain.shifting = true ∧ t.chain.timer = 40 := by decide +kernel

/-- The worked example of 10 section 10.6: the second mismatch fails N5. -/
theorem test_refresh_completion :
    let s := onChain (fun c =>
      { c with shifting := true, wanted := 0x0020, requested := 0x0020, shifted := 0x0020, loaded := 0x0020,
               counts := c.counts.set 5 1 }) .reset
    let t := after (.refreshCompletion 0 0) s
    t.chain.failed = 0x0020 ∧ t.chain.prevLoaded = 0x0020 := by decide +kernel

/-- A WRITE by its payload: an unknown table. -/
theorem test_write : sent .s0 (after (.write .s0 1 [26, 0, 0]) .reset) = [6, 0] := by decide +kernel

/-! ### The queue and the words -/

theorem test_step_takes_the_front :
    step (State.reset.setPending [.motorPulse false, .groundPulse]) =
      .next ((after (.motorPulse false) .reset).setPending [.groundPulse]) := by rfl

theorem test_no_row_gives_bits :
    decodeTableWord 8 0 = none ∧ State.reset.withFetchWord 8 0 = State.reset := by decide +kernel

/-! ### The statements' hypotheses can be met

One theorem per statement of Certificates/Slice0/Obligations.lean that has hypotheses: a concrete state and operands that
meet them together, for each clause, at the ends of the ranges. -/

/-- A response that waits. -/
def waiting : Response := ⟨0x13, 1, .ok, []⟩

/-- A port unit with a frame on the transmit line. -/
def busyUnit : PortUnit := { State.reset.port .s0 with transmitter := .response [1] }

/-- A notice record. -/
def aNotice : NoticeRecord := ⟨.windowTrip, 0, false, 0, 0, 0⟩

theorem witness_StepRunsTheFrontCommand :
    (State.reset.setPending [.groundPulse]).pending = .groundPulse :: [] ∧ State.reset.pending = [] := by decide

theorem witness_ReceiverFollowsTheLine :
    (State.reset.port .s0).receiver.state = .hunting ∧
    ((after (.receiverReady .s0) .reset).port .s0).receiver.state = .ready ∧
    ((onPort .s0 (fun u => { u with receiver := ⟨.receiving, List.replicate 37 0, 37, false⟩ }) .reset).port
      .s0).receiver.state = .receiving := by decide +kernel

theorem witness_RequestIsLostWhenThePortCannotTakeIt :
    let s := onPort .s0 (fun u => { u with slot := some waiting, receiver := ⟨.receiving, [1], 1, false⟩ }) .reset
    let c := onPort .s0 (fun u => { u with state := .cutOff }) .reset
    (State.reset.port .s0).receiver.state ≠ .receiving ∧
    ((s.port .s0).receiver.state = .receiving ∧ (s.port .s0).slot.isSome = true) ∧
    ((Instr.unpin .s0 7).request = some (.s0, .unpin, 7) ∧ (c.port .s0).state = .cutOff) ∧
    ((s.port .s0).state ≠ .cutOff ∧ (s.port .s0).slot.isSome = true) := by decide +kernel

/-- Error counts on both sides of 96 and 192, and at the saturation. -/
theorem witness_LinkHealthFollowsTheFrames :
    (∀ n ∈ [0, 87, 88, 183, 184, 191, 255],
      let s := onPort .s0 (fun u => { u with errorCount := n, receiver := ⟨.receiving, [1], 1, true⟩ }) .reset
      s.offers = [] ∧ (s.port .s0).receiver.state = .receiving ∧ (s.port .s0).slot = none ∧
        (s.port .s0).receiver.good = false ∧ (s.port .s0).state ≠ .cutOff) ∧
    (∀ x ∈ [(PortState.healthy, 0), (.healthy, 95), (.degraded, 96), (.degraded, 97), (.degraded, 191)],
      let s := receiving .s0 0x06 1 [] (onPort .s0 (fun u => { u with state := x.1, errorCount := x.2 }) .reset)
      s.offers = [] ∧ (s.port .s0).receiver.state = .receiving ∧ (s.port .s0).slot = none ∧
        (s.port .s0).receiver.good = true ∧ (s.port .s0).state ≠ .cutOff) ∧
    ∀ n ∈ [0, 14, 15],
      let s := receiving .s0 0x06 1 [] (onPort .s0 (fun u => { u with state := .cutOff, recoveryRun := n }) .reset)
      let b := onPort .s0 (fun u => { u with receiver := ⟨.receiving, [1], 1, true⟩ }) s
      s.offers = [] ∧ (s.port .s0).receiver.state = .receiving ∧ (s.port .s0).slot = none ∧
        (s.port .s0).state = .cutOff ∧ (s.port .s0).receiver.good = true ∧ (b.port .s0).receiver.good = false ∧
        (b.port .s0).receiver.state = .receiving := by decide +kernel

/-- The worked example of 01 section 1.4: at 96 a good frame returns the port to HEALTHY, and S2 is told. -/
theorem test_good_frame_returns_to_healthy :
    let s := receiving .s0 0x17 1 [] (onPort .s0 (fun u => { u with state := .degraded, errorCount := 96 }) .reset)
    let t := after (.frameEnd .s0) (onPort .s2 (fun u => { u with subscriptions := 63 }) s)
    (t.port .s0).state = .healthy ∧ (t.port .s0).errorCount = 95 ∧
      (t.port .s2).notices.map NoticeRecord.kind = [.linkState] := by decide +kernel

theorem witness_GoodFrameIsItsRequest :
    let h := receiving .s0 0x01 7 [0] .reset
    (Instr.claim .s0 7 0).request = some (.s0, .claim, 7) ∧ (Instr.claim .s0 7 0).payload = some [0] ∧
    (∀ x ∈ [(PortState.healthy, 0), (.degraded, 96), (.degraded, 97)],
      let d := onPort .s0 (fun u => { u with state := x.1, errorCount := x.2 }) h
      (d.port .s0).receiver = ⟨.receiving, frame (byte RequestKind.claim.number) 7 [0], 6, false⟩ ∧
        (d.port .s0).slot = none ∧ (d.port .s0).state ≠ .cutOff ∧
        ((d.port .s0).state = .degraded → (d.port .s0).errorCount ≤ 96 → d.offers = [])) := by decide +kernel

theorem witness_WrongClassAndUnknownKindAreAnswered :
    ((Instr.claim .s1 7 0).request = some (.s1, .claim, 7) ∧ (State.reset.port .s1).state ≠ .cutOff ∧
      (State.reset.port .s1).slot = none ∧ (State.reset.port .s1).authority ∉ RequestKind.claim.classes) ∧
    (∀ pay ∈ ([[], [1, 2], List.replicate 32 1] : List (List Byte)),
      let s := receiving .s0 0x01 7 pay .reset
      pay.length ≤ 32 ∧ pay.length ≠ 1 ∧
        (s.port .s0).receiver = ⟨.receiving, frame (byte RequestKind.claim.number) 7 pay, pay.length + 5, false⟩ ∧
        s.hears .s0 .claim ∧ ((s.port .s0).state = .degraded → (s.port .s0).errorCount ≤ 96 → s.offers = [])) ∧
    ∀ kind ∈ ([0, 24, 127, 255] : List Byte),
      let s := receiving .s0 kind 7 (List.replicate 32 1) .reset
      (kind.toNat = 0 ∨ 24 ≤ kind.toNat) ∧ (List.replicate 32 (1 : Byte)).length ≤ 32 ∧
        (s.port .s0).receiver = ⟨.receiving, frame kind 7 (List.replicate 32 1), 37, false⟩ ∧
        (s.port .s0).slot = none ∧ (s.port .s0).state = .healthy ∧ (s.port .s0).buffer = none ∧
        (s.port .s0).transmitter = .idle := by
  unfold State.hears; decide +kernel

theorem witness_ResponsesAndNoticesAreSent :
    (busyUnit.buffer = none ∧ busyUnit.transmitter ≠ .idle) ∧
    ((State.reset.port .s0).buffer = none ∧ (State.reset.port .s0).transmitter = .idle ∧
      (State.reset.port .s0).state ≠ .cutOff) ∧
    { busyUnit with buffer := some [2] }.buffer = some [2] ∧
    (∀ f : PortUnit → PortUnit,
      f ∈ [fun u => { u with state := .cutOff }, fun u => { u with buffer := some [2] },
        fun u => { u with buffer := some [2], slot := some waiting }, fun u => { u with notices := [aNotice] },
        fun u => { u with buffer := none }] → (f busyUnit).transmitter = .response [1]) ∧
    { busyUnit with transmitter := .noticeGap [1] }.transmitter = .noticeGap [1] ∧
    { busyUnit with transmitter := .notice [1] true }.transmitter = .notice [1] true ∧
    { busyUnit with transmitter := .notice [1] false }.transmitter = .notice [1] false ∧
    { busyUnit with notices := [aNotice] }.notices = aNotice :: [] ∧
    busyUnit.state ≠ .cutOff := by
  refine ⟨by decide, by decide +kernel, rfl, ?_, rfl, rfl, rfl, rfl, by decide⟩
  intro f hf
  simp only [List.mem_cons, List.not_mem_nil, or_false] at hf
  rcases hf with h | h | h | h | h <;> subst h <;> rfl

theorem witness_NoticesAreSubscribedToAndQueued :
    let u : PortUnit := { busyUnit with subscriptions := 63 }
    (State.reset.hears .s2 .subscribe ∧ (63 : Byte).getLsbD 6 = false ∧ (63 : Byte).getLsbD 7 = false) ∧
    (64 : Byte).getLsbD 6 = true ∧ (128 : Byte).getLsbD 7 = true ∧
    busyUnit.subscriptions.getLsbD aNotice.kind.classCode = false ∧
    (u.subscriptions.getLsbD aNotice.kind.classCode = true ∧ { u with state := .cutOff }.state = .cutOff) ∧
    (u.state ≠ .cutOff ∧ 8 ≤ { u with notices := List.replicate 8 aNotice }.notices.length) ∧
    { u with notices := List.replicate 7 aNotice }.notices.length < 8 ∧ u.transmitter ≠ .idle ∧
    { u with transmitter := .idle }.transmitter = .idle ∧ u.buffer = none ∧ u.notices = [] := by
  unfold State.hears; decide +kernel

/-- Records at the ends of their ranges, and just past them. -/
theorem witness_RecordsAreLaidOut :
    255 < 256 ∧ 65535 < 65536 ∧ 4294967295 < 4294967296 ∧ ((-32768 : Int) ≤ -32768 ∧ (32767 : Int) < 32768) ∧
    ((Table.outcomesL = .outcomesL ∧ Side.left = .left) ∧ (Table.outcomesR = .outcomesR ∧ Side.right = .right)) ∧
    parseAssignments [6, 1, 0, 0, 0, 0, 0, 0, 0] = some ⟨none, .outside⟩ ∧
    parseAssignments [7, 0, 0, 0, 0, 0, 0, 0, 0] = none ∧ parseRoleMap [16, 0x0F, 0xFF, 0x80, 0] =
      some ⟨none, 4095, -32768⟩ ∧ parseRoleMap [17, 0, 0, 0, 0] = none ∧
    parseZones [1, 0, 255, 255, 255, 7, 1, 0, 0, 0, 3] = some ⟨true, 0xFFFFFF, 7, some 3⟩ ∧
    parseZones [1, 1, 0, 0, 0, 7, 0, 0, 0, 0, 0] = none ∧ parseWindows [0, 0, 0x0F, 0xFF, 6, 0, 0, 0] = none ∧
    ArmsUsed.ofNumber 4 = Option.none ∧ Association.ofNumber 4 = Option.none ∧ consumerOfNumber 5 = none := by
  decide +kernel

theorem witness_ReadReturnsRecords :
    State.reset.hears .s1 .read ∧ Table.ofNumber (0 : Byte).toNat = none ∧ Table.ofNumber (26 : Byte).toNat = none ∧
    Table.ofNumber (1 : Byte).toNat = some .ports ∧ Table.ofNumber (25 : Byte).toNat = some .chain ∧
    Table.chain.capacity ≤ (16 : Byte).toNat ∧ (15 : Byte).toNat < Table.chain.capacity ∧ (1 : Byte) ≠ 0 := by
  unfold State.hears; decide +kernel

theorem witness_ClaimAndReleaseChangeTheHolder :
    let r := withClass .s1 .route State.reset
    (State.reset.hears .s0 .claim ∧ State.reset.hears .s0 .release ∧ State.reset.offers = []) ∧
    3 ≤ (3 : Byte).toNat ∧
    (State.reset.hears .s2 .claim ∧ (State.reset.port .s2).authority ≠ .operator) ∧
    ((0 : Byte).toNat = Domain.travel.number ∧ (2 : Byte).toNat = Domain.water.number) ∧
    (State.reset.mc.claims.get .travel).holder = none ∧
    ((heldBy .s0 .reset).mc.claims.get .travel).holder = some .s0 ∧
    (((heldBy .s2 .reset).mc.claims.get .water).holder = some .s2 ∧ (State.reset.port .s2).authority = .route ∧
      (State.reset.port .s0).authority = .operator ∧ Domain.water ≠ .travel) ∧
    (((heldBy .s0 .reset).mc.claims.get .water).holder = some .s0 ∧ (State.reset.port .s0).authority ≠ .route) ∧
    (r.hears .s1 .claim ∧ ((heldBy .s2 r).mc.claims.get .water).holder = some .s2 ∧
      (r.port .s1).authority ≠ .operator) ∧
    ((heldBy .s0 .reset).mc.claims.get .travel).holder ≠ some .s1 ∧
    ([] : List Offer) = [] ∧ ∃ h k n v, [Offer.postTo .s2 .claimLost 2 0] = [.postTo h k n v] := by
  unfold State.hears
  and_intros
  all_goals first | decide +kernel | exact ⟨_, _, _, _, rfl⟩

theorem witness_LockSetsItsLock :
    let s := service .sweep
    let f := receiving .s1 0x16 7 [2] s
    s.hears .s1 .lock ∧
    (f.hears .s1 .lock ∧ 2 ≤ (2 : Byte).toNat ∧ (f.port .s1).state = .healthy ∧
      (f.port .s1).receiver = ⟨.receiving, frame 0x16 7 [2], 6, false⟩) ∧
    ((s.port .s0).state ≠ .cutOff ∧ (s.port .s0).slot = none ∧ (s.port .s0).authority ≠ .service) ∧
    (exec .groundPulse (after (.lockHard .s1 1) (after (.lockSoft .s1 1) s)) =
        .next (after .groundPulse (after (.lockHard .s1 1) (after (.lockSoft .s1 1) s))) ∧
      Instr.groundPulse.isPowerOn = false ∧
      (after (.lockHard .s1 1) (after (.lockSoft .s1 1) s)).mc.hardLock = true) := by
  refine ⟨?_, ?_, by decide +kernel, rfl, rfl, by decide +kernel⟩ <;> (unfold State.hears; decide +kernel)

theorem witness_UnlockClearsTheSoftLock :
    let s := service .service
    ((s.port .s0).state ≠ .cutOff ∧ (s.port .s0).slot = none ∧ (s.port .s0).authority ≠ .service) ∧
    s.hears .s1 .unlock ∧ (s.mc.hardLock = false ∧ s.mc.mode = .service) ∧
    ((service .halted).hears .s1 .unlock ∧ (service .halted).mc.hardLock = false ∧
      (service .halted).mc.mode ≠ .service) ∧
    { s.mc with hardLock := true }.hardLock = true := by
  unfold State.hears; decide +kernel

theorem witness_EmergencyStopHalts :
    let r : State := { base .sweep with mc := { (base .sweep).mc with estopAsserted := false } }
    let l : State := { base .halted with mc := { (base .halted).mc with estopLine := true, estopTimer := none } }
    (r.offers = [] ∧ r.mc.estopAsserted = false ∧ r.mc.mode ≠ .halted) ∧
    State.reset.mc.estopAsserted = true ∧ (l.mc.estopAsserted = true ∧ l.mc.estopLine = true) ∧
    r.mc.estopAsserted = false ∧
    ((atTime 20 .reset).mc.estopAsserted = true ∧ (atTime 20 .reset).mc.estopLine = false ∧
      (atTime 20 .reset).mc.estopTimer = some 20 ∧ reached (atTime 20 .reset).mc.time 20 = true) ∧
    reached (atTime 19 .reset).mc.time 20 = false := by decide +kernel

theorem witness_ModeHaltStopsTheMachine :
    (base .sweep).hears .s0 .mode ∧ ((base .sweep).port .s0).authority = .operator ∧
    State.reset.mc.mode = .halted ∧ ((base .sweep).mc.mode ≠ .halted ∧ (base .sweep).offers = []) := by
  unfold State.hears; decide +kernel

theorem witness_ModeRequestsAreCheckedAndChangeTheMode :
    let w := heldBy .s0 (withRows (base .transport))
    let f := receiving .s0 0x04 7 [4] .reset
    (∀ m ∈ [Mode.halted, .service, .sweep, .transport, .stowing],
      (base m).hears .s0 .mode ∧ ((base m).port .s0).authority = .operator ∧ (service m).hears .s1 .mode ∧
        ((service m).port .s1).authority = .service ∧ ((service m).port .s1).authority ≠ .operator ∧
        ((base m).mc.claims.get .travel).holder ≠ some .s0) ∧
    ((onGov (fun g => { g with command := 2501 }) w).mc.claims.get .travel).holder = some .s0 ∧
    (w.selector.rows.get w.selector.active).speedCap < (onGov (fun g => { g with command := 2501 })
      w).governor.command.natAbs ∧
    (w.mc.claims.get .travel).holder = some .s0 ∧
    (onGov (fun g => { g with command := 2500 }) w).governor.command.natAbs ≤
      (w.selector.rows.get w.selector.active).speedCap ∧
    w.inStep ∧ (heldBy .s0 (base .sweep)).inStep ∧ (service .transport).inStep ∧
    (service .transport).governor.state = .standstill ∧
    (onGov (fun g => { g with state := .forward }) (service .transport)).governor.state ≠ .standstill ∧
    (f.hears .s0 .mode ∧ 4 ≤ (4 : Byte).toNat ∧ (f.port .s0).state = .healthy ∧
      (f.port .s0).receiver = ⟨.receiving, frame 0x04 7 [4], 6, false⟩) := by
  unfold State.hears State.inStep; decide +kernel

theorem witness_HaltTripAndStowCompletion :
    (base .sweep).mc.mode ≠ .halted ∧ State.reset.mc.mode = .halted ∧ (base .stowing).mc.mode = .stowing ∧
    (ArmState.fault = .stowed ∨ ArmState.fault = .fault) ∧ (BroomState.up = .up ∨ BroomState.up = .fault) ∧
    (ArmState.raised ≠ .stowed ∧ ArmState.raised ≠ .fault) ∧ (base .sweep).mc.mode ≠ .stowing := by decide +kernel

/-- A state in which START's prerequisites hold. -/
def ready : State :=
  let s := withRows (base .halted)
  let s := onScan (fun c =>
    { c with
      scanList := [0, 1, 2, 3, 4, 5, 6].map fun ch => ⟨ch, 0⟩
      roleMap :=
        (((((((c.roleMap.set 0 ⟨some 0, 0, 1000⟩).set 2 ⟨some 1, 0, 1000⟩).set 3 ⟨some 2, 0, 1000⟩).set 4
          ⟨some 3, 0, 1000⟩).set 5 ⟨some 4, 0, 1000⟩).set 6 ⟨some 5, 0, 1000⟩).set 8 ⟨some 6, 0, 1000⟩) }) s
  let s := onGov (fun g => { g with map := ⟨1, 1, 100⟩ }) s
  { s with mc := { s.mc with estopAsserted := false, estopTimer := none } }

theorem witness_StartBringsTransport :
    ((base .stowing).hears .s0 .start ∧ (base .stowing).mc.mode.working = true) ∧
    (State.reset.hears .s0 .start ∧ State.reset.mc.mode.working = false ∧ ¬ State.reset.mayStart) ∧
    (ready.hears .s0 .start ∧ ready.mc.mode.working = false ∧ ready.mayStart ∧ ready.offers = []) ∧
    (let a (v : Option Int) (f : Bool) := (onArm .left (fun r => { r with position := v, liftFailed := f }) ready);
      ((a none true).sequencer.arm .left).liftFailed = true ∧ ((a none false).sequencer.arm .left).liftFailed = false ∧
        ((a (some 50) false).sequencer.arm .left).position = some 50 ∧ (50 : Int) ≤ 50 ∧
        ((a (some 51) false).sequencer.arm .left).position = some 51 ∧ (50 : Int) < 51 ∧
        ((a none false).sequencer.arm .left).position = none) ∧
    (ready.sequencer.main.liftFailed = false ∧ ready.sequencer.main.state = .up ∧
      { ready.sequencer.main with state := .down }.state ≠ .up ∧
      { ready.sequencer.main with liftFailed := true }.liftFailed = true) := by
  have assigned : ∀ r ∈ ([.drivePress, .grade, .armPosL, .armPosR, .armPressL, .armPressR, .tankLevel] : List Role),
      ready.roleAssigned r := by
    intro r hr
    simp only [List.mem_cons, List.not_mem_nil, or_false] at hr
    rcases hr with h | h | h | h | h | h | h <;> subst h
    · exact ⟨0, ⟨0, 0⟩, rfl, by decide +kernel, rfl⟩
    · exact ⟨1, ⟨1, 0⟩, rfl, by decide +kernel, rfl⟩
    · exact ⟨2, ⟨2, 0⟩, rfl, by decide +kernel, rfl⟩
    · exact ⟨3, ⟨3, 0⟩, rfl, by decide +kernel, rfl⟩
    · exact ⟨4, ⟨4, 0⟩, rfl, by decide +kernel, rfl⟩
    · exact ⟨5, ⟨5, 0⟩, rfl, by decide +kernel, rfl⟩
    · exact ⟨6, ⟨6, 0⟩, rfl, by decide +kernel, rfl⟩
  have stopped : ¬ State.reset.mayStart := fun h => absurd h.1 (by decide +kernel)
  unfold State.hears
  and_intros
  all_goals first | exact assigned | exact stopped | decide +kernel

/-- START recomputes with the ranks of row 0: under them the water resumes, and what is left is too little for travel. -/
theorem test_start_recomputes_with_the_new_ranks :
    let held : BudgetRow := ⟨300, 0, 0, 1, .held, some 0, false, true, 0⟩
    let s := onBudget (fun b =>
      { b with rows := { b.rows with travel := held, water := { held with rank := 5 } } }) ready
    let s := onSel (fun x =>
      { x with rows := x.rows.set 0 { row with shedOrder := [.water, .main, .armL, .armR, .travel] } }) s
    let t := after (.start .s0 1) s
    t.budget.rows.water.state = .full ∧ t.budget.rows.travel.state = .held := by decide +kernel

theorem witness_RestartClearsTheMachine :
    (heldBy .s0 (base .sweep)).hears .s0 .restart ∧ (heldBy .s0 (base .sweep)).offers = [] ∧
    (after (.restart .s0 1) (heldBy .s0 (base .sweep))).offers = [] ∧
    (((heldBy .s0 (base .sweep)).mc.claims.get .water).holder = some .s0 ∧
      (State.reset.mc.claims.get .water).holder = none) ∧
    ((onScan (fun c => { c with stale := false }) .reset).scanner.stale = false ∧
      (onPulse (fun u => { u with status := .lost }) .reset).pulse.status = .lost ∧
      (onSel (fun x => { x with pinned := true }) .reset).selector.pinned = true ∧
      State.reset.selector.pinned = false ∧
      (onWater (fun w => { w with copies := { w.copies with ground := .lost } }) .reset).water.copies.ground = .lost) ∧
    (let b := (onBudget (fun b =>
        { b with
          rows := ⟨{ b.rows.travel with grant := 1 }, b.rows.main, { b.rows.armL with state := .held }, b.rows.armR,
            { b.rows.water with grant := 1 }⟩ }) .reset).budget;
      b.rows.travel.grant ≠ 0 ∧ (∃ c ∈ [Consumer.main, .armL, .armR], (b.rows.get c).state ≠ .full) ∧
        b.rows.water.grant ≠ 0) := by
  unfold State.hears; decide +kernel

theorem witness_OutputIsCheckedAndDrivesItsTarget :
    let s := service .service
    let f := onChain (fun c => { c with failed := 0xF000 }) s
    s.hears .s1 .output ∧ (service .halted).hears .s1 .output ∧ s.inStep ∧ s.mc.mode = .service ∧
    26 ≤ (26 : Byte).toNat ∧ ((25 : Byte).toNat ≤ 25 ∧ (service .halted).mc.mode ≠ .service) ∧
    ((0 : Byte).toNat ≤ 1 ∧ (1 : Byte).toNat ≤ 1 ∧ 9 ≤ (9 : Byte).toNat ∧ (21 : Byte).toNat ≤ 21) ∧
    ((BitVec.ofInt 16 (-1)).toInt < 0 ∧ 1000 < (1001 : BitVec 16).toInt ∧ (BitVec.ofInt 16 (-1001)).toInt < -1000 ∧
      (2 : BitVec 16) ≠ 0 ∧ (2 : BitVec 16) ≠ 1) ∧
    (∀ k : Fin 4, f.chain.failed.getLsbD (12 + k.val) = true ∧ s.chain.failed.getLsbD (12 + k.val) = false) ∧
    (0 ≤ (0 : BitVec 16).toInt ∧ (1000 : BitVec 16).toInt ≤ 1000 ∧ -1000 ≤ (BitVec.ofInt 16 (-1000)).toInt) ∧
    (s.governor.command = 0 ∧ s.water.pump = 0 ∧ (25 : Byte).toNat = 22 + 3) ∧
    (s.chain.wanted = s.chain.requested &&& ~~~s.chain.failed ∧
      s.chain.requested = (liftPattern s.sequencer.left.lift s.sequencer.right.lift s.sequencer.main.lift |||
        waterPattern 0 s.water.prime) ∧ s.water.nozzles = 0) := by
  unfold State.hears State.inStep; decide +kernel

/-- A LIMITS record. -/
def limitsRecord : List Byte := [0x0B, 0xB8, 0x05, 0xDC, 0x1F, 0x40, 0x17, 0x70, 0x01, 0x90, 0x00, 0x96, 0, 0]

/-- A COEFFICIENTS record. -/
def coefficientsRecord : List Byte :=
  [0, 100, 0, 100, 0x01, 0xF4, 0x02, 0x58, 0, 200, 0x01, 0x90, 50, 0x03, 0xE8] ++ List.replicate 13 0

theorem witness_WriteLimitsAndCoefficientsReplaceThem :
    let s := withRows (service .service)
    (s.hears .s1 .write ∧ (s.port .s1).authority = .service ∧ s.offers = [] ∧ limitsRecord.length = 14 ∧
      parseLimits limitsRecord = some .powerOn) ∧
    (service .halted).mc.mode ≠ .service ∧ (s.mc.mode = .service ∧ s.mc.softLock = false ∧ s.mc.hardLock = false) ∧
    ((s.selector.rows.get 1).valid = true ∧ { Limits.powerOn with fwdCap := 2999 }.fwdCap <
      (s.selector.rows.get 1).speedCap) ∧
    (∀ i : Fin 8, (s.selector.rows.get i).valid = true → (s.selector.rows.get i).speedCap ≤ Limits.powerOn.fwdCap) ∧
    (coefficientsRecord.length = 28 ∧ parseCoefficients coefficientsRecord = some .powerOn ∧
      (base .sweep).mc.mode.configurable = false ∧ s.mc.mode.configurable = true ∧ s.budget.source = .fallback ∧
      (after (.reserve .s1 1 800) .reset).budget.source = .reported) := by
  unfold State.hears; decide +kernel

/-- The scanner converting channel X0, whose assignment has window W0 = 100..200 with the given sense. -/
def converting (sense : Sense) (s : State) : State :=
  let s := onScan (fun c => { c with state := .converting, scanList := [⟨0, 0⟩, ⟨1, 0⟩] }) s
  { s with
    monitor :=
      { s.monitor with
        windows := s.monitor.windows.set 0 ⟨100, 200, .notice, 0⟩
        assignments := s.monitor.assignments.set 0 ⟨some 0, sense, false, 0, 0⟩ } }

/-- The last conversion of a pass on a channel without a window. -/
def lastOne : State := onScan (fun c => { c with state := .converting }) .reset

/-- The last conversion of a pass on a channel whose assignment has window W0 = 100..200 with the given action. -/
def lastWith (action : WindowAction) : State :=
  let s := converting .inside lastOne
  let s := onScan (fun c => { c with scanList := [⟨0, 0⟩] }) s
  { s with monitor := { s.monitor with windows := s.monitor.windows.set 0 ⟨100, 200, action, 0⟩ } }

theorem witness_ConversionIsEvaluatedAndEndsThePass :
    let i := converting .inside .reset
    let o := converting .outside .reset
    (i.offers = [] ∧ State.reset.scanner.state ≠ .converting) ∧
    (i.scanner.state = .converting ∧ i.scanner.scanList[i.scanner.live.length]? = some ⟨0, 0⟩ ∧
      i.scanner.live.length + 1 < i.scanner.scanList.length) ∧
    (i.monitor.trips 0 101 ∧ i.monitor.trips 0 199 ∧ o.monitor.trips 0 99 ∧ o.monitor.trips 0 201) ∧
    (¬ i.monitor.trips 0 100 ∧ ¬ i.monitor.trips 0 200) ∧
    (after (.conversionComplete 101) i).monitor.outputs.halt = false ∧
    (∀ s ∈ [lastOne, lastWith .notice, lastWith .halt],
      s.scanner.state = .converting ∧ s.scanner.scanList[s.scanner.live.length]? = some ⟨0, 0⟩ ∧ s.offers = [] ∧
        s.scanner.live.length + 1 = s.scanner.scanList.length ∧ s.scanner.staleLimit ≤ 500 ∧ s.scanner.hold = none) ∧
    (onScan (fun c => { c with hold := some ⟨.s0, 20⟩ }) lastOne).scanner.hold = some ⟨.s0, 20⟩ ∧
    (∀ b ∈ [true, false],
      let e := onScan (fun c => { c with live := [⟨0, 7⟩], stale := b }) lastOne
      e.scanner.state = .converting ∧ e.scanner.live.length = e.scanner.scanList.length ∧ e.scanner.hold = none ∧
        e.scanner.stale = b) ∧
    ((lastWith .notice).monitor.trips 0 101 ∧
      (after (.conversionComplete 101) (lastWith .notice)).monitor.outputs.halt = false ∧
      ¬ (lastWith .notice).monitor.trips 0 100 ∧ ¬ lastOne.monitor.trips 0 101) ∧
    ((lastWith .halt).monitor.trips 0 101 ∧ (lastWith .halt).mc.mode = .halted) ∧
    ((inMode .sweep (lastWith .halt)).monitor.trips 0 101 ∧ (inMode .sweep (lastWith .halt)).mc.mode ≠ .halted ∧
      (lastWith .halt).monitor.outputs.halt = false ∧
      (after (.conversionComplete 101) (inMode .sweep (lastWith .halt))).monitor.outputs.halt = true) := by
  and_intros
  all_goals first
    | decide +kernel
    | (rintro ⟨-, w, hw, hc⟩
       revert w
       decide +kernel)

/-- A trip at the last conversion, and none, both end the pass and publish. -/
theorem test_last_conversion_publishes_with_a_window :
    (∀ raw ∈ [(100 : BitVec 12), 101],
      let t := after (.conversionComplete raw) (lastWith .notice)
      t.scanner.published = [⟨0, raw.toNat⟩] ∧ t.scanner.scanNumber = 1) ∧
    (after (.conversionComplete 101) (inMode .sweep (lastWith .halt))).scanner.published = [] := by decide +kernel

theorem witness_RoleValueIsCalibrated :
    let c := ready.scanner
    let d := { c with published := [⟨3, 9⟩, ⟨1, 4095⟩, ⟨1, 0⟩] }
    (c.roleMap.get Role.oilTemp.index).channel = none ∧ (c.roleMap.get Role.grade.index).channel = some 1 ∧
    (∀ e ∈ { c with scanList := [⟨0, 0⟩] }.scanList, e.channel ≠ 1) ∧ (∀ x ∈ c.published, x.channel ≠ (1 : Fin 16)) ∧
    (⟨1, 0⟩ ∈ d.scanList ∧ d.published = [⟨3, 9⟩] ++ ⟨1, 4095⟩ :: [⟨1, 0⟩] ∧
      ∀ y ∈ [(⟨3, 9⟩ : Reading)], y.channel ≠ 1) := by decide +kernel

theorem witness_ScannerTimersExpire :
    let s := onScan (fun c =>
      { c with state := .waiting, continuous := true, periodTimer := some 10, staleTimer := some 10, stale := false,
               hold := some ⟨.s0, 10⟩ }) .reset
    let p := onScan (fun c => { c with state := .paused }) s
    s.offers = [] ∧ State.reset.scanner.periodTimer = none ∧ State.reset.scanner.staleTimer = none ∧
    State.reset.scanner.hold = none ∧
    (s.scanner.periodTimer = some 10 ∧ s.scanner.staleTimer = some 10 ∧ s.scanner.hold = some ⟨.s0, 10⟩ ∧
      reached (atTime 9 s).mc.time 10 = false ∧ reached (atTime 10 s).mc.time 10 = true) ∧
    (s.scanner.state ≠ .paused ∧ s.scanner.stale = false) ∧ p.scanner.state = .paused ∧
    (onScan (fun c => { c with stale := true }) p).scanner.stale = true := by decide +kernel

theorem witness_HoldIsTakenAndReleased :
    let h := onScan (fun c => { c with hold := some ⟨.s0, 20⟩ }) .reset
    State.reset.offers = [] ∧ State.reset.hears .s0 .holdSet ∧ h.hears .s2 .holdSet ∧ h.hears .s0 .releaseSet ∧
    (1 ≤ (1 : Byte).toNat ∧ (4 : Byte).toNat ≤ 4) ∧ 101 ≤ (101 : Byte).toNat ∧
    (5 ≤ (5 : Byte).toNat ∧ (100 : Byte).toNat ≤ 100) ∧ State.reset.scanner.hold = none ∧
    h.scanner.hold = some ⟨.s0, 20⟩ ∧ Port.s0 ≠ Port.s2 ∧ h.scanner.state ≠ .paused ∧
    (onScan (fun c => { c with state := .paused }) h).scanner.state = .paused := by
  unfold State.hears; decide +kernel

/-- A SCAN_CONTROL record. -/
def scanControlRecord (period single : Byte) : List Byte := period :: 0 :: 20 :: single :: List.replicate 14 0

theorem witness_ScanListAndControlAreWritten :
    let one := parseScanList [5, 3]
    State.reset.hears .s0 .write ∧ (State.reset.port .s0).authority = .operator ∧
    State.reset.offers = [] ∧ (15 : Byte).toNat < 16 ∧ one = some ⟨some 5, 3⟩ ∧
    parseScanList [16, 0] = some ⟨none, 0⟩ ∧ (base .sweep).mc.mode.configurable = false ∧
    State.reset.mc.mode.configurable = true ∧ lastOne.scanner.state = .converting ∧
    (State.reset.scanner.state = .stopped ∧ State.reset.scanner.hold = none) ∧
    (State.reset.scanner.scanList.length ≤ (1 : Byte).toNat) ∧
    (State.reset.scanner.scanList[0]? = some ⟨0, 0⟩ ∧ State.reset.scanner.scanList.length < (2 : Byte).toNat) ∧
    ((1 : Byte) ≠ 0 ∧ (1 : Byte).toNat < ready.scanner.scanList.length) ∧
    (1 : Byte).toNat = State.reset.scanner.scanList.length ∧
    (∀ j : Fin 16, ∀ e, State.reset.scanner.scanList[j.val]? = some e → e.channel ≠ 5) ∧
    (parseScanControl (scanControlRecord 2 0) = some ⟨2, 20, false⟩ ∧ (scanControlRecord 2 0).length = 18 ∧
      parseScanControl (scanControlRecord 100 1) = some ⟨100, 20, true⟩) ∧
    (2 ≤ 2 ∧ 100 ≤ 100 ∧ 20 ≤ 20 ∧ 500 ≤ 500) ∧ State.reset.scanner.published = [] ∧
    (let p := onScan (fun c => { c with published := [⟨0, 1⟩], publishTime := 0 }) .reset;
      p.scanner.published ≠ [] ∧ 20 < ((atTime 21 p).mc.time - p.scanner.publishTime).toNat ∧
        ((atTime 20 p).mc.time - p.scanner.publishTime).toNat ≤ 20) := by
  unfold State.hears
  have other : ∀ j : Fin 16, ∀ e, State.reset.scanner.scanList[j.val]? = some e → e.channel ≠ 5 := by
    intro j e h
    match j with
    | ⟨0, _⟩ => cases h; decide
    | ⟨n + 1, _⟩ => cases h
  and_intros
  all_goals first | exact other | decide +kernel

theorem witness_LatchesWindowsAndAssignmentsAreChanged :
    let w : List Byte := [0, 200, 0, 100, 5, 0, 0, 0]
    State.reset.hears .s0 .clearLatch ∧ State.reset.hears .s0 .write ∧ State.reset.offers = [] ∧ (0 : Mask) = 0 ∧
    (0x8000 : Mask) ≠ 0 ∧ (State.reset.port .s0).authority = .operator ∧
    (w.length = 8 ∧ parseWindows w = some ⟨200, 100, .halt, 0⟩ ∧ ¬ (200 : Nat) ≤ 100) ∧
    parseWindows [0, 100, 0, 100, 0, 0, 0, 0] = some ⟨100, 100, .notice, 0⟩ ∧
    (parseAssignments [6, 0, 0, 0, 0, 0, 0, 0, 0] = some ⟨none, .inside⟩ ∧
      parseAssignments [5, 1, 0, 0, 0, 0, 0, 0, 0] = some ⟨some 5, .outside⟩) := by
  unfold State.hears; decide +kernel

theorem witness_PulsesAreCounted :
    let l := onPulse (fun u => { u with status := .lost, regainRun := 3, lastEdge := 0 }) .reset
    State.reset.offers = [] ∧ State.reset.pulse.status = .present ∧ l.pulse.status = .lost ∧
    (((atTime 399 l).mc.time - l.pulse.lastEdge).toNat < l.pulse.lossTime ∧ 4 ≤ l.pulse.regainRun + 1) ∧
    ¬ ((atTime 400 l).mc.time - l.pulse.lastEdge).toNat < l.pulse.lossTime := by decide +kernel

theorem witness_SpeedWindowIsWorkedOut :
    State.reset.offers = [] ∧ reached (atTime 49 .reset).mc.time State.reset.pulse.windowTimer = false ∧
    reached (atTime 50 .reset).mc.time State.reset.pulse.windowTimer = true ∧ State.reset.pulse.source = .ground ∧
    (onPulse (fun u => { u with status := .lost, source := .motor }) .reset).pulse.source = .motor ∧
    (let l := atTime 400 (onPulse (fun u => { u with windowTimer := 400, forwardCount := 3 }) .reset);
      l.offers = [] ∧ reached l.mc.time l.pulse.windowTimer = true ∧
        (after .speedWindowEnd l).pulse.status ≠ l.pulse.status) := by decide +kernel

/-- A PULSE record with the given loss time below 256. -/
def pulseRecord (loss : Byte) : List Byte := [0x01, 0x40, 0x00, 0xA0, 50, 0x00, loss] ++ List.replicate 15 0

theorem witness_GroundLossAndPulseSettings :
    let m := onPulse (fun u => { u with motorSpeed := 151 }) .reset
    State.reset.offers = [] ∧ (onPulse (fun u => { u with lossTimer := none }) .reset).pulse.lossTimer = none ∧
    State.reset.pulse.lossTimer = some 400 ∧ reached (atTime 399 .reset).mc.time 400 = false ∧
    reached (atTime 400 .reset).mc.time 400 = true ∧
    (onPulse (fun u => { u with motorSpeed := 150 }) .reset).pulse.motorSpeed ≤ 150 ∧
    (m.pulse.status = .present ∧ m.pulse.lossTime ≤ ((atTime 400 m).mc.time - m.pulse.lastEdge).toNat ∧
      150 < m.pulse.motorSpeed) ∧
    (State.reset.hears .s0 .write ∧ (State.reset.port .s0).authority = .operator ∧ (pulseRecord 100).length = 22 ∧
      parsePulse (pulseRecord 100) = some ⟨320, 160, 50, 100⟩) ∧
    (base .sweep).mc.mode.configurable = false ∧ State.reset.mc.mode.configurable = true ∧
    ((atTime 99 .reset).mc.time - State.reset.pulse.lastEdge).toNat < 100 ∧
    100 ≤ ((atTime 100 .reset).mc.time - State.reset.pulse.lastEdge).toNat := by
  unfold State.hears; decide +kernel

/-- A selector with zone entries 3 and 12 enabled and two queued changes. -/
def zoned : Selector :=
  { (withRows (base .sweep)).selector with
    zones := (Selector.powerOn.zones.set 3 ⟨true, 9, 1, none⟩).set 12 ⟨true, 9, 2, some 0xFF⟩
    queue := [⟨100, 1, 9⟩, ⟨200, 0, 5⟩] }

theorem witness_ZonesResolveAndMarksAreApplied :
    ((zoned.zones.get 3).enabled = true ∧
      9 &&& (zoned.zones.get 3).ownMask.getD zoned.sharedMask =
        (zoned.zones.get 3).code &&& (zoned.zones.get 3).ownMask.getD zoned.sharedMask ∧
      ∀ j : Fin 16, j < 3 → (zoned.zones.get j).enabled ≠ true) ∧
    (∀ i : Fin 16, (Selector.powerOn.zones.get i).enabled ≠ true) ∧ zoned.queue = [] ++ zoned.queue ∧
    (zoned.queue = [⟨100, 1, 9⟩] ++ [⟨200, 0, 5⟩] ∧ (∀ e ∈ [(⟨100, 1, 9⟩ : QueuedChange)], e.mark ≤ 100) ∧
      (∀ e ∈ [(⟨200, 0, 5⟩ : QueuedChange)].head?, 100 < e.mark) ∧
      [(⟨100, 1, 9⟩ : QueuedChange)].getLast? = some ⟨100, 1, 9⟩) ∧
    (zoned.queue = [] ++ zoned.queue ∧ ∀ e ∈ zoned.queue.head?, 99 < e.mark) := by decide +kernel

theorem witness_ZoneAheadAppliesOrQueues :
    let s := withRows (base .sweep)
    s.hears .s2 .zoneAhead ∧ s.offers = [] ∧ 50000 < (50001 : BitVec 16).toNat ∧ (50000 : BitVec 16).toNat ≤ 50000 ∧
    State.reset.mc.mode.configurable = true ∧ s.mc.mode.configurable = false ∧
    (s.selector.resolve 0 = (16, 0) ∧ (s.selector.rows.get 0).valid = true) ∧
    ((base .sweep).selector.resolve 0 = (16, 0) ∧ ((base .sweep).selector.rows.get 0).valid = false) ∧
    (1 : BitVec 16) ≠ 0 ∧ s.selector.path < 4294967295 ∧ s.selector.queue.length < 4 ∧
    4294967295 ≤ (onSel (fun x => { x with path := 4294967295 }) s).selector.path ∧
    4 ≤ (onSel (fun x => { x with queue := List.replicate 4 ⟨1, 0, 0⟩ }) s).selector.queue.length ∧
    s.selector.pinned = false ∧ (onSel (fun x => { x with pinned := true }) s).selector.pinned = true := by
  unfold State.hears; decide +kernel

theorem witness_PinAndUnpinSetTheActiveProfile :
    let s := heldBy .s0 (withRows (base .transport))
    s.offers = [] ∧ s.hears .s0 .pin ∧ s.hears .s0 .unpin ∧ 8 ≤ (8 : Byte).toNat ∧ (7 : Byte).toNat = (7 : Fin 8).val ∧
    ((base .transport).mc.claims.get .travel).holder ≠ some .s0 ∧ (s.mc.claims.get .travel).holder = some .s0 ∧
    ((heldBy .s0 .reset).hears .s0 .pin ∧ (heldBy .s0 .reset).mc.mode.configurable = true) ∧
    s.mc.mode.configurable = false ∧ (s.selector.rows.get 7).valid = false ∧ (s.selector.rows.get 1).valid = true ∧
    s.selector.pinned = false ∧ (onSel (fun x => { x with pinned := true }) s).selector.pinned = true := by
  unfold State.hears; decide +kernel

/-- A PROFILES record. -/
def profileRecord (valid : Byte) (order : List Byte) : List Byte :=
  [valid, 0x09, 0xC4, 0x01, 0x2C, 0x00, 0x78, 0x03, 0x20, 0x03, 0x20, 0x0B, 0xB8, 0x00, 0xFF, 50] ++ order ++ [2]

theorem witness_WriteProfilesReplacesTheRow :
    let s := withRows (base .sweep)
    let r := profileRecord 1 [0, 1, 2, 3, 4]
    s.hears .s2 .write ∧ s.offers = [] ∧ r.length = 22 ∧ parseProfiles r = some row ∧
    (∃ x c, parseProfiles (profileRecord 1 [0, 1, 2, 3, 3]) = some x ∧ c ∉ x.shedOrder) ∧
    (row.valid = true ∧ { s.mc.limits with fwdCap := 2499 }.fwdCap < row.speedCap) ∧
    ((∀ c, c ∈ row.shedOrder) ∧ row.speedCap ≤ s.mc.limits.fwdCap) ∧
    (s.mc.mode = .sweep ∧ 0 = s.selector.active) ∧
    (parseProfiles (profileRecord 0 [0, 1, 2, 3, 4]) = some { row with valid := false } ∧
      (base .transport).mc.mode.working = true ∧ 0 = (base .transport).selector.active) ∧
    ((base .transport).mc.mode ≠ .sweep ∧ row.valid = true) := by
  unfold State.hears
  have twice : ∃ x c, parseProfiles (profileRecord 1 [0, 1, 2, 3, 3]) = some x ∧ c ∉ x.shedOrder :=
    ⟨{ row with shedOrder := [.travel, .main, .armL, .armR, .armR] }, .water, by decide +kernel⟩
  have each : ∀ c, c ∈ row.shedOrder := fun c => by cases c <;> decide
  and_intros
  all_goals first | exact twice | exact each | decide +kernel

theorem witness_PlainWritesReplaceTheirRecord :
    let travel : List Byte := [0, 200, 0x02, 0x58, 0x04, 0xB0, 0x01, 0xF4, 20] ++ List.replicate 17 0
    let map : List Byte := [0, 150, 0x03, 0x84, 0x0B, 0xB8, 0]
    let arm : List Byte := [0x0F, 0xA0, 3, 0x02, 0xBC, 0x01, 0x90] ++ List.replicate 15 0
    let water : List Byte := [0x03, 0x20, 0, 0, 0, 50, 0, 51] ++ List.replicate 18 0
    let level : List Byte := [0x03, 0x20, 0, 0, 0, 50, 0, 50] ++ List.replicate 18 0
    let budget (n : Byte) : List Byte := List.replicate 13 0 ++ [n]
    State.reset.hears .s0 .write ∧ (State.reset.port .s0).authority = .operator ∧ State.reset.offers = [] ∧
    State.reset.mc.mode.configurable = true ∧
    (travel.length = 26 ∧ parseTravel travel = some ⟨200, 600, 1200, 500, 20⟩) ∧
    (map.length = 7 ∧ parseDriveMap map = some ⟨150, 900, 3000⟩) ∧
    (arm.length = 22 ∧ parseImplements arm = some .powerOn) ∧
    (water.length = 26 ∧ parseWater water = some ⟨800, 0, 50, 51⟩ ∧ parseWater level = some ⟨800, 0, 50, 50⟩) ∧
    Association.ofNumber (field1 [3] 0) = some .armR ∧
    (parseRoleMap [16, 0, 0, 0, 0] = some ⟨none, 0, 0⟩ ∧ lastOne.scanner.state = .converting ∧
      State.reset.scanner.state = .stopped) ∧
    (parseZones [1, 0, 0, 0, 9, 7, 0, 0, 0, 0, 0] = some ⟨true, 9, 7, none⟩ ∧
      parseZones [1, 0, 0, 0, 9, 7, 1, 0, 0, 0, 0] = some ⟨true, 9, 7, some 0⟩) ∧
    code24At [0, 255, 255, 255] 0 = some 0xFFFFFF ∧
    ((budget 100).length = 14 ∧ ((budget 100).getD 13 0).toNat ≤ 100 ∧ 101 ≤ ((budget 101).getD 13 0).toNat) := by
  unfold State.hears; decide +kernel

theorem witness_WritesAreRefused :
    let bad : List Byte := List.replicate 26 255
    State.reset.hears .s0 .write ∧ State.reset.hears .s2 .write ∧ State.reset.offers = [] ∧
    ([1] : List Byte).length < 2 ∧ Table.ofNumber (0 : Byte).toNat = none ∧ Table.ofNumber (26 : Byte).toNat = none ∧
    (Table.ofNumber (18 : Byte).toNat = some .travel ∧ bad.length = Table.travel.recordSize ∧
      (0 : Byte).toNat < Table.travel.capacity ∧ Table.travel.capacity ≤ (1 : Byte).toNat ∧
      ([] : List Byte).length ≠ Table.travel.recordSize ∧ parseRecord .travel 0 bad = none) ∧
    (Table.chain ∈ [Table.ports, .claims, .machine, .publishedSet, .changeQueue, .outcomesL, .outcomesR, .chain] ∧
      (15 : Byte).toNat < Table.chain.capacity) ∧
    (parseRecord .limits 0 limitsRecord ≠ none ∧ (State.reset.port .s2).authority = .route ∧
      (State.reset.port .s0).authority = .operator) ∧
    ((base .sweep).hears .s0 .write ∧ (base .sweep).mc.mode.configurable = false ∧
      parseRecord .scanControl 0 (scanControlRecord 2 0) ≠ none) ∧
    parseRecord .implements 2 ([0x0F, 0xA0, 3, 0x02, 0xBC, 0x01, 0x90] ++ List.replicate 15 0) ≠ none := by
  unfold State.hears; decide +kernel

theorem witness_RowTakesItsTurn :
    let r : BudgetRow := ⟨100, 100, 0, 5, .full, none, false, false, 50⟩
    let h : BudgetRow := ⟨100, 100, 0, 5, .held, some 1000, true, true, 50⟩
    r.state ≠ .held ∧ r.demand ≤ 100 ∧ (50 < r.demand ∧ r.demand * r.floor ≤ 50 * 100) ∧
    (49 < r.demand ∧ 49 * 100 < r.demand * r.floor) ∧
    (h.state = .held ∧ h.holdOver = true ∧ { h with holdOver := false }.holdOver = false) ∧
    (h.demand + Coefficients.powerOn.margin ≤ 150 ∧ 149 < h.demand + Coefficients.powerOn.margin) := by decide +kernel

/-- The rows of the recompute, with water in the last rank and in the first. -/
theorem witness_RowTakesItsTurn_recompute :
    (∀ l ∈ ([[.travel, .main, .armL, .armR, .water], [.water, .main, .armL, .armR, .travel]] : List (List Consumer)),
      let b := (onBudget (fun b => { b with rows := b.rows.ranked l }) .reset).budget
      l.Nodup ∧ ∀ k : Fin 5, ∀ c, l[k.val]? = some c → (b.rows.get c).rank = k.val + 1) ∧
    ((0 : Nat) = (State.reset.budget.rows.get .water).demand ∧
      (base .sweep).budget.mode = .sweep ∧ 1 ≠ ((base .sweep).budget.rows.get .water).demand) ∧
    ((onBudget (fun b => { b with mode := .stowing }) .reset).budget.mode = .stowing ∧
      State.reset.budget.rows.forMode .sweep = State.reset.budget.rows ∧
      (let o := (onBudget (fun b => { b with rows := { b.rows with main := { b.rows.main with offered := 5 } } })
          .reset).budget.rows;
        o.forMode .sweep ≠ o)) ∧
    (State.reset.budget.rows.ranked [.travel, .main, .armL, .armR, .water] = State.reset.budget.rows ∧
      State.reset.budget.rows.ranked [.water, .main, .armL, .armR, .travel] ≠ State.reset.budget.rows) ∧
    (State.reset.budget.reserve - 0 = State.reset.budget.ceiling ∧
      State.reset.budget.reserve - 1 ≠ State.reset.budget.ceiling) := by
  decide +kernel

theorem witness_ReserveIsReportedAndLost :
    let l := onBudget (fun b => { b with leaseExpiry := some 500, source := .reported }) .reset
    let h := onBudget (fun b =>
      { b with
        rows :=
          { b.rows with
            main := ⟨0, 0, 0, 2, .held, some 999, true, false, 50⟩
            water := ⟨0, 0, 0, 5, .held, some 1000, true, false, 50⟩ } }) .reset
    let o := onBudget (fun b => { b with rows := { b.rows with water := { b.rows.water with holdTimer := false } } }) h
    State.reset.hears .s1 .reserve ∧ State.reset.offers = [] ∧ 1000 < (1001 : BitVec 16).toNat ∧
    (1000 : BitVec 16).toNat ≤ 1000 ∧ State.reset.budget.leaseExpiry = none ∧ l.budget.leaseExpiry = some 500 ∧
    reached (atTime 499 l).mc.time 500 = false ∧ reached (atTime 500 l).mc.time 500 = true ∧
    (State.reset.budget.rows.get .water).state ≠ .held ∧
    ((h.budget.rows.get .water).state = .held ∧ (h.budget.rows.get .water).holdTimer = true ∧
      (h.budget.rows.get .water).holdExpiry = some 1000 ∧ reached (atTime 1000 h).mc.time 1000 = true ∧
      reached (atTime 999 h).mc.time 1000 = false) ∧
    o.budget.rows.water.holdTimer = false ∧
    (State.reset.budget.source = .fallback ∧ l.budget.source = .reported ∧
      { l.budget with lastReporter := some .s1 }.lastReporter = some .s1) := by
  unfold State.hears; decide +kernel

theorem witness_TravelRequestIsSetAndTimesOut :
    let s := heldBy .s0 (base .transport)
    let g := onGov (fun g =>
      { g with leaseExpiry := some 200, state := .directionHold .reverse, liftWait := some 3000, request := -1 }) s
    s.hears .s0 .travel ∧ s.offers = [] ∧ (BitVec.ofInt 16 (-12001)).toInt < -12000 ∧
    12000 < (12001 : BitVec 16).toInt ∧ -12000 ≤ (BitVec.ofInt 16 (-12000)).toInt ∧ (12000 : BitVec 16).toInt ≤ 12000 ∧
    ((base .transport).mc.claims.get .travel).holder ≠ some .s0 ∧ (s.mc.claims.get .travel).holder = some .s0 ∧
    (heldBy .s0 .reset).mc.mode.configurable = true ∧ s.mc.mode.configurable = false ∧
    s.governor.leaseExpiry = none ∧ s.governor.liftWait = none ∧
    (g.governor.leaseExpiry = some 200 ∧ reached (atTime 199 g).mc.time 200 = false ∧
      reached (atTime 200 g).mc.time 200 = true) ∧
    (g.governor.liftWait = some 3000 ∧ reached (atTime 3000 g).mc.time 3000 = true ∧
      reached (atTime 2999 g).mc.time 3000 = false ∧ g.governor.state = .directionHold .reverse) ∧
    (0 ≤ (0 : BitVec 16).toInt ∧ (0 : BitVec 16).toInt ≠ g.governor.request ∧
      (0 : BitVec 16).toInt = s.governor.request) := by
  unfold State.hears; decide +kernel

theorem witness_RequestSignMovesTheGovernor :
    let g := State.reset.governor
    (0 : Int) = 0 ∧ (0 : Int) < 1 ∧ (-1 : Int) < 0 ∧
    ((g.takeSign 0 (-1)).val.state = .directionHold .reverse ∧ g.state ≠ .directionHold .reverse) ∧
    (let h := { g with state := .directionHold .reverse };
      h.state = .directionHold .reverse ∧ (h.takeSign 0 1).val.state ≠ .directionHold .reverse) ∧
    (g.copies.implements.liftConfirmed = true ∧ { g.copies.implements with armL := .lowering }.liftConfirmed = false ∧
      { g with state := .reverse, command := -5 }.state = .reverse) := by decide +kernel

theorem witness_CeilingIsTheLeastTerm :
    let g := (base .sweep).governor
    let up : ImplementReport := ⟨.raised, .stowed, .up, false, false, false, false, false⟩
    let r := { g with command := -1, copies := { g.copies with implements := { up with armL := .working } } }
    State.reset.governor.copies.mode.working = false ∧ g.copies.mode.working = true ∧
    { g.copies with stopTravel := true }.stopTravel = true ∧ g.copies.stopTravel = false ∧
    (r.reverseward = true ∧ r.copies.implements.liftConfirmed = false) ∧ g.reverseward = false ∧
    { r.copies with implements := up }.implements.liftConfirmed = true ∧
    { g with copies := { g.copies with stale := false } }.ceilingNow.1 = .direction ∧
    (let w := { g with copies := { g.copies with
        stale := true, transportCap := 500, mode := .transport, grant := 0, ct := 1000, grade := some (-50), cg := 100 } };
      w.ceilingNow = (.creep, 500) ∧ { w with demand := 1 }.ceilingNow = (.grant, 0) ∧
        { w with settings := { w.settings with creep := 501 } }.ceilingNow = (.direction, 500)) ∧
    (∃ v out, r.rederive 0 = ⟨v, out⟩) := by
  and_intros
  all_goals first | exact ⟨_, _, rfl⟩ | decide +kernel

theorem witness_RampStepMovesTheCommand :
    let f := onGov (fun g => { g with rampTimer := some 10, state := .forward, command := 500, target := 500 })
      (base .transport)
    let h (d : Heading) := onGov (fun g => { g with rampTimer := some 10, state := .directionHold d }) (base .sweep)
    State.reset.governor.rampTimer = none ∧ f.offers = [] ∧ f.governor.rampTimer = some 10 ∧
    reached (atTime 9 f).mc.time 10 = false ∧ reached (atTime 10 f).mc.time 10 = true ∧
    (f.governor.command ≠ 0 ∧ f.governor.state = .forward) ∧
    ((h .forward).governor.state = .directionHold .forward ∧ (h .forward).governor.command = 0) ∧
    ((h .reverse).governor.state = .directionHold .reverse ∧ (h .reverse).governor.copies.motorSpeed = 0 ∧
      (h .reverse).governor.copies.implements.liftConfirmed = true) ∧
    (onGov (fun g => { g with state := .stopping }) f).governor.state = .stopping := by decide +kernel

theorem witness_SlipWindowsMoveTheTractionCut :
    let g := State.reset.governor
    let w := { g with slipWindow := some ⟨0, true, true⟩ }
    g.slipWindow = none ∧ g.slipArmed = false ∧ { g with slipArmed := true }.slipArmed = true ∧
    w.slipWindow = some ⟨0, true, true⟩ ∧ ((199 : Time) - 0).toNat < 200 ∧ 200 ≤ ((200 : Time) - 0).toNat ∧
    (true && decide (g.settings.slipLimit < 21)) = true ∧ (true && decide (20 ≤ g.settings.slipLimit)) = true ∧
    { g with cutLevel := 4 }.cutLevel < 5 ∧ 0 < { g with cutLevel := 1 }.cutLevel ∧
    (5 ≤ { g with cutLevel := 5 }.cutLevel ∧ g.cutLevel = 0) ∧
    (Mode.halted.working = false ∧ Mode.service.working = false) := by decide +kernel

theorem witness_ArmAndBroomTakeCommands :
    let s := heldBy .s2 .reset
    s.offers = [] ∧ s.hears .s2 .arm ∧ s.hears .s2 .broom ∧ 2 ≤ (2 : Byte).toNat ∧ 3 ≤ (3 : Byte).toNat ∧
    (1 : Byte).toNat = sideNumber .right ∧ (2 : Byte).toNat = ArmCommand.in_.number ∧
    (State.reset.mc.claims.get .implements).holder ≠ some .s2 ∧ (s.mc.claims.get .implements).holder = some .s2 := by
  unfold State.hears; decide +kernel

/-- The left arm in a state, its timer run out at 250, with an open motion at the given attempt. -/
def armAt (a : ArmState) (k : MotionKind) (n : Nat) : State :=
  atTime 250 (onArm .left (fun r => { r with state := a, timer := some 250, motion := some ⟨k, 0, n⟩, attempts := n })
    (base .sweep))

/-- Every state an arm can be in. -/
def armStates : List ArmState :=
  [.stowed, .swingingOut, .lowering, .working, .yielding, .raising, .raised, .swingingIn, .retryWait, .fault]

/-- The sequencer in SWEEP with the left arm in a state at a position, named by the profile or not. -/
def swept (a : ArmState) (pos : Option Int) (used : ArmsUsed) : Sequencer :=
  let s := onArm .left (fun r => { r with state := a, position := pos, reach := 800, motion := some ⟨.swingIn, 0, 1⟩ })
    (base .sweep)
  { s.sequencer with armsUsed := used }

/-- Both wishes before and after the event in every state, each cause gained alone, present and absent, and positions on
both sides of the reach less 20. -/
theorem witness_ArmsAndBroomFollowTheirWishes :
    (∀ a ∈ armStates,
      let o := swept a (some 780) .both
      let i := swept a (some 779) .none
      o.mode.working = true ∧ (o.arm .left).state = a ∧ o.wishedOut .left ∧ ¬ i.wishedOut .left ∧ ¬ o.caused .left ∧
        { o with liftArms := true }.caused .left ∧ (o.arm .left).motion = some ⟨.swingIn, 0, 1⟩) ∧
    (let o := swept .working none .both;
      o.gains { o with liftForReverse := true } .left .liftRequest ∧
        o.gains { o with liftArms := true } .left .trip ∧
        o.gains { o with left := { o.left with row := ⟨0, .held⟩ } } .left .budgetHeld) ∧
    ((swept .raised (some 780) .both).left.position = some 780 ∧
      ((swept .raised (some 780) .both).left.reach : Int) - 20 ≤ 780 ∧
      779 < ((swept .raised (some 779) .both).left.reach : Int) - 20) ∧
    State.reset.sequencer.mode.working = false ∧ Mode.sweep.working = true ∧
    (let q := swept .stowed none .both;
      (q.mode = .sweep ∧ q.main.command = .auto ∧ q.liftForReverse = false ∧ q.liftArms = false ∧
        q.main.row.state ≠ .held) ∧ q.main.state = .up ∧ { q.main with state := .down }.state = .down) ∧
    (∃ v out, (swept .working none .both).event (swept .working none .none) ⟨0, 0⟩ = ⟨v, out⟩) := by
  unfold Sequencer.wishedOut Sequencer.caused Sequencer.gains
  and_intros
  all_goals first | exact ⟨_, _, rfl⟩ | decide +kernel

/-- Positions at the ends of the bands: reach less 20, 50, reach less 60. -/
theorem witness_ArmTimersAndPublishesMoveTheArm_publishes :
    let p (a : ArmState) := swept a (some 700) .both
    (p .working).mode.working = true ∧ ((p .swingingOut).left.reach : Int) - 20 ≤ 780 ∧ (50 : Int) ≤ 50 ∧
    739 < ((p .working).left.reach : Int) - 60 ∧ ((p .working).left.reach : Int) - 60 ≤ 740 ∧ (50 : Int) < 51 ∧
    779 < ((p .yielding).left.reach : Int) - 20 ∧
    ((p .working).left.state = .working ∧ (p .working).left.position = some 700 ∧
      ((p .working).wishedOut .left ↔ { p .working with armsUsed := .l }.wishedOut .left) ∧
      761 ≠ (p .working).left.reach ∧ 700 < (761 : Int) - 60 ∧ (760 : Int) - 60 ≤ 700 ∧
      (p .working).wishedOut .left ∧ ¬ { p .working with armsUsed := .r }.wishedOut .left) := by
  unfold Sequencer.wishedOut; decide +kernel

/-- At the attempts on both sides of the retry limit of 3. -/
theorem witness_ArmTimersAndPublishesMoveTheArm :
    (∀ n ∈ [2, 3], ∀ x ∈ [(ArmState.swingingOut, MotionKind.swingOut), (.swingingIn, .swingIn), (.yielding, .yield),
        (.retryWait, .swingOut)],
      let s := armAt x.1 x.2 n
      s.offers = [] ∧ s.sequencer.mode.working = true ∧ (s.sequencer.arm .left).timer = some 250 ∧
        reached s.mc.time 250 = true ∧ (s.sequencer.arm .left).motion = some ⟨x.2, 0, n⟩ ∧
        (s.sequencer.arm .left).state = x.1) ∧
    2 + 1 ≤ (armAt .swingingOut .swingOut 2).sequencer.left.settings.retryLimit ∧
    (armAt .swingingOut .swingOut 3).sequencer.left.settings.retryLimit < 3 + 1 := by decide +kernel

theorem witness_LiftAndLowerTimesExpire :
    let s := armAt .raising .swingOut 1
    let o : State := { s with sequencer := { s.sequencer with armsUsed := .both } }
    let c : State := { o with sequencer := { o.sequencer with liftArms := true } }
    let m (b : BroomState) : State :=
      { s with sequencer := { s.sequencer with main := { s.sequencer.main with state := b, timer := some 250 } } }
    s.offers = [] ∧ s.sequencer.mode.working = true ∧
    (s.sequencer.arm .left).timer = some 250 ∧ reached s.mc.time 250 = true ∧
    (armAt .lowering .swingOut 1).sequencer.left.state = .lowering ∧ (s.sequencer.arm .left).state = .raising ∧
    s.sequencer.wantedOut .left = false ∧
    (c.sequencer.wantedOut .left = true ∧ (c.sequencer.armCauses .left).any = true) ∧
    (o.sequencer.wantedOut .left = true ∧ (o.sequencer.armCauses .left).any = false ∧
      (o.sequencer.arm .left).afterFail = false ∧ { o.sequencer.left with afterFail := true }.afterFail = true) ∧
    ((m .lowering).sequencer.main.timer = some 250 ∧ (m .lowering).sequencer.main.state = .lowering ∧
      (m .lifting).sequencer.main.state = .lifting) ∧
    ((⟨0, .full⟩ : GrantCopy).state = .full ∧ (⟨0, .trimmed⟩ : GrantCopy).state = .trimmed ∧
      (⟨0, .held⟩ : GrantCopy).state = .held) ∧
    (∃ v out, s.sequencer.finish c.sequencer true = ⟨v, out⟩) := by
  and_intros
  all_goals first | exact ⟨_, _, rfl⟩ | decide +kernel

theorem witness_SequencerTimersActWhenDue :
    let r : State := { base .sweep with sequencer := { (base .sweep).sequencer with regTimer := some 20 } }
    State.reset.offers = [] ∧ State.reset.sequencer.mode.working = false ∧
    due (base .sweep).mc.time ((base .sweep).sequencer.arm .left).timer = false ∧
    (State.reset.sequencer.arm .left).state = .stowed ∧ State.reset.sequencer.main.state = .up ∧
    due State.reset.mc.time State.reset.sequencer.regTimer = false ∧
    due (atTime 19 r).mc.time r.sequencer.regTimer = false ∧
    (r.sequencer.regTimer = some 20 ∧ reached (atTime 20 r).mc.time 20 = true) := by decide +kernel

/-- PRIMING whose timer has run out, at the ends of the spray conditions. -/
def priming (speed allowed : Nat) : State :=
  atTime 800 (onWater (fun w =>
    { w with
      state := .priming, primeTimer := some 800, eligible := 1, allowed := allowed,
      copies := { w.copies with groundSpeed := speed } }) (base .sweep))

theorem witness_WaterRequestAndPriming :
    let s := heldBy .s0 .reset
    let p := priming 200 150
    s.hears .s0 .water ∧ s.offers = [] ∧ 2 ≤ (2 : Byte).toNat ∧ 4096 ≤ (4096 : BitVec 16).toNat ∧
    (1 : Byte).toNat ≤ 1 ∧ (4095 : BitVec 16).toNat < 4096 ∧
    (State.reset.mc.claims.get .water).holder ≠ some .s0 ∧ (s.mc.claims.get .water).holder = some .s0 ∧
    s.water.state ≠ .priming ∧ due (atTime 799 p).mc.time p.water.primeTimer = false ∧
    (p.offers = [] ∧ p.water.state = .priming ∧ p.water.primeTimer = some 800 ∧ reached p.mc.time 800 = true ∧
      p.water.copies.mode = .sweep ∧ p.water.enable = true ∧ p.water.tankEmpty = false ∧
      p.water.copies.cutWater = false ∧ p.water.eligible ≠ 0 ∧ p.water.copies.row.state ≠ .held ∧
      200 ≤ p.water.copies.groundSpeed ∧ 150 ≤ p.water.allowed) ∧
    (priming 199 150).water.copies.groundSpeed < 200 ∧ (priming 200 149).water.allowed < 150 := by
  unfold State.hears; decide +kernel

theorem witness_WaterDutiesAndOutputs :
    let q := fun (x : Water) => (x.reevaluate x 0).val
    let w := { (base .sweep).water with copies := { (base .sweep).water.copies with
      groups := 1, dose := 200, groundSpeed := 4000, row := ⟨1000, .full⟩ } }
    (q State.reset.water).state = .off ∧ State.reset.water.copies.mode ≠ .sweep ∧ (q w).state = .priming ∧
    (q { w with state := .spraying }).state = .spraying ∧
    (∃ v out, w.reevaluate w 0 = ⟨v, out⟩) ∧
    (w.tankEmpty = false ∧ 49 < (w.settings.emptyLevel : Int) ∧ ¬ (50 : Int) < w.settings.emptyLevel ∧
      { w with tankEmpty := true }.tankEmpty = true ∧ (w.settings.refillLevel : Int) < 151 ∧
      ¬ (w.settings.refillLevel : Int) < 150) ∧
    (w.copies.ground = .present ∧ { w with state := .spraying }.state = .spraying ∧
      0 < (twelve.filter fun n => w.copies.groups.getLsbD n.val && !w.exclusion.getLsbD n.val &&
        !w.copies.failed.getLsbD n.val && w.associations.get n == .none && !w.settings.exempt.getLsbD n.val).length) ∧
    ({ w.copies with ground := .lost }.ground = .lost ∧ { w with autoCut := true }.autoCut = true ∧
      w.autoCut = false) := by
  and_intros
  all_goals first | exact ⟨_, _, rfl⟩ | decide +kernel

theorem witness_ChainIsRefreshedCheckedAndCleared :
    let s := service .service
    let c := onChain (fun c => { c with shifting := true, waiting := true, failed := 1 }) s
    State.reset.offers = [] ∧ reached (atTime 19 s).mc.time s.chain.timer = false ∧
    reached (atTime 20 s).mc.time s.chain.timer = true ∧ s.chain.shifting = false ∧ c.chain.shifting = true ∧
    c.chain.waiting = true ∧ c.chain.failed.getLsbD 0 = true ∧ c.chain.failed.getLsbD 15 = false ∧
    (s.hears .s1 .clearFailed ∧ s.mc.mode = .service ∧ (service .halted).hears .s1 .clearFailed ∧
      (service .halted).mc.mode ≠ .service) ∧
    ((s.sequencer.arm .left).liftFailed = false ∧ (s.sequencer.arm .left).state ≠ .fault ∧
      s.sequencer.mode = .service ∧ (base .sweep).sequencer.mode ≠ .service ∧
      (swept .fault none .both).left.state = .fault ∧
      { s.sequencer.left with liftFailed := true }.liftFailed = true) ∧
    (s.sequencer.main.liftFailed = false ∧ s.sequencer.main.state ≠ .fault ∧
      { s.sequencer.main with state := .fault }.state = .fault) ∧
    (∀ x ∈ [((0x8000 : Mask), (0 : Mask), (0 : Int)), (0, 0x8000, 1), (0x8000, 0x8000, 2)],
      let d := onChain (fun c => { c with shifting := true, counts := c.counts.set 15 1 }) s
      let u := after (.refreshCompletion x.1 x.2.1) d
      d.chain.shifting = true ∧ d.chain.failed.getLsbD 15 = false ∧ u.chain.failed.getLsbD 15 = true ∧
        x.2.2 = if x.2.1.getLsbD 15 = false then 0 else if x.1.getLsbD 15 = d.chain.loaded.getLsbD 15 then 1 else 2)
        := by
  unfold State.hears; decide +kernel

theorem witness_TimeAndRecordsChangeByTheirCommandsAlone :
    exec .groundPulse .reset = .next (after .groundPulse .reset) ∧ Instr.groundPulse.configures = false ∧
    Instr.groundPulse.isPowerOn = false ∧ Instr.groundPulse ≠ .timeCounterAdvance := ⟨rfl, rfl, rfl, by decide⟩

/-! The invariants hold in a state of a working mode, with a command waiting. -/

/-- A state in SWEEP with a command waiting. -/
def running : State := (heldBy .s0 (withRows (base .sweep))).setPending [.motorPulse false]

theorem witness_step_from_running :
    StepsTo running (after (.motorPulse false) (running.setPending [])) := rfl

theorem witness_PortsAndClaimsStaySound : running.portsSound ∧ running.claimsSound := by
  refine ⟨fun p => ?_, fun d p h => ?_⟩
  · unfold PortUnit.sound
    cases p <;> decide +kernel
  · have hp : p = .s0 := by cases d <;> exact (Option.some.inj h).symm
    subst hp
    exact ⟨by decide +kernel, .inl rfl⟩

theorem witness_GrantsNeverExceedTheCeiling : running.budgetSound := by
  have order : namesEachOnce [.travel, .main, .armL, .armR, .water] := ⟨rfl, fun c => by cases c <;> decide⟩
  have rows : ∀ i : Fin 8, (running.selector.rows.get i).shedOrder = [.travel, .main, .armL, .armR, .water] := by
    decide +kernel
  refine ⟨⟨by decide +kernel, by decide +kernel, ⟨_, order, fun c => by cases c <;> rfl⟩, fun c => ?_⟩, fun i => ?_,
    fun o ho => nomatch ho⟩
  · cases c <;> decide +kernel
  · rw [rows i]
    exact order

theorem witness_ReverseOnlyWithImplementsLifted : running.inStep ∧ running.governor.sound := by
  unfold State.inStep Governor.sound
  and_intros
  all_goals first | rfl | decide +kernel

theorem witness_WaterAndChainStaySound : running.water.sound ∧ running.chain.sound := by
  unfold Water.sound Chain.sound; decide +kernel

theorem witness_RecordsStaySound : running.recordsSound := by
  have outcomes : ∀ x, (running.sequencer.arm x).outcomes.length ≤ 3 := fun x => by cases x <;> decide +kernel
  unfold State.recordsSound Scanner.sound
  and_intros
  all_goals first | exact outcomes | decide +kernel

theorem witness_CopiesAgreeBetweenCommands :
    let s := State.reset.setPending [.motorPulse false]
    s.copiesAgree ∧ (∃ l, namesEachOnce l ∧ (s.selector.rows.get s.selector.active).shedOrder = l) ∧
      StepsTo s (after (.motorPulse false) .reset) ∧ (after (.motorPulse false) .reset).offers = [] := by
  refine ⟨?_, ⟨[.travel, .main, .armL, .armR, .water], ⟨rfl, fun c => by cases c <;> decide⟩, by decide +kernel⟩, rfl, rfl⟩
  unfold State.copiesAgree State.inStep
  and_intros
  all_goals first | rfl | decide +kernel | (intro c; cases c <;> decide +kernel)

end Sys2Proof.Tests
end

section
/-! SUPPORT. What a request command does, said once: the examination of 01 R12, then the part of its owning block. -/

namespace Sys2Proof

open Machine in
/-- The part of the owning block in a request command; for the other commands nothing. -/
def Instr.body : Instr → RequestBody
  | .claim p _ d => claimBody p d.toNat
  | .release p _ d => releaseBody p d.toNat
  | .travel p _ v => travelBody p (signed16 v)
  | .modeHalt p _ => modeHaltBody p
  | .modeTransport p _ => modeTransportBody p
  | .modeSweep p _ => modeSweepBody p
  | .modeService p _ => modeServiceBody p
  | .start _ _ => startBody
  | .restart _ _ => restartBody
  | .pin p _ r => pinBody p r.toNat
  | .unpin p _ => unpinBody p
  | .zoneAhead _ _ z d => zoneAheadBody z d.toNat
  | .reserve p _ n => reserveBody p n.toNat
  | .arm p _ x c => armBody p x.toNat c.toNat
  | .broom p _ c => broomBody p c.toNat
  | .water p _ e x => waterBody p e.toNat x.toNat
  | .holdSet p _ l => holdSetBody p l.toNat
  | .releaseSet p _ => releaseSetBody p
  | .clearLatch _ _ m => clearLatchBody m
  | .clearFailed _ _ m => clearFailedBody m
  | .output _ _ x v => outputBody x.toNat (signed16 v)
  | .read _ _ t f c => readBody t.toNat f.toNat c.toNat
  | .subscribe p _ c => subscribeBody p c
  | .lockSoft _ _ => lockKindBody false
  | .lockHard _ _ => lockKindBody true
  | .unlock _ _ => unlockBody
  | .writeLimits p _ i r => writeBody p .limits i.toNat r
  | .writeRoleMap p _ i r => writeBody p .roleMap i.toNat r
  | .writeScanList p _ i r => writeBody p .scanList i.toNat r
  | .writeScanControl p _ i r => writeBody p .scanControl i.toNat r
  | .single p _ n l => writeBody p .scanControl 0 (singleRecord n l)
  | .writeWindows p _ i r => writeBody p .windows i.toNat r
  | .writeAssignments p _ i r => writeBody p .assignments i.toNat r
  | .writePulse p _ i r => writeBody p .pulse i.toNat r
  | .writeProfiles p _ i r => writeBody p .profiles i.toNat r
  | .writeZones p _ i r => writeBody p .zones i.toNat r
  | .writeZoneMask p _ i r => writeBody p .zoneMask i.toNat r
  | .writeBudget p _ i r => writeBody p .budget i.toNat r
  | .writeCoefficients p _ i r => writeBody p .coefficients i.toNat r
  | .writeTravel p _ i r => writeBody p .travel i.toNat r
  | .writeDriveMap p _ i r => writeBody p .driveMap i.toNat r
  | .writeImplements p _ i r => writeBody p .implements i.toNat r
  | .writeWater p _ i r => writeBody p .water i.toNat r
  | .writeAssociation p _ i r => writeBody p .association i.toNat r
  | .write p _ x => writePayloadBody p x
  | _ => fun s => (s, .done)

namespace Machine

/-- A request command is its port unit's examination, then its owning block's part. -/
theorem exec_of_request {c : Instr} {p : Port} {k : RequestKind} {tag : Byte} (h : c.request = some (p, k, tag))
    (s : State) : exec c s = .next (s.serve p k tag c.body) := by
  cases c <;> cases h <;> rfl

/-- The classes of a kind in the table of 02 R24. -/
theorem RequestKind.allows_iff (k : RequestKind) (c : AuthorityClass) : k.allows c = true ↔ c ∈ k.classes := by
  cases k <;> cases c <;> decide

theorem State.serve_of_cutOff {s : State} {p : Port} (h : (s.port p).state = .cutOff) (k : RequestKind) (tag : Byte)
    (body : RequestBody) : s.serve p k tag body = s := by
  simp [State.serve, h]

theorem State.serve_of_occupied {s : State} {p : Port} (h : (s.port p).state ≠ .cutOff)
    (hs : (s.port p).slot.isSome = true) (k : RequestKind) (tag : Byte) (body : RequestBody) :
    s.serve p k tag body = s.setPort p { s.port p with overrun := true } := by
  simp [State.serve, h, hs]

theorem State.serve_of_free {s : State} {p : Port} (h : (s.port p).state ≠ .cutOff) (hs : (s.port p).slot = none)
    (k : RequestKind) (tag : Byte) (body : RequestBody) : s.serve p k tag body = s.answer p k tag body := by
  simp [State.serve, h, hs]

theorem State.answer_of_allowed {s : State} {p : Port} {k : RequestKind} (h : (s.port p).authority ∈ k.classes)
    (tag : Byte) (body : RequestBody) :
    s.answer p k tag body = (body s).1.respond p (byte k.number) tag (body s).2 := by
  simp [State.answer, (k.allows_iff _).2 h]

theorem State.answer_of_not_allowed {s : State} {p : Port} {k : RequestKind} (h : (s.port p).authority ∉ k.classes)
    (tag : Byte) (body : RequestBody) :
    s.answer p k tag body = s.respond p (byte k.number) tag ⟨.notPermitted, []⟩ := by
  simp [State.answer, mt (k.allows_iff _).1 h, Reply.no]

/-- A request that is heard gets its owning block's answer. -/
theorem exec_of_hears {c : Instr} {p : Port} {k : RequestKind} {tag : Byte} (hc : c.request = some (p, k, tag))
    {s : State} (h : s.hears p k) :
    exec c s = .next ((c.body s).1.respond p (byte k.number) tag (c.body s).2) := by
  obtain ⟨hstate, hslot, hclass⟩ := h
  rw [exec_of_request hc, State.serve_of_free hstate hslot, State.answer_of_allowed hclass]

end Machine

end Sys2Proof
end

section
/-! SUPPORT. What the commands leave of the standing records: three relations between states, each kept by one block's
event, by settling and by an answer. -/

namespace Sys2Proof.Machine

/-! ### Sound port units -/

theorem PortUnit.sound_moveWaiting_of_slot_none (u : PortUnit) (h : u.slot = none) : u.moveWaiting = u := by
  simp [PortUnit.moveWaiting, h]

/-- What the transmitter's choice leaves of a sound unit is sound, however busy the transmitter was. -/
theorem PortUnit.sound_choose {u : PortUnit} (h : { u with transmitter := .noticeGap [] }.sound) : u.choose.sound := by
  obtain ⟨hh, hd, hc, hn, hw, -⟩ := h
  unfold PortUnit.choose
  split
  · rename_i hcut
    obtain ⟨-, -, -, -, hb, hq⟩ := hc hcut
    exact ⟨hh, hd, hc, hn, hw, fun _ => ⟨hb, hq⟩⟩
  · rename_i hcut
    split
    · unfold PortUnit.moveWaiting
      split
      · exact ⟨hh, hd, fun e => absurd e hcut, hn, nofun, nofun⟩
      · rename_i hs
        exact ⟨hh, hd, fun e => absurd e hcut, hn, fun _ => hs, nofun⟩
    · rename_i hb
      split
      · exact ⟨hh, hd, hc, hn, hw, nofun⟩
      · rename_i hq
        exact ⟨hh, hd, hc, hn, hw, fun _ => ⟨hb, hq⟩⟩

/-- A sound unit stays sound behind another transmitter that is not IDLE. -/
theorem PortUnit.sound_sending {u : PortUnit} (h : u.sound) {x : Transmitter} (hx : x ≠ .idle) :
    { u with transmitter := x }.sound := by
  obtain ⟨hh, hd, hc, hn, hw, -⟩ := h
  exact ⟨hh, hd, hc, hn, hw, fun e => absurd e hx⟩

theorem PortUnit.sound_chooseIfIdle {u : PortUnit} (h : { u with transmitter := .noticeGap [] }.sound) :
    u.chooseIfIdle.sound := by
  obtain ⟨hh, hd, hc, hn, hw, -⟩ := id h
  unfold PortUnit.chooseIfIdle
  split
  · exact PortUnit.sound_choose h
  all_goals rename_i e; exact ⟨hh, hd, hc, hn, hw, by simp [e]⟩

theorem PortUnit.sound_frameSent {u : PortUnit} (h : u.sound) : u.frameSent.sound := by
  unfold PortUnit.frameSent
  split
  · exact PortUnit.sound_choose (PortUnit.sound_sending h nofun)
  · exact PortUnit.sound_choose (PortUnit.sound_sending h nofun)
  all_goals exact h

theorem PortUnit.sound_noticeSent {u : PortUnit} (h : u.sound) : u.noticeSent.sound := by
  obtain ⟨hh, hd, hc, hn, hw, -⟩ := id h
  unfold PortUnit.noticeSent
  split
  · refine ⟨hh, hd, fun e => ?_, ?_, hw, nofun⟩
    · obtain ⟨h1, h2, h3, h4, h5, hq⟩ := hc e
      exact ⟨h1, h2, h3, h4, h5, by simp [hq]⟩
    · dsimp only
      split
      · simp only [List.length_drop]; omega
      · exact hn
  all_goals exact h

theorem PortUnit.sound_offerNotice {u : PortUnit} (h : u.sound) (n : NoticeRecord) : (u.offerNotice n).sound := by
  unfold PortUnit.offerNotice
  split
  · exact h
  · split
    · exact h
    · rename_i hcut
      split
      · rename_i hroom
        obtain ⟨hh, hd, hc, hn, hw, -⟩ := h
        refine PortUnit.sound_chooseIfIdle ⟨hh, hd, fun e => absurd e hcut, ?_, hw, nofun⟩
        simp only [noticeCapacity] at hroom
        simp only [List.length_append, List.length_singleton]
        omega
      · exact h

/-- A response reaches the port unit of a request only while it is not CUT_OFF (01 R8). -/
theorem PortUnit.sound_respond {u : PortUnit} (h : u.sound) (hcut : u.state ≠ .cutOff) (r : Response) :
    (u.respond r).sound := by
  obtain ⟨hh, hd, hc, hn, hw, hi⟩ := h
  unfold PortUnit.respond
  split
  · exact PortUnit.sound_chooseIfIdle ⟨hh, hd, fun e => absurd e hcut, hn, nofun, nofun⟩
  · rename_i f hb
    exact ⟨hh, hd, fun e => absurd e hcut, hn, fun e => by simp [hb] at e, hi⟩

/-- A bad frame on a port that is not CUT_OFF: the count rises and decides the state (01 R5, R6, R7). -/
theorem PortUnit.badFrame_of_not_cutOff {u : PortUnit} (h : u.state ≠ .cutOff) :
    u.badFrame =
      (let v := { u with
          errorCount := min 255 (u.errorCount + 8), state := stateAfterRise (min 255 (u.errorCount + 8)) }
        if stateAfterRise (min 255 (u.errorCount + 8)) = .cutOff then v.cutOffEntry else v) := by
  unfold PortUnit.badFrame
  split
  · exact absurd ‹_› h
  all_goals rfl

theorem PortUnit.badFrame_of_cutOff {u : PortUnit} (h : u.state = .cutOff) :
    u.badFrame = { u with recoveryRun := 0 } := by
  simp [PortUnit.badFrame, h]

/-- The state after a rise, by the bands of 01 R6. -/
theorem stateAfterRise_cases (n : Nat) :
    stateAfterRise n = .healthy ∧ n < 96 ∨ stateAfterRise n = .degraded ∧ 96 ≤ n ∧ n < 192 ∨
      stateAfterRise n = .cutOff ∧ 192 ≤ n := by
  unfold stateAfterRise
  split
  · exact .inr (.inr ⟨rfl, ‹_›⟩)
  · split
    · exact .inr (.inl ⟨rfl, ‹_›, by omega⟩)
    · exact .inl ⟨rfl, by omega⟩

theorem PortUnit.sound_badFrame {u : PortUnit} (h : u.sound) : u.badFrame.sound := by
  obtain ⟨hh, hd, hc, hn, hw, hi⟩ := h
  by_cases hcut : u.state = .cutOff
  · rw [PortUnit.badFrame_of_cutOff hcut]
    obtain ⟨hlow, hhigh, -, hempty⟩ := hc hcut
    exact ⟨fun _ => ⟨(hh ‹_›).1, rfl⟩, fun _ => ⟨(hd ‹_›).1, (hd ‹_›).2.1, rfl⟩,
      fun _ => ⟨hlow, hhigh, by simp, hempty⟩, hn, hw, hi⟩
  · have hrun : u.recoveryRun = 0 := by
      cases hs : u.state with
      | healthy => exact (hh hs).2
      | degraded => exact (hd hs).2.2
      | cutOff => exact absurd hs hcut
    rw [PortUnit.badFrame_of_not_cutOff hcut]
    obtain ⟨e, hlt⟩ | ⟨e, hge, hlt⟩ | ⟨e, hge⟩ := stateAfterRise_cases (min 255 (u.errorCount + 8))
    · simp only [e, reduceCtorEq, if_false]
      exact ⟨fun _ => ⟨hlt, hrun⟩, nofun, nofun, hn, hw, hi⟩
    · simp only [e, reduceCtorEq, if_false]
      exact ⟨nofun, fun _ => ⟨hge, hlt, hrun⟩, nofun, hn, hw, hi⟩
    · simp only [e, if_true, PortUnit.cutOffEntry]
      exact ⟨nofun, nofun, fun _ => ⟨hge, min_le_left _ _, by simp, rfl, rfl, rfl⟩, by simp, fun _ => rfl,
        fun _ => ⟨rfl, rfl⟩⟩

/-- A good frame on a port that is not CUT_OFF (01 R5, R6). -/
theorem PortUnit.goodFrame_of_not_cutOff {u : PortUnit} (h : u.state ≠ .cutOff) :
    u.goodFrame =
      { u with
        errorCount := u.errorCount - 1
        state := if u.state = .degraded ∧ u.errorCount - 1 < 96 then .healthy else u.state } := by
  unfold PortUnit.goodFrame
  split
  · exact absurd ‹_› h
  · simp [stateAfterFall, ‹u.state = _›]
  · simp [stateAfterFall, ‹u.state = _›]

/-- A good frame on a CUT_OFF port counts toward its recovery, the sixteenth brings it (01 R8). -/
theorem PortUnit.goodFrame_of_cutOff {u : PortUnit} (h : u.state = .cutOff) :
    u.goodFrame =
      if u.recoveryRun + 1 < 16 then { u with recoveryRun := u.recoveryRun + 1 }
      else { u with state := .healthy, errorCount := 0, recoveryRun := 0, overrun := false } := by
  simp [PortUnit.goodFrame, h]

theorem PortUnit.sound_goodFrame {u : PortUnit} (h : u.sound) : u.goodFrame.sound := by
  obtain ⟨hh, hd, hc, hn, hw, hi⟩ := h
  cases hs : u.state with
  | cutOff =>
    rw [PortUnit.goodFrame_of_cutOff hs]
    obtain ⟨hlow, hhigh, -, hempty⟩ := hc hs
    split
    · exact ⟨fun x => by simp [hs] at x, fun x => by simp [hs] at x, fun _ => ⟨hlow, hhigh, ‹_›, hempty⟩, hn, hw, hi⟩
    · exact ⟨fun _ => ⟨by simp, rfl⟩, nofun, nofun, hn, hw, hi⟩
  | healthy =>
    rw [PortUnit.goodFrame_of_not_cutOff (by simp [hs])]
    obtain ⟨hlt, hrun⟩ := hh hs
    exact ⟨fun _ => ⟨by simp only; omega, hrun⟩, fun x => by simp [hs] at x, fun x => by simp [hs] at x, hn, hw, hi⟩
  | degraded =>
    rw [PortUnit.goodFrame_of_not_cutOff (by simp [hs])]
    obtain ⟨hge, hlt, hrun⟩ := hd hs
    by_cases hlow : u.errorCount - 1 < 96
    · simp only [hs, hlow, and_self, if_true]
      exact ⟨fun _ => ⟨hlow, hrun⟩, nofun, nofun, hn, hw, hi⟩
    · simp only [hlow, and_false, if_false]
      exact ⟨fun x => by simp [hs] at x, fun _ => ⟨by simp only; omega, by simp only; omega, hrun⟩,
        fun x => by simp [hs] at x, hn, hw, hi⟩

/-! ### Sound ports -/

theorem State.portsSound_setPort {s : State} (h : s.portsSound) (p : Port) {u : PortUnit} (hu : u.sound) :
    (s.setPort p u).portsSound := by
  intro q
  rw [State.setPort_port]
  split
  · exact hu
  · exact h q

theorem State.portsSound_post {s : State} (h : s.portsSound) (k : NoticeKind) (n : Nat) (v : Int) :
    (s.post k n v).portsSound := by
  intro p
  cases p
  · exact PortUnit.sound_offerNotice (h .s0) _
  · exact PortUnit.sound_offerNotice (h .s1) _
  · exact PortUnit.sound_offerNotice (h .s2) _

@[simp] theorem State.withMc_ports (s : State) (e : Emit ModeController) : (s.withMc e).ports = s.ports := rfl
@[simp] theorem State.withScanner_ports (s : State) (e : Emit Scanner) : (s.withScanner e).ports = s.ports := rfl
@[simp] theorem State.withMonitor_ports (s : State) (e : Emit Monitor) : (s.withMonitor e).ports = s.ports := rfl
@[simp] theorem State.withPulse_ports (s : State) (e : Emit Pulse) : (s.withPulse e).ports = s.ports := rfl
@[simp] theorem State.withSelector_ports (s : State) (e : Emit Selector) : (s.withSelector e).ports = s.ports := rfl
@[simp] theorem State.withBudget_ports (s : State) (e : Emit Budget) : (s.withBudget e).ports = s.ports := rfl
@[simp] theorem State.withGovernor_ports (s : State) (e : Emit Governor) : (s.withGovernor e).ports = s.ports := rfl
@[simp] theorem State.withSequencer_ports (s : State) (e : Emit Sequencer) : (s.withSequencer e).ports = s.ports := rfl
@[simp] theorem State.withWater_ports (s : State) (e : Emit Water) : (s.withWater e).ports = s.ports := rfl
@[simp] theorem State.withChain_ports (s : State) (e : Emit Chain) : (s.withChain e).ports = s.ports := rfl

@[simp] theorem State.holderChanged_ports (s : State) (d : Domain) : (s.holderChanged d).ports = s.ports := by
  cases d <;> simp only [State.holderChanged, withGovernor_ports, withSequencer_ports, withWater_ports]

/-- Of all offers the notices alone reach the port units. -/
theorem deliver_ports (o : Offer) (s : State) :
    (∃ k n v, o = .post k n v) ∨ (∃ p k n v, o = .postTo p k n v) ∨ (deliver o s).ports = s.ports := by
  cases o
  case post k n v => exact .inl ⟨k, n, v, rfl⟩
  case postTo p k n v => exact .inr (.inl ⟨p, k, n, v, rfl⟩)
  all_goals exact .inr (.inr (by simp [deliver]))

theorem State.portsSound_of_ports {s t : State} (h : s.portsSound) (hp : t.ports = s.ports) : t.portsSound := by
  intro p
  rw [State.port, hp]
  exact h p

theorem deliver_portsSound (o : Offer) {s : State} (h : s.portsSound) : (deliver o s).portsSound := by
  obtain ⟨k, n, v, rfl⟩ | ⟨p, k, n, v, rfl⟩ | hp := deliver_ports o s
  · exact State.portsSound_post h k n v
  · exact State.portsSound_setPort h p (PortUnit.sound_offerNotice (h p) _)
  · exact State.portsSound_of_ports h hp

theorem State.portsSound_settle {s : State} (h : s.portsSound) : s.settle.portsSound :=
  s.settle_keeps (P := State.portsSound) (fun _ _ h => h) (fun o _ h => deliver_portsSound o h) h

/-! ### What a command's stages keep -/

/-- From `s` to `t` the link rate, the waiting commands, the clock and the classes of the ports stay, and sound ports
stay sound. -/
structure Continues (s t : State) : Prop where
  rate : t.rate = s.rate
  pending : t.pending = s.pending
  time : t.mc.time = s.mc.time
  authority : ∀ p, (t.port p).authority = (s.port p).authority
  sound : s.portsSound → t.portsSound

/-- From `s` to `t` moreover no port changes its state. -/
structure Steady (s t : State) : Prop extends Continues s t where
  health : ∀ p, (t.port p).state = (s.port p).state

/-- From `s` to `t` moreover neither a claim nor a configuration record changes. -/
structure Quiet (s t : State) : Prop extends Steady s t where
  claims : t.mc.claims = s.mc.claims
  configuration : t.configuration = s.configuration

theorem Continues.trans {s t u : State} (a : Continues s t) (b : Continues t u) : Continues s u :=
  ⟨b.rate.trans a.rate, b.pending.trans a.pending, b.time.trans a.time,
    fun p => (b.authority p).trans (a.authority p), b.sound ∘ a.sound⟩

theorem Steady.refl (s : State) : Steady s s := ⟨⟨rfl, rfl, rfl, fun _ => rfl, id⟩, fun _ => rfl⟩

theorem Steady.trans {s t u : State} (a : Steady s t) (b : Steady t u) : Steady s u :=
  ⟨a.toContinues.trans b.toContinues, fun p => (b.health p).trans (a.health p)⟩

theorem Quiet.refl (s : State) : Quiet s s := ⟨.refl s, rfl, rfl⟩

theorem Quiet.trans {s t u : State} (a : Quiet s t) (b : Quiet t u) : Quiet s u :=
  ⟨a.toSteady.trans b.toSteady, b.claims.trans a.claims, b.configuration.trans a.configuration⟩

/-- The link records of the ports, in a form for each port. -/
theorem Kept.link {s t : State} (h : Kept s t) (p : Port) : (t.port p).link = (s.port p).link := by
  cases p
  · exact congrArg Standing.s0 h.2
  · exact congrArg Standing.s1 h.2
  · exact congrArg Standing.s2 h.2

/-- What keeps configuration and standing records, and sound ports sound, is quiet. -/
theorem Kept.quiet {s t : State} (h : Kept s t) (sound : s.portsSound → t.portsSound) : Quiet s t where
  rate := congrArg Standing.rate h.2
  pending := congrArg Standing.pending h.2
  time := congrArg Standing.time h.2
  authority p := congrArg LinkRecord.authority (h.link p)
  health p := congrArg LinkRecord.state (h.link p)
  sound := sound
  claims := congrArg Standing.claims h.2
  configuration := h.1

/-- Taking the offers is quiet. -/
theorem Quiet.settle (s : State) : Quiet s s.settle := s.settle_kept.quiet State.portsSound_settle

/-- An answer on a port that is not CUT_OFF is quiet. -/
theorem Quiet.respond {s : State} {p : Port} (h : (s.port p).state ≠ .cutOff) (k tag : Byte) (r : Reply) :
    Quiet s (s.respond p k tag r) :=
  (s.respond_kept p k tag r).quiet fun hs => State.portsSound_setPort hs p (PortUnit.sound_respond (hs p) h _)

/-- A port unit replaced by one of the same class and state, as sound as before, is quiet. -/
theorem Quiet.setPort {s : State} {p : Port} {u : PortUnit} (ha : u.authority = (s.port p).authority)
    (hh : u.state = (s.port p).state) (hs : (s.port p).sound → u.sound) : Quiet s (s.setPort p u) where
  rate := rfl
  pending := rfl
  time := rfl
  authority q := by rw [State.setPort_port]; split <;> simp_all
  health q := by rw [State.setPort_port]; split <;> simp_all
  sound h := State.portsSound_setPort h p (hs (h p))
  claims := rfl
  configuration := rfl

/-! ### One block's event -/

theorem Steady.withMc {s : State} {e : Emit ModeController} (h : e.val.time = s.mc.time) : Steady s (s.withMc e) :=
  ⟨⟨rfl, rfl, h, fun _ => rfl, id⟩, fun _ => rfl⟩

theorem Quiet.setMc {s : State} {c : ModeController} (ht : c.time = s.mc.time) (hc : c.claims = s.mc.claims)
    (hl : c.limits = s.mc.limits) : Quiet s (s.setMc c) :=
  ⟨⟨⟨rfl, rfl, ht, fun _ => rfl, id⟩, fun _ => rfl⟩, hc, by simp [State.configuration, hl]⟩

theorem Quiet.emit (s : State) (os : List Offer) : Quiet s (s.emit os) :=
  (Kept.emit s os).quiet id

theorem Quiet.withMc {s : State} {e : Emit ModeController} (ht : e.val.time = s.mc.time)
    (hc : e.val.claims = s.mc.claims) (hl : e.val.limits = s.mc.limits) : Quiet s (s.withMc e) :=
  (Quiet.setMc ht hc hl).trans (.emit _ _)

theorem Quiet.setScanner {s : State} {c : Scanner} (h : c.record = s.scanner.record) : Quiet s (s.setScanner c) :=
  (Kept.setScanner s c h).quiet id

theorem Quiet.withScanner {s : State} {e : Emit Scanner} (h : e.val.record = s.scanner.record) :
    Quiet s (s.withScanner e) :=
  (Quiet.setScanner h).trans (.emit _ _)

theorem Quiet.withMonitor {s : State} {e : Emit Monitor} (h : e.val.record = s.monitor.record) :
    Quiet s (s.withMonitor e) :=
  ((Kept.setMonitor s e.val h).quiet id).trans (.emit _ _)

theorem Quiet.setPulse {s : State} {u : Pulse} (h : u.record = s.pulse.record) : Quiet s (s.setPulse u) :=
  (Kept.setPulse s u h).quiet id

theorem Quiet.withPulse {s : State} {e : Emit Pulse} (h : e.val.record = s.pulse.record) : Quiet s (s.withPulse e) :=
  (Quiet.setPulse h).trans (.emit _ _)

theorem Quiet.withSelector {s : State} {e : Emit Selector} (h : e.val.record = s.selector.record) :
    Quiet s (s.withSelector e) :=
  ((Kept.setSelector s e.val h).quiet id).trans (.emit _ _)

theorem Quiet.withGovernor {s : State} {e : Emit Governor} (h : e.val.record = s.governor.record) :
    Quiet s (s.withGovernor e) :=
  ((Kept.setGovernor s e.val h).quiet id).trans (.emit _ _)

theorem Quiet.setSequencer {s : State} {q : Sequencer} (h : q.record = s.sequencer.record) :
    Quiet s (s.setSequencer q) :=
  (Kept.setSequencer s q h).quiet id

theorem Quiet.withSequencer {s : State} {e : Emit Sequencer} (h : e.val.record = s.sequencer.record) :
    Quiet s (s.withSequencer e) :=
  (Quiet.setSequencer h).trans (.emit _ _)

theorem Quiet.withWater {s : State} {e : Emit Water} (h : e.val.record = s.water.record) : Quiet s (s.withWater e) :=
  ((Kept.setWater s e.val h).quiet id).trans (.emit _ _)

/-- The chain driver holds no configuration record. -/
theorem Quiet.setChain (s : State) (c : Chain) : Quiet s (s.setChain c) :=
  ⟨⟨⟨rfl, rfl, rfl, fun _ => rfl, id⟩, fun _ => rfl⟩, rfl, rfl⟩

theorem Quiet.withChain (s : State) (e : Emit Chain) : Quiet s (s.withChain e) :=
  (Quiet.setChain s e.val).trans (.emit _ _)

/-- The configuration records of the budget table: coefficients and trim floors. -/
def Budget.configured (b : Budget) : Coefficients × List Nat :=
  (b.coefficients, consumers.map fun c => (b.rows.get c).floor)

theorem Budget.configured_of_record {a b : Budget} (h : a.record = b.record) : a.configured = b.configured := by
  simp only [Budget.record, Prod.mk.injEq] at h
  obtain ⟨hk, -, -, -, -, hf⟩ := h
  exact Prod.ext hk hf

theorem Quiet.withBudget {s : State} {e : Emit Budget} (h : e.val.configured = s.budget.configured) :
    Quiet s (s.withBudget e) := by
  simp only [Budget.configured, Prod.mk.injEq] at h
  refine ⟨⟨⟨rfl, rfl, rfl, fun _ => rfl, id⟩, fun _ => rfl⟩, rfl, ?_⟩
  simp only [State.configuration, State.withBudget, State.emit_mc, State.emit_scanner, State.emit_monitor,
    State.emit_pulse, State.emit_selector, State.emit_budget, State.emit_governor, State.emit_sequencer,
    State.emit_water, State.setBudget, h]

/-- The offers of a quiet event are taken. -/
theorem Quiet.thenSettle {s t : State} (h : Quiet s t) : Quiet s t.settle := h.trans (.settle t)

theorem Steady.thenSettle {s t : State} (h : Steady s t) : Steady s t.settle := h.trans (Quiet.settle t).toSteady

/-- A request on a port that is not CUT_OFF does nothing but the answer, or what its owning block does and the answer. -/
theorem State.answer_cases {s : State} {p : Port} {k : RequestKind} {body : RequestBody} (tag : Byte)
    (hcut : (s.port p).state ≠ .cutOff) (h : Steady s (body s).1) :
    Quiet s (s.answer p k tag body) ∨
      (s.port p).authority ∈ k.classes ∧ Quiet (body s).1 (s.answer p k tag body) := by
  by_cases hclass : (s.port p).authority ∈ k.classes
  · rw [State.answer_of_allowed hclass]
    exact .inr ⟨hclass, .respond (by rwa [h.health p]) _ _ _⟩
  · rw [State.answer_of_not_allowed hclass]
    exact .inl (.respond hcut _ _ _)

end Sys2Proof.Machine
end

section
/-! SUPPORT. What the block events of commands leave unchanged in the blocks' configuration records; the events that
answer offers are in Laws/Blocks.lean. -/

namespace Sys2Proof.Machine

/-! ### Mode controller -/

theorem ModeController.record_enterMode (c : ModeController) (m : Mode) (x : Cause) :
    (c.enterMode m x).val.record = c.record := rfl

/-- The claims apart, what a change of claims leaves of the mode controller: clock and limits. -/
def ModeController.clockAndLimits (c : ModeController) : Time × Limits := (c.time, c.limits)

theorem ModeController.clockAndLimits_claim (c : ModeController) (f : Port → AuthorityClass) (p : Port) (n : Nat) :
    (c.claim f p n).1.val.clockAndLimits = c.clockAndLimits := by
  unfold ModeController.claim
  split
  · rfl
  · split
    · rfl
    · split
      · rfl
      · split
        · rfl
        · split <;> rfl

theorem ModeController.clockAndLimits_release (c : ModeController) (p : Port) (n : Nat) :
    (c.release p n).1.val.clockAndLimits = c.clockAndLimits := by
  unfold ModeController.release
  split
  · rfl
  · split <;> rfl

theorem ModeController.clockAndLimits_withdraw (c : ModeController) (d : Domain) :
    (c.withdraw d).val.clockAndLimits = c.clockAndLimits := by
  unfold ModeController.withdraw
  split <;> rfl

theorem ModeController.clockAndLimits_withdrawAll (c : ModeController) :
    c.withdrawAll.val.clockAndLimits = c.clockAndLimits := by
  simp [ModeController.withdrawAll, ModeController.clockAndLimits_withdraw]

theorem ModeController.clockAndLimits_withdrawFrom (c : ModeController) (p : Port) (d : Domain) :
    (c.withdrawFrom p d).val.clockAndLimits = c.clockAndLimits := by
  unfold ModeController.withdrawFrom
  split <;> rfl

theorem ModeController.clockAndLimits_withdrawPort (c : ModeController) (p : Port) :
    (c.withdrawPort p).val.clockAndLimits = c.clockAndLimits := by
  simp [ModeController.withdrawPort, ModeController.clockAndLimits_withdrawFrom]

/-- What the claims of a port become when they are withdrawn at its CUT_OFF (02 R42). -/
theorem ModeController.get_withdrawPort (c : ModeController) (p : Port) (d : Domain) :
    (c.withdrawPort p).val.claims.get d =
      if (c.claims.get d).holder = some p then ⟨none, 0⟩ else c.claims.get d := by
  have from_ : ∀ (x : ModeController) (e : Domain), (x.withdrawFrom p e).val.claims.get d =
      if d = e ∧ (x.claims.get e).holder = some p then ⟨none, 0⟩ else x.claims.get d := by
    intro x e
    by_cases h : (x.claims.get e).holder = some p
    · simp [ModeController.withdrawFrom, ModeController.holds, h, ModeController.free, Claims.get_set]
    · simp [ModeController.withdrawFrom, ModeController.holds, h]
  cases d <;> simp [ModeController.withdrawPort, from_]

/-- At RESTART no claim stays (02 R39 step 1). -/
theorem ModeController.holder_withdrawAll (c : ModeController) (d : Domain) :
    (c.withdrawAll.val.claims.get d).holder = none := by
  have one : ∀ (x : ModeController) (e : Domain), ((x.withdraw e).val.claims.get d).holder =
      if d = e then none else (x.claims.get d).holder := by
    intro x e
    cases h : (x.claims.get e).holder with
    | none => simp only [ModeController.withdraw, h, Emit.pure_val]; split <;> simp_all
    | some q => simp only [ModeController.withdraw, h, ModeController.free, Claims.get_set]; split <;> rfl
  cases d <;> simp [ModeController.withdrawAll, one]

theorem ModeController.estopActive_kept (c : ModeController) :
    c.estopActive.val.time = c.time ∧ c.estopActive.val.claims = c.claims ∧ c.estopActive.val.limits = c.limits := by
  unfold ModeController.estopActive
  dsimp only
  split <;> exact ⟨rfl, rfl, rfl⟩

theorem ModeController.estopInactive_kept (c : ModeController) :
    c.estopInactive.time = c.time ∧ c.estopInactive.claims = c.claims ∧ c.estopInactive.limits = c.limits := by
  unfold ModeController.estopInactive
  split <;> exact ⟨rfl, rfl, rfl⟩

theorem ModeController.estopReleased_kept (c : ModeController) :
    c.estopReleased.time = c.time ∧ c.estopReleased.claims = c.claims ∧ c.estopReleased.limits = c.limits := by
  unfold ModeController.estopReleased
  split <;> exact ⟨rfl, rfl, rfl⟩

theorem ModeController.lock_kept (c : ModeController) (hard : Bool) :
    (c.lock hard).time = c.time ∧ (c.lock hard).claims = c.claims ∧ (c.lock hard).limits = c.limits := by
  unfold ModeController.lock
  split <;> exact ⟨rfl, rfl, rfl⟩

theorem ModeController.unlock_kept (c : ModeController) :
    c.unlock.1.time = c.time ∧ c.unlock.1.claims = c.claims ∧ c.unlock.1.limits = c.limits := by
  unfold ModeController.unlock
  split
  · exact ⟨rfl, rfl, rfl⟩
  · split <;> exact ⟨rfl, rfl, rfl⟩

/-- A WRITE of LIMITS changes neither clock nor claims. -/
theorem ModeController.writeLimits_kept (c : ModeController) (b : Bool) (l : Limits) :
    (c.writeLimits b l).1.val.time = c.time ∧ (c.writeLimits b l).1.val.claims = c.claims := by
  unfold ModeController.writeLimits
  split
  · exact ⟨rfl, rfl⟩
  · split <;> exact ⟨rfl, rfl⟩

/-! ### Scanner -/

theorem Scanner.record_passEnds (c : Scanner) (now : Time) : (c.passEnds now).val.record = c.record := by
  unfold Scanner.passEnds
  dsimp only
  split <;> rfl

theorem Scanner.record_periodExpiry (c : Scanner) (now : Time) : (c.periodExpiry now).record = c.record := by
  unfold Scanner.periodExpiry
  split
  · rfl
  · split
    · dsimp only; split <;> rfl
    · rfl

theorem Scanner.record_endHold (c : Scanner) (now : Time) : (c.endHold now).val.record = c.record := by
  unfold Scanner.endHold
  dsimp only
  split <;> rfl

theorem Scanner.record_leaseExpiry (c : Scanner) (now : Time) : (c.leaseExpiry now).val.record = c.record := by
  unfold Scanner.leaseExpiry
  split
  · rfl
  · split
    · exact c.record_endHold now
    · rfl

theorem Scanner.record_staleExpiry (c : Scanner) (now : Time) : (c.staleExpiry now).val.record = c.record := by
  unfold Scanner.staleExpiry
  split <;> rfl

theorem Scanner.record_holdSet (c : Scanner) (now : Time) (p : Port) (n : Nat) :
    (c.holdSet now p n).1.val.record = c.record := by
  unfold Scanner.holdSet
  split
  · rfl
  · dsimp only
    split
    · rfl
    · split <;> rfl

theorem Scanner.record_releaseSet (c : Scanner) (now : Time) (p : Port) :
    (c.releaseSet now p).1.val.record = c.record := by
  unfold Scanner.releaseSet
  split
  · rfl
  · split
    · exact c.record_endHold now
    · rfl

/-! ### Window monitor -/

theorem get_setAt {α : Type} {n : Nat} (v : Vector α n) (i j : Fin n) (x : α) :
    (setAt v i x).get j = if j = i then x else v.get j := by
  simp [setAt, Vector.get_eq_getElem, Vector.getElem_set, Fin.ext_iff, eq_comm]

theorem Monitor.record_congr {m n : Monitor} (hw : m.windows = n.windows)
    (ha : ∀ c, (m.assignments.get c).window = (n.assignments.get c).window ∧
      (m.assignments.get c).sense = (n.assignments.get c).sense) : m.record = n.record := by
  simp [Monitor.record, hw, ha]

theorem Monitor.record_rederive (m : Monitor) : m.rederive.val.record = m.record := rfl

theorem Monitor.record_evaluate (m : Monitor) (now : Time) (ch : Fin 16) (raw : Nat) :
    (m.evaluate now ch raw).val.record = m.record := by
  unfold Monitor.evaluate
  dsimp only
  split
  · rfl
  · split
    · refine (Monitor.record_rederive _).trans (Monitor.record_congr rfl fun c => ?_)
      simp only [get_setAt]
      split
      · subst_vars; exact ⟨rfl, rfl⟩
      · exact ⟨rfl, rfl⟩
    · rfl

theorem Monitor.record_clearLatch (m : Monitor) (x : Mask) : (m.clearLatch x).1.val.record = m.record := by
  unfold Monitor.clearLatch
  split
  · rfl
  · refine (Monitor.record_rederive _).trans (Monitor.record_congr rfl fun c => ?_)
    simp only [Monitor.get_clearLatches]
    split <;> exact ⟨rfl, rfl⟩

/-! ### Pulse unit -/

theorem Pulse.record_motorEdge (u : Pulse) (b : Bool) : (u.motorEdge b).record = u.record := by
  unfold Pulse.motorEdge
  split <;> rfl

theorem Pulse.record_groundEdge (u : Pulse) (now : Time) : (u.groundEdge now).val.record = u.record := by
  unfold Pulse.groundEdge
  dsimp only
  split
  · rfl
  · split <;> rfl

theorem Pulse.record_testLoss (u : Pulse) (now : Time) : (u.testLoss now).val.record = u.record := by
  unfold Pulse.testLoss
  split <;> rfl

theorem Pulse.record_lossExpiry (u : Pulse) (now : Time) : (u.lossExpiry now).val.record = u.record := by
  unfold Pulse.lossExpiry
  split
  · rw [Pulse.record_testLoss]; rfl
  · rfl

theorem Pulse.record_takeSpeeds (u : Pulse) : u.takeSpeeds.record = u.record := by
  cases u
  simp only [Pulse.takeSpeeds, Pulse.record]

theorem Pulse.record_takePath (u : Pulse) : u.takePath.val.record = u.record := by
  simp only [Pulse.takePath, Pulse.record]

theorem Pulse.record_takeSlip (u : Pulse) : u.takeSlip.record = u.record := by
  simp only [Pulse.takeSlip, Pulse.record]

theorem Pulse.record_closeWindow (u : Pulse) (next : Time) : (u.closeWindow next).val.record = u.record := by
  simp only [Pulse.closeWindow, Pulse.record]

theorem Pulse.record_windowEnd (u : Pulse) (now : Time) : (u.windowEnd now).val.record = u.record := by
  unfold Pulse.windowEnd
  split
  · simp only [Emit.andThen_val, Pulse.record_closeWindow, Pulse.record_takeSlip, Pulse.record_testLoss,
      Pulse.record_takePath, Pulse.record_takeSpeeds]
  · rfl

/-! ### Profile selector -/

theorem Selector.record_pin (x : Selector) (m : Mode) (b : Bool) (n : Nat) :
    (x.pin m b n).1.val.record = x.record := by
  unfold Selector.pin
  split
  · rfl
  · split
    · rfl
    · split
      · rfl
      · split <;> rfl

theorem Selector.record_unpin (x : Selector) (m : Mode) (b : Bool) : (x.unpin m b).1.val.record = x.record := by
  unfold Selector.unpin
  split
  · rfl
  · split
    · rfl
    · split <;> rfl

theorem Selector.record_zoneAhead (x : Selector) (m : Mode) (z : ZoneCode) (n : Nat) :
    (x.zoneAhead m z n).1.val.record = x.record := by
  unfold Selector.zoneAhead
  dsimp only
  split
  · rfl
  · split
    · rfl
    · split
      · rfl
      · split
        · exact x.record_applyChange _ _
        · split <;> rfl

/-! ### Budget table -/

theorem Budget.configured_rederive (b : Budget) (now : Time) : (b.rederive now).val.configured = b.configured :=
  Budget.configured_of_record (b.record_rederive now)

theorem Budget.configured_report (b : Budget) (now : Time) (p : Port) (n : Nat) :
    (b.report now p n).val.configured = b.configured :=
  Budget.configured_rederive _ now

theorem Budget.configured_leaseEnds (b : Budget) (now : Time) : (b.leaseEnds now).val.configured = b.configured := by
  unfold Budget.leaseEnds
  split
  · exact Budget.configured_rederive _ now
  · rfl

theorem Budget.configured_holdEnds (b : Budget) (now : Time) (c : Consumer) :
    (b.holdEnds now c).val.configured = b.configured := by
  unfold Budget.holdEnds
  dsimp only
  split
  · refine (Budget.configured_of_record (Budget.record_recompute _ now)).trans ?_
    cases c <;> rfl
  · rfl

/-! ### Travel governor -/

theorem Governor.record_travel (g : Governor) (now : Time) (r : Int) : (g.travel now r).val.record = g.record := by
  unfold Governor.travel
  dsimp only
  split
  · rfl
  · exact Governor.record_newRequest _ now r

theorem Governor.record_leaseEnds (g : Governor) (now : Time) (h : Option Port) :
    (g.leaseEnds now h).val.record = g.record := by
  unfold Governor.leaseEnds
  split
  · exact Governor.record_newRequest _ now 0
  · rfl

theorem Governor.record_liftWaitExpiry (g : Governor) (now : Time) : (g.liftWaitExpiry now).val.record = g.record := by
  unfold Governor.liftWaitExpiry
  split
  · split
    · rw [Emit.andThen_val, Governor.record_rederive]; rfl
    · rfl
  all_goals rfl

theorem Governor.record_moveCommand (g : Governor) : g.moveCommand.record = g.record := by
  unfold Governor.moveCommand
  dsimp only
  split
  · rfl
  · split <;> rfl

theorem Governor.record_atRest (g : Governor) (now : Time) : (g.atRest now).record = g.record := by
  unfold Governor.atRest
  split
  · split
    · rfl
    · rw [Governor.record_beginTest, Governor.record_startLiftWait]
    all_goals rfl
  · rfl

theorem Governor.record_clearLift (g : Governor) : g.clearLift.val.record = g.record := by
  unfold Governor.clearLift
  split <;> rfl

theorem Governor.record_rampStep (g : Governor) (now : Time) : (g.rampStep now).val.record = g.record := by
  unfold Governor.rampStep
  split
  · rfl
  · split
    · simp only [Emit.andThen_val, Governor.record_rederive, Governor.record_clearLift, Governor.record_atRest]
      exact Governor.record_moveCommand _
    · rfl

/-! ### Implement sequencer -/

/-- An arm replaced by one with the same settings changes no setting. -/
theorem Sequencer.record_setArm (q : Sequencer) (x : Side) (a : ArmRecord) (h : a.settings = (q.arm x).settings) :
    (q.setArm x a).record = q.record := by
  cases x <;> simp_all [Sequencer.record, Sequencer.setArm, Sequencer.arm]

theorem Sequencer.record_armCommand (q : Sequencer) (t : Moment) (x : Side) (c : ArmCommand) :
    (q.armCommand t x c).val.record = q.record :=
  (Sequencer.record_event _ _ _).trans (q.record_setArm x _ rfl)

theorem Sequencer.record_broomCommand (q : Sequencer) (t : Moment) (c : BroomCommand) :
    (q.broomCommand t c).val.record = q.record :=
  Sequencer.record_event _ _ _

theorem Sequencer.record_armEvent (q : Sequencer) (x : Side) (e : Emit ArmRecord)
    (h : e.val.settings = (q.arm x).settings) : (q.armEvent x e).val.record = q.record :=
  (Sequencer.record_finish q _ false).trans (q.record_setArm x _ h)

theorem ArmRecord.settings_failAttempt (a : ArmRecord) (x : Side) (t : Moment) (f : ArmRecord → ArmRecord)
    (h : ∀ b, (f b).settings = b.settings) : (a.failAttempt x t f).val.settings = a.settings := by
  unfold ArmRecord.failAttempt
  dsimp only
  split
  · simp only [Emit.andThen_val, Emit.pure_val, h, ArmRecord.settings_closeMotion]
  · exact ArmRecord.settings_toFault _ _ _ _ _

theorem Sequencer.record_swingExpiry (q : Sequencer) (t : Moment) (x : Side) :
    (q.swingExpiry t x).val.record = q.record := by
  unfold Sequencer.swingExpiry
  split
  · split
    · exact q.record_armEvent x _ (ArmRecord.settings_failAttempt _ _ _ _ fun _ => rfl)
    · exact q.record_armEvent x _ (ArmRecord.settings_failAttempt _ _ _ _ fun _ => rfl)
    all_goals rfl
  · rfl

theorem Sequencer.record_retryExpiry (q : Sequencer) (t : Moment) (x : Side) :
    (q.retryExpiry t x).val.record = q.record := by
  unfold Sequencer.retryExpiry
  split
  · refine q.record_armEvent x _ ?_
    simp only [Emit.pure_val]
    split <;> rfl
  · rfl

theorem Sequencer.record_lowerExpiry (q : Sequencer) (t : Moment) (x : Side) :
    (q.lowerExpiry t x).val.record = q.record := by
  unfold Sequencer.lowerExpiry
  split
  · exact q.record_armEvent x _ rfl
  · rfl

theorem Sequencer.record_yieldExpiry (q : Sequencer) (t : Moment) (x : Side) :
    (q.yieldExpiry t x).val.record = q.record := by
  unfold Sequencer.yieldExpiry
  split
  · exact q.record_armEvent x _ (ArmRecord.settings_failAttempt _ _ _ _ fun _ => rfl)
  · rfl

theorem Sequencer.record_liftExpiry (q : Sequencer) (t : Moment) (x : Side) :
    (q.liftExpiry t x).val.record = q.record := by
  unfold Sequencer.liftExpiry
  split
  · refine q.record_armEvent x _ ?_
    simp only [Emit.pure_val]
    split
    · rfl
    · split
      · rfl
      · exact ArmRecord.settings_advance _ _ _
  · rfl

theorem Sequencer.record_mainLowerExpiry (q : Sequencer) (t : Moment) : (q.mainLowerExpiry t).val.record = q.record := by
  unfold Sequencer.mainLowerExpiry
  split
  · exact Sequencer.record_finish _ _ _
  · rfl

theorem Sequencer.record_mainLiftExpiry (q : Sequencer) (t : Moment) : (q.mainLiftExpiry t).val.record = q.record := by
  unfold Sequencer.mainLiftExpiry
  split
  · rw [Sequencer.record_finish]
    simp only [Sequencer.record, MainRecord.settings_advance]; rfl
  · rfl

theorem ArmRecord.settings_regulated (a : ArmRecord) (n : Nat) (b : Bool) : (a.regulated n b).settings = a.settings := by
  unfold ArmRecord.regulated
  split
  · split <;> rfl
  · rfl

theorem Sequencer.record_regulationStep (q : Sequencer) (now : Time) : (q.regulationStep now).record = q.record := by
  unfold Sequencer.regulationStep
  split
  · rfl
  · split
    · simp only [Sequencer.record, ArmRecord.settings_regulated]
    · rfl

theorem Sequencer.record_output (q : Sequencer) (x : OutputTarget) (v : Int) : (q.output x v).val.record = q.record := by
  unfold Sequencer.output
  rw [Sequencer.record_finish]
  split
  all_goals first | rfl | exact q.record_setArm _ _ rfl

/-! ### Water controller -/

theorem Water.record_request (w : Water) (now : Time) (b : Bool) (x : GroupSet) :
    (w.request now b x).val.record = w.record :=
  Water.record_reevaluate _ _ _

theorem Water.record_drive (w : Water) : w.drive.record = w.record := rfl

theorem Water.record_primeExpiry (w : Water) (now : Time) : (w.primeExpiry now).val.record = w.record := by
  unfold Water.primeExpiry
  split
  · simp only [Water.finish, Water.record_drive]
    split <;> rfl
  · rfl

end Sys2Proof.Machine
end

section
/-! SUPPORT. What the owning block's part of each request leaves of the standing records (01 R12, 02 R24). -/

namespace Sys2Proof.Machine

/-! ### The requests that touch neither claims nor configuration -/

theorem travelBody_quiet (p : Port) (v : Int) (s : State) : Quiet s (travelBody p v s).1 := by
  unfold travelBody
  split
  · exact .refl s
  · split
    · exact .refl s
    · split
      · exact .refl s
      · exact (Quiet.withGovernor (s.governor.record_travel _ _)).thenSettle

theorem State.enterMode_quiet (s : State) (m : Mode) (x : Cause) : Quiet s (s.withMc (s.mc.enterMode m x)) :=
  .withMc rfl rfl rfl

theorem State.changeMode_quiet (s : State) (m : Mode) : Quiet s (s.changeMode m) :=
  (s.enterMode_quiet m .mode).thenSettle

theorem ModeController.stowTest_kept (c : ModeController) :
    c.stowTest.val.time = c.time ∧ c.stowTest.val.claims = c.claims ∧ c.stowTest.val.limits = c.limits := by
  unfold ModeController.stowTest
  split <;> exact ⟨rfl, rfl, rfl⟩

theorem modeHaltBody_quiet (p : Port) (s : State) : Quiet s (modeHaltBody p s).1 := by
  unfold modeHaltBody
  split
  · exact .refl s
  · split
    · exact .refl s
    · exact s.changeMode_quiet .halted

theorem modeTransportBody_quiet (p : Port) (s : State) : Quiet s (modeTransportBody p s).1 := by
  unfold modeTransportBody
  split
  · exact .refl s
  · split
    all_goals try exact .refl s
    split
    · obtain ⟨ht, hc, hl⟩ := (s.changeMode .stowing).mc.stowTest_kept
      exact (s.changeMode_quiet .stowing).trans (Quiet.withMc ht hc hl).thenSettle
    · exact .refl s

theorem modeSweepBody_quiet (p : Port) (s : State) : Quiet s (modeSweepBody p s).1 := by
  unfold modeSweepBody
  split
  · exact .refl s
  · split
    all_goals try exact .refl s
    all_goals
      split
      · exact .refl s
      · split
        · exact .refl s
        · exact s.changeMode_quiet .sweep

theorem modeServiceBody_quiet (p : Port) (s : State) : Quiet s (modeServiceBody p s).1 := by
  unfold modeServiceBody
  split
  · exact .refl s
  · split
    all_goals try exact .refl s
    all_goals
      split
      · exact s.changeMode_quiet .service
      · exact .refl s

theorem modeBody_quiet (p : Port) (n : Nat) (s : State) : Quiet s (modeBody p n s).1 := by
  unfold modeBody
  split
  · exact modeHaltBody_quiet p s
  · exact modeTransportBody_quiet p s
  · exact modeSweepBody_quiet p s
  · exact modeServiceBody_quiet p s
  · exact .refl s

theorem State.started_quiet (s : State) : Quiet s s.started :=
  (Quiet.withMc (e := s.mc.enterStart) rfl rfl rfl).thenSettle.trans (Quiet.setChain _ _).thenSettle

theorem startBody_quiet (s : State) : Quiet s (startBody s).1 := by
  unfold startBody
  split
  all_goals try exact .refl s
  all_goals
    split
    · exact .refl s
    · exact s.started_quiet

theorem pinBody_quiet (p : Port) (n : Nat) (s : State) : Quiet s (pinBody p n s).1 :=
  (Quiet.withSelector (s.selector.record_pin _ _ _)).thenSettle

theorem unpinBody_quiet (p : Port) (s : State) : Quiet s (unpinBody p s).1 :=
  (Quiet.withSelector (s.selector.record_unpin _ _)).thenSettle

theorem zoneAheadBody_quiet (z : ZoneCode) (n : Nat) (s : State) : Quiet s (zoneAheadBody z n s).1 :=
  (Quiet.withSelector (s.selector.record_zoneAhead _ _ _)).thenSettle

theorem reserveBody_quiet (p : Port) (n : Nat) (s : State) : Quiet s (reserveBody p n s).1 := by
  unfold reserveBody
  split
  · exact .refl s
  · exact (Quiet.withBudget (s.budget.configured_report _ _ _)).thenSettle

theorem armBody_quiet (p : Port) (x c : Nat) (s : State) : Quiet s (armBody p x c s).1 := by
  unfold armBody
  split
  · split
    · exact (Quiet.withSequencer (s.sequencer.record_armCommand _ _ _)).thenSettle
    · exact .refl s
  · exact .refl s

theorem broomBody_quiet (p : Port) (c : Nat) (s : State) : Quiet s (broomBody p c s).1 := by
  unfold broomBody
  split
  · split
    · exact (Quiet.withSequencer (s.sequencer.record_broomCommand _ _)).thenSettle
    · exact .refl s
  · exact .refl s

theorem waterBody_quiet (p : Port) (e x : Nat) (s : State) : Quiet s (waterBody p e x s).1 := by
  unfold waterBody
  split
  · exact .refl s
  · split
    · exact .refl s
    · exact (Quiet.withWater (s.water.record_request _ _ _)).thenSettle

theorem holdSetBody_quiet (p : Port) (n : Nat) (s : State) : Quiet s (holdSetBody p n s).1 :=
  (Quiet.withScanner (s.scanner.record_holdSet _ _ _)).thenSettle

theorem releaseSetBody_quiet (p : Port) (s : State) : Quiet s (releaseSetBody p s).1 :=
  (Quiet.withScanner (s.scanner.record_releaseSet _ _)).thenSettle

theorem clearLatchBody_quiet (x : Mask) (s : State) : Quiet s (clearLatchBody x s).1 :=
  (Quiet.withMonitor (s.monitor.record_clearLatch _)).thenSettle

theorem clearFailedBody_quiet (x : Mask) (s : State) : Quiet s (clearFailedBody x s).1 :=
  (Quiet.withChain s _).thenSettle

theorem State.setOutput_quiet (s : State) (x : OutputTarget) (v : Int) : Quiet s (s.setOutput x v) := by
  unfold State.setOutput
  split
  · exact (Quiet.withWater rfl).thenSettle
  all_goals exact (Quiet.withSequencer (s.sequencer.record_output _ _)).thenSettle

theorem outputBody_quiet (n : Nat) (v : Int) (s : State) : Quiet s (outputBody n v s).1 := by
  unfold outputBody
  split
  · exact .refl s
  · split
    · exact .refl s
    · split
      · exact .refl s
      · split
        · exact .refl s
        · split
          · exact .refl s
          · exact s.setOutput_quiet _ v

theorem readBody_quiet (t f c : Nat) (s : State) : Quiet s (readBody t f c s).1 := .refl s

theorem subscribeBody_quiet (p : Port) (c : Byte) (s : State) : Quiet s (subscribeBody p c s).1 := by
  unfold subscribeBody
  split
  · exact .refl s
  · exact .setPort rfl rfl id

theorem lockKindBody_quiet (b : Bool) (s : State) : Quiet s (lockKindBody b s).1 := by
  obtain ⟨ht, hc, hl⟩ := s.mc.lock_kept b
  exact .setMc ht hc hl

theorem lockBody_quiet (n : Nat) (s : State) : Quiet s (lockBody n s).1 := by
  unfold lockBody
  split
  · exact lockKindBody_quiet _ s
  · exact lockKindBody_quiet _ s
  · exact .refl s

theorem unlockBody_quiet (s : State) : Quiet s (unlockBody s).1 := by
  obtain ⟨ht, hc, hl⟩ := s.mc.unlock_kept
  exact .setMc ht hc hl

/-! ### CLAIM, RELEASE and RESTART -/

/-- An event of the mode controller that keeps the clock and the limits is steady and changes no configuration. -/
theorem State.withMc_steady {s : State} {e : Emit ModeController}
    (h : e.val.clockAndLimits = s.mc.clockAndLimits) :
    Steady s (s.withMc e) ∧ (s.withMc e).configuration = s.configuration := by
  simp only [ModeController.clockAndLimits, Prod.mk.injEq] at h
  obtain ⟨ht, hl⟩ := h
  exact ⟨.withMc ht, by simp [State.configuration, State.withMc, hl]⟩

theorem claimBody_steady (p : Port) (n : Nat) (s : State) :
    Steady s (claimBody p n s).1 ∧ (claimBody p n s).1.configuration = s.configuration := by
  obtain ⟨hs, hc⟩ := State.withMc_steady (s.mc.clockAndLimits_claim s.classOf p n)
  exact ⟨hs.thenSettle, (Quiet.settle _).configuration.trans hc⟩

theorem releaseBody_steady (p : Port) (n : Nat) (s : State) :
    Steady s (releaseBody p n s).1 ∧ (releaseBody p n s).1.configuration = s.configuration := by
  obtain ⟨hs, hc⟩ := State.withMc_steady (s.mc.clockAndLimits_release p n)
  exact ⟨hs.thenSettle, (Quiet.settle _).configuration.trans hc⟩

/-- After the withdrawal of the claims the rest of RESTART is quiet. -/
theorem State.restarted_quiet (s : State) : Quiet (s.withMc s.mc.withdrawAll) s.restarted :=
  (Quiet.settle _).trans ((State.enterMode_quiet _ .halted .restart).thenSettle.trans (Quiet.emit _ _).thenSettle)

theorem restartBody_steady (s : State) :
    Steady s (restartBody s).1 ∧ (restartBody s).1.configuration = s.configuration := by
  obtain ⟨hs, hc⟩ := State.withMc_steady (s.mc.clockAndLimits_withdrawAll)
  exact ⟨hs.trans s.restarted_quiet.toSteady, s.restarted_quiet.configuration.trans hc⟩

/-! ### WRITE -/

/-- A WRITE's event of a block, its offers taken: ports, clock and claims stay. -/
def State.Unclaimed (s t : State) : Prop := Steady s t ∧ t.mc.claims = s.mc.claims

theorem State.Unclaimed.refl (s : State) : s.Unclaimed s := ⟨.refl s, rfl⟩

theorem State.Unclaimed.took {s t : State} (h : s.Unclaimed t) (r : Reply) : s.Unclaimed (t.took r).1 :=
  ⟨h.1.thenSettle, (Quiet.settle t).claims.trans h.2⟩

theorem State.unclaimed_withScanner (s : State) (e : Emit Scanner) : s.Unclaimed (s.withScanner e) :=
  ⟨⟨⟨rfl, rfl, rfl, fun _ => rfl, id⟩, fun _ => rfl⟩, rfl⟩

theorem State.unclaimed_withMonitor (s : State) (e : Emit Monitor) : s.Unclaimed (s.withMonitor e) :=
  ⟨⟨⟨rfl, rfl, rfl, fun _ => rfl, id⟩, fun _ => rfl⟩, rfl⟩

theorem State.unclaimed_withPulse (s : State) (e : Emit Pulse) : s.Unclaimed (s.withPulse e) :=
  ⟨⟨⟨rfl, rfl, rfl, fun _ => rfl, id⟩, fun _ => rfl⟩, rfl⟩

theorem State.unclaimed_withSelector (s : State) (e : Emit Selector) : s.Unclaimed (s.withSelector e) :=
  ⟨⟨⟨rfl, rfl, rfl, fun _ => rfl, id⟩, fun _ => rfl⟩, rfl⟩

theorem State.unclaimed_withBudget (s : State) (e : Emit Budget) : s.Unclaimed (s.withBudget e) :=
  ⟨⟨⟨rfl, rfl, rfl, fun _ => rfl, id⟩, fun _ => rfl⟩, rfl⟩

theorem State.unclaimed_withGovernor (s : State) (e : Emit Governor) : s.Unclaimed (s.withGovernor e) :=
  ⟨⟨⟨rfl, rfl, rfl, fun _ => rfl, id⟩, fun _ => rfl⟩, rfl⟩

theorem State.unclaimed_withSequencer (s : State) (e : Emit Sequencer) : s.Unclaimed (s.withSequencer e) :=
  ⟨⟨⟨rfl, rfl, rfl, fun _ => rfl, id⟩, fun _ => rfl⟩, rfl⟩

theorem State.unclaimed_withWater (s : State) (e : Emit Water) : s.Unclaimed (s.withWater e) :=
  ⟨⟨⟨rfl, rfl, rfl, fun _ => rfl, id⟩, fun _ => rfl⟩, rfl⟩

/-- A WRITE changes configuration records; claims, clock and ports stay. -/
theorem State.applyWrite_unclaimed (s : State) (i : Nat) (w : RecordWrite) : s.Unclaimed (s.applyWrite i w).1 := by
  cases w with
  | limits x =>
    obtain ⟨ht, hc⟩ := s.mc.writeLimits_kept (s.selector.capsAbove x.fwdCap) x
    exact State.Unclaimed.took ⟨.withMc ht, hc⟩ _
  | roleMap x =>
    unfold State.applyWrite; dsimp only; split
    · exact .refl s
    · exact (s.unclaimed_withScanner _).took _
  | scanList x => exact (s.unclaimed_withScanner _).took _
  | scanControl x => exact (s.unclaimed_withScanner _).took _
  | windows x =>
    unfold State.applyWrite; dsimp only; split
    · exact .refl s
    · exact (s.unclaimed_withMonitor _).took _
  | assignments x =>
    unfold State.applyWrite; dsimp only; split
    · exact .refl s
    · exact (s.unclaimed_withMonitor _).took _
  | pulse x => exact (s.unclaimed_withPulse _).took _
  | profiles x =>
    unfold State.applyWrite; dsimp only; split
    · exact .refl s
    · exact (s.unclaimed_withSelector _).took _
  | zones x =>
    unfold State.applyWrite; dsimp only; split
    · exact .refl s
    · exact (s.unclaimed_withSelector _).took _
  | zoneMask x => exact (s.unclaimed_withSelector _).took _
  | budget x =>
    unfold State.applyWrite; dsimp only; split
    · exact .refl s
    · exact (s.unclaimed_withBudget _).took _
  | coefficients x => exact (s.unclaimed_withBudget _).took _
  | travel x => exact (s.unclaimed_withGovernor _).took _
  | driveMap x => exact (s.unclaimed_withGovernor _).took _
  | implements x => exact (s.unclaimed_withSequencer _).took _
  | water x => exact (s.unclaimed_withWater _).took _
  | association x =>
    unfold State.applyWrite; dsimp only; split
    · exact .refl s
    · exact (s.unclaimed_withWater _).took _

theorem writeBody_unclaimed (p : Port) (t : Table) (i : Nat) (r : List Byte) (s : State) :
    s.Unclaimed (writeBody p t i r s).1 := by
  unfold writeBody State.writeTable
  split
  · exact .refl s
  · split
    · exact .refl s
    · split
      · exact .refl s
      · split
        · exact s.applyWrite_unclaimed i _
        · exact .refl s

theorem writePayloadBody_unclaimed (p : Port) (x : List Byte) (s : State) :
    s.Unclaimed (writePayloadBody p x s).1 := by
  unfold writePayloadBody State.writePayload
  split
  · split
    · exact .refl s
    · exact writeBody_unclaimed p _ _ _ s
  · exact .refl s

/-! ### Every request -/

/-- Claims stay sound where port states and classes stay, and a new holder is one that may hold the domain. -/
theorem State.claimsSound_of_steady {s t : State} (h : s.claimsSound) (hs : Steady s t)
    (hc : ∀ d q, (t.mc.claims.get d).holder = some q →
      (s.mc.claims.get d).holder = some q ∨
        (s.port q).state ≠ .cutOff ∧
          ((s.port q).authority = .operator ∨ (s.port q).authority = .route ∧ d ≠ .travel)) : t.claimsSound := by
  intro d q hq
  rw [hs.health q, hs.authority q]
  exact (hc d q hq).elim (h d q) id

theorem Quiet.claimsSound {s t : State} (h : Quiet s t) (hs : s.claimsSound) : t.claimsSound :=
  State.claimsSound_of_steady hs h.toSteady fun d q hq => .inl (by rwa [h.claims] at hq)

/-- From `s` to `t` nothing is done that the part of a request's owning block may not do, by its kind: claims change with
CLAIM, RELEASE and RESTART alone and stay sound, configuration records with a WRITE alone. -/
structure RequestKind.Within (k : RequestKind) (p : Port) (s t : State) : Prop extends Steady s t where
  claims : k ≠ .claim → k ≠ .release → k ≠ .restart → t.mc.claims = s.mc.claims
  configuration : k ≠ .write → t.configuration = s.configuration
  claimsSound : (s.port p).state ≠ .cutOff → (s.port p).authority ∈ k.classes → s.claimsSound → t.claimsSound

theorem Quiet.within {s t : State} (h : Quiet s t) (k : RequestKind) (p : Port) : k.Within p s t :=
  ⟨h.toSteady, fun _ _ _ => h.claims, fun _ => h.configuration, fun _ _ => h.claimsSound⟩

theorem State.Unclaimed.within {s t : State} (h : s.Unclaimed t) (p : Port) : RequestKind.write.Within p s t :=
  ⟨h.1, fun _ _ _ => h.2, fun e => absurd rfl e,
    fun _ _ hs => State.claimsSound_of_steady hs h.1 fun d q hq => .inl (by rwa [h.2] at hq)⟩

/-- The holders after a CLAIM: those before, and the requester, which for TRAVEL is an OPERATOR (02 R40). -/
theorem ModeController.holder_claim {c : ModeController} {f : Port → AuthorityClass} {p q : Port} {n : Nat} {d : Domain}
    (h : ((c.claim f p n).1.val.claims.get d).holder = some q) :
    (c.claims.get d).holder = some q ∨ q = p ∧ (d = .travel → f p = .operator) := by
  have granted : ∀ e : Domain, ¬ (e = .travel ∧ f p ≠ .operator) → ((c.grant e p).claims.get d).holder = some q →
      (c.claims.get d).holder = some q ∨ q = p ∧ (d = .travel → f p = .operator) := by
    intro e hclass hq
    by_cases hd : d = e
    · subst hd
      simp only [ModeController.grant, Claims.get_set_same, Option.some.injEq] at hq
      exact .inr ⟨hq.symm, fun ht => by_contra fun hf => hclass ⟨ht, hf⟩⟩
    · simp only [ModeController.grant, Claims.get_set, hd, if_false] at hq
      exact .inl hq
  unfold ModeController.claim at h
  split at h
  · exact .inl h
  · split at h
    · exact .inl h
    · split at h
      · exact granted _ ‹_› h
      · split at h
        · exact .inl h
        · split at h
          · exact granted _ ‹_› h
          · exact .inl h

theorem ModeController.holder_release {c : ModeController} {p q : Port} {n : Nat} {d : Domain}
    (h : ((c.release p n).1.val.claims.get d).holder = some q) : (c.claims.get d).holder = some q := by
  unfold ModeController.release at h
  split at h
  · exact h
  · split at h
    · simp only [ModeController.free, Claims.get_set] at h
      split at h
      · cases h
      · exact h
    · exact h

theorem claimBody_within (p : Port) (n : Nat) (s : State) : RequestKind.claim.Within p s (claimBody p n s).1 := by
  obtain ⟨hs, hc⟩ := claimBody_steady p n s
  refine ⟨hs, fun e => absurd rfl e, fun _ => hc, fun hcut hclass hsound => ?_⟩
  refine State.claimsSound_of_steady hsound hs fun d q hq => ?_
  have hq : ((s.mc.claim s.classOf p n).1.val.claims.get d).holder = some q :=
    (congrArg (fun x => (Claims.get x d).holder) (Quiet.settle (s.withMc _)).claims).symm.trans hq
  obtain h | ⟨rfl, htravel⟩ := ModeController.holder_claim hq
  · exact .inl h
  · refine .inr ⟨hcut, ?_⟩
    simp only [RequestKind.classes, List.mem_cons, List.not_mem_nil, or_false] at hclass
    obtain h | h := hclass
    · exact .inl h
    · exact .inr ⟨h, fun hd => by simp [State.classOf, h] at htravel; exact htravel hd⟩

theorem releaseBody_within (p : Port) (n : Nat) (s : State) :
    RequestKind.release.Within p s (releaseBody p n s).1 := by
  obtain ⟨hs, hc⟩ := releaseBody_steady p n s
  refine ⟨hs, fun _ e => absurd rfl e, fun _ => hc, fun _ _ hsound => ?_⟩
  refine State.claimsSound_of_steady hsound hs fun d q hq => .inl ?_
  exact ModeController.holder_release
    ((congrArg (fun x => (Claims.get x d).holder) (Quiet.settle (s.withMc _)).claims).symm.trans hq)

theorem restartBody_within (p : Port) (s : State) : RequestKind.restart.Within p s (restartBody s).1 := by
  obtain ⟨hs, hc⟩ := restartBody_steady s
  refine ⟨hs, fun _ _ e => absurd rfl e, fun _ => hc, fun _ _ hsound => ?_⟩
  refine State.claimsSound_of_steady hsound hs fun d q hq => .inl ?_
  have hq : (s.mc.withdrawAll.val.claims.get d).holder = some q :=
    (congrArg (fun x => (Claims.get x d).holder) s.restarted_quiet.claims).symm.trans hq
  rw [ModeController.holder_withdrawAll] at hq
  cases hq

/-- The owning block's part of a request command. -/
theorem body_within {c : Instr} {p : Port} {k : RequestKind} {tag : Byte} (h : c.request = some (p, k, tag))
    (s : State) : k.Within p s (c.body s).1 := by
  cases c
  case claim => cases h; exact claimBody_within _ _ s
  case release => cases h; exact releaseBody_within _ _ s
  case restart => cases h; exact restartBody_within _ s
  case travel => cases h; exact (travelBody_quiet _ _ s).within _ _
  case modeHalt => cases h; exact (modeHaltBody_quiet _ s).within _ _
  case modeTransport => cases h; exact (modeTransportBody_quiet _ s).within _ _
  case modeSweep => cases h; exact (modeSweepBody_quiet _ s).within _ _
  case modeService => cases h; exact (modeServiceBody_quiet _ s).within _ _
  case start => cases h; exact (startBody_quiet s).within _ _
  case pin => cases h; exact (pinBody_quiet _ _ s).within _ _
  case unpin => cases h; exact (unpinBody_quiet _ s).within _ _
  case zoneAhead => cases h; exact (zoneAheadBody_quiet _ _ s).within _ _
  case reserve => cases h; exact (reserveBody_quiet _ _ s).within _ _
  case arm => cases h; exact (armBody_quiet _ _ _ s).within _ _
  case broom => cases h; exact (broomBody_quiet _ _ s).within _ _
  case water => cases h; exact (waterBody_quiet _ _ _ s).within _ _
  case holdSet => cases h; exact (holdSetBody_quiet _ _ s).within _ _
  case releaseSet => cases h; exact (releaseSetBody_quiet _ s).within _ _
  case clearLatch => cases h; exact (clearLatchBody_quiet _ s).within _ _
  case clearFailed => cases h; exact (clearFailedBody_quiet _ s).within _ _
  case output => cases h; exact (outputBody_quiet _ _ s).within _ _
  case read => cases h; exact (readBody_quiet _ _ _ s).within _ _
  case subscribe => cases h; exact (subscribeBody_quiet _ _ s).within _ _
  case lockSoft => cases h; exact (lockKindBody_quiet _ s).within _ _
  case lockHard => cases h; exact (lockKindBody_quiet _ s).within _ _
  case unlock => cases h; exact (unlockBody_quiet s).within _ _
  case write => cases h; exact (writePayloadBody_unclaimed _ _ s).within _
  all_goals cases h
  all_goals exact (writeBody_unclaimed _ _ _ _ s).within _

/-- The owning block's part of a frame's request, whatever its payload. -/
theorem RequestKind.body_within (k : RequestKind) (p : Port) (x : List Byte) (s : State) :
    k.Within p s (k.body p x s).1 := by
  cases k with
  | claim => exact claimBody_within _ _ s
  | release => exact releaseBody_within _ _ s
  | restart => exact restartBody_within _ s
  | travel => exact (travelBody_quiet _ _ s).within _ _
  | mode => exact (modeBody_quiet _ _ s).within _ _
  | start => exact (startBody_quiet s).within _ _
  | pin => exact (pinBody_quiet _ _ s).within _ _
  | unpin => exact (unpinBody_quiet _ s).within _ _
  | zoneAhead => exact (zoneAheadBody_quiet _ _ s).within _ _
  | reserve => exact (reserveBody_quiet _ _ s).within _ _
  | arm => exact (armBody_quiet _ _ _ s).within _ _
  | broom => exact (broomBody_quiet _ _ s).within _ _
  | water => exact (waterBody_quiet _ _ _ s).within _ _
  | holdSet => exact (holdSetBody_quiet _ _ s).within _ _
  | releaseSet => exact (releaseSetBody_quiet _ s).within _ _
  | clearLatch => exact (clearLatchBody_quiet _ s).within _ _
  | clearFailed => exact (clearFailedBody_quiet _ s).within _ _
  | output => exact (outputBody_quiet _ _ s).within _ _
  | read => exact (readBody_quiet _ _ _ s).within _ _
  | write => exact (writePayloadBody_unclaimed _ _ s).within _
  | subscribe => exact (subscribeBody_quiet _ _ s).within _ _
  | lock => exact (lockBody_quiet _ s).within _ _
  | unlock => exact (unlockBody_quiet s).within _ _

theorem RequestKind.checkedBody_within (k : RequestKind) (p : Port) (x : List Byte) (s : State) :
    k.Within p s (k.checkedBody p x s).1 := by
  unfold RequestKind.checkedBody
  split
  · exact k.body_within p x s
  · split
    · exact k.body_within p x s
    · exact (Quiet.refl s).within k p

/-- What the owning block's part leaves, the request's answer leaves. -/
theorem RequestKind.Within.answer {k : RequestKind} {p : Port} {s : State} {body : RequestBody} (tag : Byte)
    (hcut : (s.port p).state ≠ .cutOff) (h : k.Within p s (body s).1) : k.Within p s (s.answer p k tag body) := by
  obtain hq | ⟨hclass, hq⟩ := State.answer_cases tag hcut h.toSteady
  · exact hq.within k p
  · exact ⟨h.toSteady.trans hq.toSteady, fun a b c => hq.claims.trans (h.claims a b c),
      fun a => hq.configuration.trans (h.configuration a), fun a b c => hq.claimsSound (h.claimsSound a b c)⟩

/-- What the answer leaves, the request's examination leaves; and its claims stay sound whatever the port. -/
theorem RequestKind.Within.serve {k : RequestKind} {p : Port} {s : State} {body : RequestBody} (tag : Byte)
    (h : k.Within p s (body s).1) :
    k.Within p s (s.serve p k tag body) ∧ (s.claimsSound → (s.serve p k tag body).claimsSound) := by
  by_cases hcut : (s.port p).state = .cutOff
  · rw [State.serve_of_cutOff hcut]
    exact ⟨(Quiet.refl s).within k p, id⟩
  · cases hslot : (s.port p).slot with
    | some r =>
      rw [State.serve_of_occupied hcut (by simp [hslot])]
      have hq : Quiet s (s.setPort p { s.port p with overrun := true }) := .setPort rfl rfl id
      exact ⟨hq.within k p, hq.claimsSound⟩
    | none =>
      rw [State.serve_of_free hcut hslot]
      refine ⟨h.answer tag hcut, fun hs => ?_⟩
      obtain hq | ⟨hclass, hq⟩ := State.answer_cases tag hcut h.toSteady
      · exact hq.claimsSound hs
      · exact hq.claimsSound (h.claimsSound hcut hclass hs)

end Sys2Proof.Machine
end

section
/-! SUPPORT. What each command that is no request leaves of the standing records; FRAME_END; and the two statements about
what every step keeps of ports, claims and records. -/

namespace Sys2Proof.Machine

/-! ### The commands of lines and timers -/

theorem State.convert_quiet (s : State) (ch : Fin 16) (raw : Nat) : Quiet s (s.convert ch raw) :=
  ((Quiet.setScanner (c := s.scanner.store ch raw) rfl).trans
    (Quiet.withMonitor (s.monitor.record_evaluate s.mc.time ch raw))).thenSettle

theorem State.endPass_quiet (s : State) : Quiet s s.endPass := by
  unfold State.endPass
  split
  · exact (Quiet.withScanner (s.scanner.record_passEnds _)).thenSettle
  · exact .refl s

theorem State.completeRefresh_quiet (s : State) (echo fault : Mask) : Quiet s (s.completeRefresh echo fault) :=
  (Quiet.withChain s _).thenSettle.trans (Quiet.setChain _ _)

/-- The commands of lines, timers and receivers are quiet. -/
theorem exec_quiet {c : Instr} (hr : c.request = none) (hp : c.isPowerOn = false) (ht : c ≠ .timeCounterAdvance)
    (hf : ∀ p, c ≠ .frameEnd p) {s t : State} (h : exec c s = .next t) : Quiet s t := by
  cases c
  case powerOn => cases hp
  case timeCounterAdvance => exact absurd rfl ht
  case frameEnd p => exact absurd rfl (hf p)
  case receiverReady p => cases h; exact .setPort rfl rfl id
  case startBit p _ _ _ => cases h; exact .setPort rfl rfl id
  case transmitterFrameEnd p =>
    cases h
    exact .setPort (congrArg LinkRecord.authority (PortUnit.link_frameSent _))
      (congrArg LinkRecord.state (PortUnit.link_frameSent _)) PortUnit.sound_frameSent
  case noticeRecordSent p =>
    cases h
    exact .setPort (congrArg LinkRecord.authority (PortUnit.link_noticeSent _))
      (congrArg LinkRecord.state (PortUnit.link_noticeSent _)) PortUnit.sound_noticeSent
  case estopAssertion =>
    cases h
    obtain ⟨ht, hc, hl⟩ := s.mc.estopActive_kept
    exact (Quiet.withMc ht hc hl).thenSettle
  case estopLineInactive =>
    cases h
    obtain ⟨ht, hc, hl⟩ := s.mc.estopInactive_kept
    exact .setMc ht hc hl
  case estopRelease =>
    cases h
    obtain ⟨ht, hc, hl⟩ := s.mc.estopReleased_kept
    exact .setMc ht hc hl
  case conversionComplete raw =>
    simp only [exec, execConversionComplete] at h
    split at h
    · cases h; exact .refl s
    · cases h; exact (s.convert_quiet _ _).trans (State.endPass_quiet _)
  case scanPeriodExpiry => cases h; exact .setScanner (s.scanner.record_periodExpiry _)
  case holdLeaseExpiry => cases h; exact (Quiet.withScanner (s.scanner.record_leaseExpiry _)).thenSettle
  case staleTimerExpiry => cases h; exact (Quiet.withScanner (s.scanner.record_staleExpiry _)).thenSettle
  case motorPulse b => cases h; exact .setPulse (s.pulse.record_motorEdge b)
  case groundPulse => cases h; exact (Quiet.withPulse (s.pulse.record_groundEdge _)).thenSettle
  case speedWindowEnd => cases h; exact (Quiet.withPulse (s.pulse.record_windowEnd _)).thenSettle
  case lossTimerExpiry => cases h; exact (Quiet.withPulse (s.pulse.record_lossExpiry _)).thenSettle
  case reserveLeaseExpiry => cases h; exact (Quiet.withBudget (s.budget.configured_leaseEnds _)).thenSettle
  case holdExpiry row => cases h; exact (Quiet.withBudget (s.budget.configured_holdEnds _ row)).thenSettle
  case travelLeaseExpiry => cases h; exact (Quiet.withGovernor (s.governor.record_leaseEnds _ _)).thenSettle
  case rampStep => cases h; exact (Quiet.withGovernor (s.governor.record_rampStep _)).thenSettle
  case liftWaitExpiry => cases h; exact (Quiet.withGovernor (s.governor.record_liftWaitExpiry _)).thenSettle
  case regulationStep => cases h; exact .setSequencer (s.sequencer.record_regulationStep _)
  case swingTimerExpiry x => cases h; exact (Quiet.withSequencer (s.sequencer.record_swingExpiry _ x)).thenSettle
  case retryWaitExpiry x => cases h; exact (Quiet.withSequencer (s.sequencer.record_retryExpiry _ x)).thenSettle
  case lowerTimeExpiry x => cases h; exact (Quiet.withSequencer (s.sequencer.record_lowerExpiry _ x)).thenSettle
  case yieldTimeExpiry x => cases h; exact (Quiet.withSequencer (s.sequencer.record_yieldExpiry _ x)).thenSettle
  case liftTimeExpiry x => cases h; exact (Quiet.withSequencer (s.sequencer.record_liftExpiry _ x)).thenSettle
  case mainBroomLowerExpiry => cases h; exact (Quiet.withSequencer (s.sequencer.record_mainLowerExpiry _)).thenSettle
  case mainBroomLiftExpiry => cases h; exact (Quiet.withSequencer (s.sequencer.record_mainLiftExpiry _)).thenSettle
  case primeTimerExpiry => cases h; exact (Quiet.withWater (s.water.record_primeExpiry _)).thenSettle
  case refreshTimerExpiry => cases h; exact .setChain s _
  case refreshCompletion echo fault =>
    cases h
    split
    · exact s.completeRefresh_quiet echo fault
    · exact .refl s
  all_goals cases hr

/-- TIME_COUNTER_ADVANCE reaches the clock and the water controller's wet flag (02 R27; log 8). -/
theorem exec_timeCounterAdvance (s : State) :
    exec .timeCounterAdvance s =
      .next ((s.setMc { s.mc with time := s.mc.time + 1 }).setWater
        { s.water with wet := s.water.wet && s.mc.time + 1 != s.water.wetUntil }) := by
  have htick : s.water.tick (s.mc.time + 1) =
      { s.water with wet := s.water.wet && s.mc.time + 1 != s.water.wetUntil } := by
    unfold Water.tick
    by_cases h : s.mc.time + 1 = s.water.wetUntil
    · rw [if_pos h, bne_eq_false_iff_eq.2 h, Bool.and_false]
    · rw [if_neg h, bne_iff_ne.2 h, Bool.and_true]
  show Host.Outcome.next ((s.setMc { s.mc with time := s.mc.time + 1 }).setWater (s.water.tick (s.mc.time + 1))) = _
  rw [htick]

/-! ### FRAME_END -/

/-- A port unit replaced by one of the same class that is sound if the old one was; its state may have changed. -/
theorem Continues.setPort {s : State} {p : Port} {u : PortUnit} (ha : u.authority = (s.port p).authority)
    (hs : (s.port p).sound → u.sound) : Continues s (s.setPort p u) where
  rate := rfl
  pending := rfl
  time := rfl
  authority q := by rw [State.setPort_port]; split <;> simp_all
  sound h := State.portsSound_setPort h p (hs (h p))

/-- What follows a change of port state changes no port state and no configuration record itself. -/
theorem State.linkChanged_steady (s : State) (p : Port) (old : PortState) :
    Steady s (s.linkChanged p old) ∧ (s.linkChanged p old).configuration = s.configuration := by
  unfold State.linkChanged
  dsimp only
  split
  · exact ⟨.refl s, rfl⟩
  · have hq : Quiet s (s.emit ((otherPorts p).map fun q =>
        .postTo q .linkState (portNumber p) (s.port p).state.number)).settle := (Quiet.emit s _).thenSettle
    split
    · obtain ⟨hs, hc⟩ := State.withMc_steady (ModeController.clockAndLimits_withdrawPort (State.mc _) p)
      exact ⟨hq.toSteady.trans hs.thenSettle, (Quiet.settle _).configuration.trans (hc.trans hq.configuration)⟩
    · exact ⟨hq.toSteady, hq.configuration⟩

/-- The holders after a change of port state: those before, but the port itself if it has entered CUT_OFF (02 R42). -/
theorem State.holder_linkChanged {s : State} {p q : Port} {old : PortState} {d : Domain}
    (h : ((s.linkChanged p old).mc.claims.get d).holder = some q) :
    (s.mc.claims.get d).holder = some q ∧ (q = p → (s.port p).state = .cutOff → old = .cutOff) := by
  unfold State.linkChanged at h
  dsimp only at h
  split at h
  · rename_i hold
    exact ⟨h, fun _ hcut => hold.symm.trans hcut⟩
  · have hq : Quiet s (s.emit ((otherPorts p).map fun q =>
        .postTo q .linkState (portNumber p) (s.port p).state.number)).settle := (Quiet.emit s _).thenSettle
    split at h
    · rw [(Quiet.settle _).claims, State.withMc_mc, ModeController.get_withdrawPort, hq.claims] at h
      split at h
      · cases h
      · exact ⟨h, fun e => absurd (e ▸ h) ‹_›⟩
    · rw [hq.claims] at h
      exact ⟨h, fun _ hcut => absurd hcut ‹_›⟩

/-- A port's unit is replaced, its class kept, and what follows the change of its state is done: claims stay sound. -/
theorem State.claimsSound_linkChanged {s : State} (h : s.claimsSound) (p : Port) {u : PortUnit}
    (ha : u.authority = (s.port p).authority) : ((s.setPort p u).linkChanged p (s.port p).state).claimsSound := by
  obtain ⟨hs, -⟩ := (s.setPort p u).linkChanged_steady p (s.port p).state
  intro d q hq
  obtain ⟨hq, hcut⟩ := State.holder_linkChanged hq
  rw [State.setPort_port_same] at hcut
  rw [hs.health q, hs.authority q, State.setPort_port]
  obtain ⟨hstate, hclass⟩ := h d q hq
  by_cases hqp : q = p
  · subst hqp
    rw [if_pos rfl, ha]
    exact ⟨fun e => hstate (hcut rfl e), hclass⟩
  · rw [if_neg hqp]
    exact ⟨hstate, hclass⟩

theorem State.handOver_within {s : State} {p : Port} (hcut : (s.port p).state ≠ .cutOff) (bytes : List Byte) :
    Steady s (s.handOver p bytes) ∧ (s.claimsSound → (s.handOver p bytes).claimsSound) := by
  unfold State.handOver
  dsimp only
  split
  · have hq := Quiet.respond hcut (bytes.getD 0 0) (bytes.getD 1 0) (.no .unknown)
    exact ⟨hq.toSteady, hq.claimsSound⟩
  · rename_i k _
    have hb := k.checkedBody_within p ((bytes.drop 3).take (lengthByte bytes)) s
    obtain hq | ⟨hclass, hq⟩ := State.answer_cases (bytes.getD 1 0) hcut hb.toSteady
    · exact ⟨hq.toSteady, hq.claimsSound⟩
    · exact ⟨hb.toSteady.trans hq.toSteady, fun hs => hq.claimsSound (hb.claimsSound hcut hclass hs)⟩

theorem PortUnit.authority_goodFrame (u : PortUnit) : u.goodFrame.authority = u.authority := by
  unfold PortUnit.goodFrame
  split
  · split <;> rfl
  all_goals rfl

theorem PortUnit.authority_badFrame (u : PortUnit) : u.badFrame.authority = u.authority := by
  unfold PortUnit.badFrame
  split
  · rfl
  all_goals dsimp only; split <;> rfl

theorem PortUnit.goodFrame_state_ne_cutOff {u : PortUnit} (h : u.state ≠ .cutOff) : u.goodFrame.state ≠ .cutOff := by
  rw [PortUnit.goodFrame_of_not_cutOff h]
  dsimp only
  split
  · nofun
  · exact h

/-- A unit that has evaluated a frame, with what follows its change of state. -/
theorem State.frameTaken {s : State} {p : Port} {u : PortUnit} (ha : u.authority = (s.port p).authority)
    (hs : (s.port p).sound → u.sound) :
    Continues s ((s.setPort p u).linkChanged p (s.port p).state) ∧
      (s.claimsSound → ((s.setPort p u).linkChanged p (s.port p).state).claimsSound) :=
  ⟨(Continues.setPort ha hs).trans ((s.setPort p u).linkChanged_steady p _).1.toContinues,
    fun h => State.claimsSound_linkChanged h p ha⟩

/-- The unit whose frame has ended, before the frame is evaluated (01 R2). -/
def PortUnit.frameOver (u : PortUnit) : PortUnit := { u with receiver := .ended }

theorem State.frameEnd_of_not_receiving {s : State} {p : Port} (h : (s.port p).receiver.state ≠ .receiving) :
    s.frameEnd p = s := by
  simp [State.frameEnd, h]

theorem State.frameEnd_of_occupied {s : State} {p : Port} (h : (s.port p).receiver.state = .receiving)
    (hslot : (s.port p).slot.isSome = true) :
    s.frameEnd p = s.setPort p { s.port p with receiver := .ended, overrun := true } := by
  simp [State.frameEnd, h, hslot]

theorem State.frameEnd_of_bad {s : State} {p : Port} (h : (s.port p).receiver.state = .receiving)
    (hslot : (s.port p).slot = none) (hbad : (s.port p).receiver.good = false) :
    s.frameEnd p = (s.setPort p (s.port p).frameOver.badFrame).linkChanged p (s.port p).state := by
  simp [State.frameEnd, PortUnit.frameOver, h, hslot, hbad]

theorem State.frameEnd_of_good_cutOff {s : State} {p : Port} (h : (s.port p).receiver.state = .receiving)
    (hslot : (s.port p).slot = none) (hgood : (s.port p).receiver.good = true) (hcut : (s.port p).state = .cutOff) :
    s.frameEnd p = (s.setPort p (s.port p).frameOver.goodFrame).linkChanged p (s.port p).state := by
  simp [State.frameEnd, PortUnit.frameOver, h, hslot, hgood, hcut]

theorem State.frameEnd_of_good {s : State} {p : Port} (h : (s.port p).receiver.state = .receiving)
    (hslot : (s.port p).slot = none) (hgood : (s.port p).receiver.good = true) (hcut : (s.port p).state ≠ .cutOff) :
    s.frameEnd p =
      ((s.setPort p (s.port p).frameOver.goodFrame).linkChanged p (s.port p).state).handOver p
        (s.port p).receiver.bytes := by
  simp [State.frameEnd, PortUnit.frameOver, h, hslot, hgood, hcut]

/-- FRAME_END keeps rate, queue, clock and classes, and keeps ports and claims sound. -/
theorem State.frameEnd_continues (s : State) (p : Port) :
    Continues s (s.frameEnd p) ∧ (s.claimsSound → (s.frameEnd p).claimsSound) := by
  have good := State.frameTaken (s := s) (p := p) (u := (s.port p).frameOver.goodFrame)
    (PortUnit.authority_goodFrame _) (PortUnit.sound_goodFrame (u := (s.port p).frameOver))
  by_cases hr : (s.port p).receiver.state = .receiving
  · cases hslot : (s.port p).slot with
    | some r =>
      have hq : Quiet s (s.setPort p { s.port p with receiver := .ended, overrun := true }) := .setPort rfl rfl id
      rw [State.frameEnd_of_occupied hr (by simp [hslot])]
      exact ⟨hq.toContinues, hq.claimsSound⟩
    | none =>
      by_cases hgood : (s.port p).receiver.good = true
      · by_cases hcut : (s.port p).state = .cutOff
        · rw [State.frameEnd_of_good_cutOff hr hslot hgood hcut]
          exact good
        · rw [State.frameEnd_of_good hr hslot hgood hcut]
          have hstate := ((s.setPort p (s.port p).frameOver.goodFrame).linkChanged_steady p (s.port p).state).1.health p
          rw [State.setPort_port_same] at hstate
          obtain ⟨hh, hclaims⟩ := State.handOver_within
            (hstate.symm ▸ PortUnit.goodFrame_state_ne_cutOff (u := (s.port p).frameOver) hcut)
            (s.port p).receiver.bytes
          exact ⟨good.1.trans hh.toContinues, hclaims ∘ good.2⟩
      · rw [State.frameEnd_of_bad hr hslot (by simpa using hgood)]
        exact State.frameTaken (PortUnit.authority_badFrame _) (PortUnit.sound_badFrame (u := (s.port p).frameOver))
  · rw [State.frameEnd_of_not_receiving hr]
    exact ⟨(Steady.refl s).toContinues, id⟩

/-! ### Every command -/

/-- After POWER_ON ports and claims are sound. -/
theorem State.powerOn_sound (x : Straps) (r : LinkRate) (active : Bool) (l : List Instr) :
    (State.powerOn x r active l).portsSound ∧ (State.powerOn x r active l).claimsSound := by
  refine ⟨fun p => ?_, fun d p h => ?_⟩
  · have unit : ∀ y, (PortUnit.powerOn y).sound := fun _ =>
      ⟨fun _ => ⟨by simp [PortUnit.powerOn], rfl⟩, nofun, nofun, by simp [PortUnit.powerOn], fun _ => rfl,
        fun _ => ⟨rfl, rfl⟩⟩
    cases p <;> exact unit _
  · cases d <;> cases h

/-- Every command but POWER_ON and the clock's keeps rate, queue, clock and classes, and keeps ports and claims sound. -/
theorem exec_continues {c : Instr} (hp : c.isPowerOn = false) (ht : c ≠ .timeCounterAdvance) {s t : State}
    (h : exec c s = .next t) : Continues s t ∧ (s.claimsSound → t.claimsSound) := by
  cases hr : c.request with
  | some r =>
    obtain ⟨p, k, tag⟩ := r
    cases (exec_of_request hr s).symm.trans h
    obtain ⟨hw, hsound⟩ := (body_within hr s).serve tag
    exact ⟨hw.toContinues, hsound⟩
  | none =>
    by_cases hf : ∃ p, c = .frameEnd p
    · obtain ⟨p, rfl⟩ := hf
      cases h
      exact s.frameEnd_continues p
    · have hq := exec_quiet hr hp ht (fun p e => hf ⟨p, e⟩) h
      exact ⟨hq.toContinues, hq.claimsSound⟩

/-- Every command keeps sound ports and sound claims sound. -/
theorem exec_sound {c : Instr} {s t : State} (h : exec c s = .next t) :
    (s.portsSound → t.portsSound) ∧ (s.claimsSound → t.claimsSound) := by
  by_cases hp : c.isPowerOn = true
  · cases c <;> try cases hp
    cases h
    exact ⟨fun _ => (State.powerOn_sound _ _ _ _).1, fun _ => (State.powerOn_sound _ _ _ _).2⟩
  · by_cases ht : c = .timeCounterAdvance
    · subst ht
      cases (exec_timeCounterAdvance s).symm.trans h
      exact ⟨id, id⟩
    · obtain ⟨hc, hclaims⟩ := exec_continues (by simpa using hp) ht h
      exact ⟨hc.sound, hclaims⟩

theorem configures_eq_false {c : Instr} (h : c.configures = false) :
    c.isPowerOn = false ∧ (∀ p, c ≠ .frameEnd p) ∧ ∀ p k tag, c.request = some (p, k, tag) → k ≠ .write := by
  refine ⟨?_, ?_, ?_⟩
  · cases c
    case powerOn => cases h
    all_goals rfl
  · rintro p rfl
    cases h
  · rintro p _ tag hr rfl
    cases c <;> cases hr
    all_goals cases h

/-- Configuration records change by a WRITE, a frame or POWER_ON alone. -/
theorem exec_configuration {c : Instr} (hc : c.configures = false) (ht : c ≠ .timeCounterAdvance) {s t : State}
    (h : exec c s = .next t) : t.configuration = s.configuration := by
  obtain ⟨hp, hf, hwrite⟩ := configures_eq_false hc
  cases hr : c.request with
  | some r =>
    obtain ⟨p, k, tag⟩ := r
    cases (exec_of_request hr s).symm.trans h
    exact ((body_within hr s).serve tag).1.configuration (hwrite p k tag hr)
  | none => exact (exec_quiet hr hp ht hf h).configuration

/-- Claims change by a CLAIM, RELEASE, RESTART, a frame or POWER_ON alone. -/
theorem exec_claims {c : Instr} (hclaim : ∀ p tag d, c ≠ .claim p tag d) (hrelease : ∀ p tag d, c ≠ .release p tag d)
    (hrestart : ∀ p tag, c ≠ .restart p tag) (hf : ∀ p, c ≠ .frameEnd p) (hp : c.isPowerOn = false)
    (ht : c ≠ .timeCounterAdvance) {s t : State} (h : exec c s = .next t) : t.mc.claims = s.mc.claims := by
  cases hr : c.request with
  | some r =>
    obtain ⟨p, k, tag⟩ := r
    cases (exec_of_request hr s).symm.trans h
    refine ((body_within hr s).serve tag).1.claims ?_ ?_ ?_ <;> rintro rfl <;> cases c <;> cases hr
    · exact hclaim _ _ _ rfl
    · exact hrelease _ _ _ rfl
    · exact hrestart _ _ rfl
  | none => exact (exec_quiet hr hp ht hf h).claims

/-- A property that no command breaks, and that does not look at the queue, every step keeps. -/
theorem keptByStep_of_exec {P : State → Prop} (hq : ∀ s l, P s → P (s.setPending l))
    (he : ∀ c s t, exec c s = .next t → P s → P t) : KeptByStep P := by
  intro s t hs h
  unfold StepsTo step at h
  split at h
  · cases h; exact hs
  · exact he _ _ _ h (hq _ _ hs)

end Sys2Proof.Machine

open Sys2Proof Sys2Proof.Machine

/-- Settles O54: the port units change by their own operations, each of which keeps them sound; a claim gets a holder by
a CLAIM that R24 and R40 allow, and loses it before its port is CUT_OFF for the next command. -/
theorem portsAndClaimsStaySound : Obligations.PortsAndClaimsStaySound :=
  ⟨keptByStep_of_exec (fun _ _ h => h) fun _ _ _ h => (exec_sound h).1,
    keptByStep_of_exec (fun _ _ h => h) fun _ _ _ h => (exec_sound h).2⟩

/-- Settles O53: the clock by its own lemma; the rest by what each command's stages keep. -/
theorem timeAndRecordsChangeByTheirCommandsAlone : Obligations.TimeAndRecordsChangeByTheirCommandsAlone := by
  refine ⟨exec_timeCounterAdvance, fun c s t h hp ht => (exec_continues hp ht h).1.time, fun c s t h => ?_⟩
  by_cases ht : c = .timeCounterAdvance
  · subst ht
    cases (exec_timeCounterAdvance s).symm.trans h
    exact ⟨fun _ => rfl, fun _ => ⟨rfl, rfl, fun _ => rfl⟩, fun _ _ _ _ _ => rfl⟩
  · refine ⟨fun hc => ?_, fun hp => ?_, fun hclaim hrelease hrestart hf hp => ?_⟩
    · exact exec_configuration hc ht h
    · have hcont := (exec_continues hp ht h).1
      exact ⟨hcont.rate, hcont.pending, hcont.authority⟩
    · exact exec_claims hclaim hrelease hrestart hf hp ht h
end

section
/-! The port unit's own statements: the receiver, lost requests, responses and notices, READ (01 R1 to R3, R8, R10 to
R19). -/

namespace Sys2Proof.Machine

/-! ### The receiver (01 R1, R2) -/

/-- The two spellings of a character error: an odd number of ones, or a stop bit at the active level. -/
theorem badCharacter_eq (data : Byte) (parity stop : Bool) :
    badCharacter data parity stop = (!parityGood data parity || !stop) := by
  have h : ∀ n : Nat, (n % 2 == 1) = !(n % 2 == 0) := fun n => by
    obtain h | h := Nat.mod_two_eq_zero_or_one n <;> simp [h]
  exact congrArg (· || !stop) (h _)

theorem Receiver.idle_eq (r : Receiver) :
    r.idle = { r with state := if r.state = .hunting then .ready else r.state } := by
  obtain ⟨state, _, _, _⟩ := r
  cases state <;> rfl

theorem Receiver.startBit_of_hunting {r : Receiver} (h : r.state = .hunting) (data : Byte) (parity stop : Bool) :
    r.startBit data parity stop = r := by
  simp [Receiver.startBit, h]

theorem Receiver.startBit_of_ready {r : Receiver} (h : r.state = .ready) (data : Byte) (parity stop : Bool) :
    r.startBit data parity stop = ⟨.receiving, [data], 1, badCharacter data parity stop⟩ := by
  simp [Receiver.startBit, h, Receiver.take, storedBytes, badCharacter_eq]

theorem Receiver.startBit_of_receiving {r : Receiver} (h : r.state = .receiving) (data : Byte) (parity stop : Bool) :
    r.startBit data parity stop =
      { state := .receiving
        bytes := if r.bytes.length < 37 then r.bytes ++ [data] else r.bytes
        count := r.count + 1
        errors := r.errors || badCharacter data parity stop } := by
  simp only [Receiver.startBit, h, Receiver.take, badCharacter_eq, Bool.or_assoc]
  rfl

/-- A port unit replaced by itself is no change. -/
theorem State.setPort_same (s : State) (p : Port) : s.setPort p (s.port p) = s := by
  simp only [State.setPort, State.port, Ports.set_get, State.setPorts_same]

/-! ### Responses (01 R10, R13) -/

/-- The response frame of a unit as it stands (01 sections 1.2, 1.5). -/
theorem PortUnit.buildResponse_eq (u : PortUnit) (r : Response) :
    u.buildResponse r =
      frame (r.kind ||| 0x80) r.tag
        (byte r.code.number ::
          byte (u.state.number + 4 * u.overrun.toNat + 8 * u.lostMarker.toNat + 16 * u.notices.length) :: r.data) :=
  rfl

theorem PortUnit.chooseIfIdle_of_busy {u : PortUnit} (h : u.transmitter ≠ .idle) : u.chooseIfIdle = u := by
  unfold PortUnit.chooseIfIdle
  split
  · exact absurd ‹_› h
  all_goals rfl

theorem PortUnit.chooseIfIdle_of_idle {u : PortUnit} (h : u.transmitter = .idle) : u.chooseIfIdle = u.choose := by
  simp [PortUnit.chooseIfIdle, h]

theorem PortUnit.choose_of_cutOff {u : PortUnit} (h : u.state = .cutOff) :
    u.choose = { u with transmitter := .idle } := by
  simp [PortUnit.choose, h]

/-- The buffered response is sent, and nothing waits for its place. -/
theorem PortUnit.choose_of_buffer {u : PortUnit} (h : u.state ≠ .cutOff) {f : List Byte} (hb : u.buffer = some f)
    (hs : u.slot = none) : u.choose = { u with buffer := none, transmitter := .response f } := by
  simp [PortUnit.choose, PortUnit.moveWaiting, h, hb, hs]

/-- The buffered response is sent, and the waiting one takes its place. -/
theorem PortUnit.choose_of_slot {u : PortUnit} (h : u.state ≠ .cutOff) {f : List Byte} (hb : u.buffer = some f)
    {r : Response} (hs : u.slot = some r) :
    u.choose =
      { u with
        slot := none, overrun := false, transmitter := .response f, buffer := some (u.buildResponse r) } := by
  simp [PortUnit.choose, PortUnit.moveWaiting, PortUnit.fillBuffer, PortUnit.buildResponse, PortUnit.statusByte, h, hb,
    hs]

/-- With the buffer empty the oldest notice is sent. -/
theorem PortUnit.choose_of_notice {u : PortUnit} (h : u.state ≠ .cutOff) (hb : u.buffer = none) {n : NoticeRecord}
    {ns : List NoticeRecord} (hn : u.notices = n :: ns) :
    u.choose = { u with transmitter := .notice n.frame true } := by
  simp [PortUnit.choose, h, hb, hn]

theorem PortUnit.choose_of_nothing {u : PortUnit} (hb : u.buffer = none) (hn : u.notices = []) :
    u.choose = { u with transmitter := .idle } := by
  simp [PortUnit.choose, hb, hn]

theorem PortUnit.respond_of_buffer {u : PortUnit} {f : List Byte} (hb : u.buffer = some f) (r : Response) :
    u.respond r = { u with slot := some r } := by
  simp [PortUnit.respond, hb]

theorem PortUnit.respond_of_busy {u : PortUnit} (hb : u.buffer = none) (hi : u.transmitter ≠ .idle) (r : Response) :
    u.respond r = { u with slot := none, overrun := false, buffer := some (u.buildResponse r) } := by
  unfold PortUnit.respond
  simp only [hb]
  exact PortUnit.chooseIfIdle_of_busy hi

theorem PortUnit.respond_of_idle {u : PortUnit} (hb : u.buffer = none) (hi : u.transmitter = .idle)
    (h : u.state ≠ .cutOff) (r : Response) :
    u.respond r = { u with slot := none, overrun := false, transmitter := .response (u.buildResponse r) } := by
  unfold PortUnit.respond
  simp only [hb]
  rw [PortUnit.chooseIfIdle_of_idle (by exact hi), PortUnit.choose_of_buffer (f := u.buildResponse r) (by exact h) rfl rfl]
  simp [PortUnit.fillBuffer]

/-- At the end of a sent frame the transmitter chooses (01 R14). -/
theorem PortUnit.frameSent_of_sent {u : PortUnit} {f : List Byte}
    (h : u.transmitter = .response f ∨ u.transmitter = .noticeGap f) : u.frameSent = u.choose := by
  obtain h | h := h <;> simp [PortUnit.frameSent, h]

theorem PortUnit.noticeSent_of_notice {u : PortUnit} {f : List Byte} {queued : Bool}
    (h : u.transmitter = .notice f queued) :
    u.noticeSent = { u with transmitter := .noticeGap f, notices := if queued then u.notices.tail else u.notices } := by
  simp [PortUnit.noticeSent, h]

/-! ### Notices (01 R15, R17) -/

/-- A byte has bit 6 or 7 set exactly when it is 64 or above. -/
theorem byte_lt_64_iff (x : Byte) : x.toNat < 64 ↔ x.getLsbD 6 = false ∧ x.getLsbD 7 = false := by
  have := x.isLt
  simp only [BitVec.getLsbD, Nat.testBit_eq_decide_div_mod_eq, decide_eq_false_iff_not]
  omega

theorem subscribe_body (p : Port) (tag classes : Byte) (s : State) :
    (Instr.subscribe p tag classes).body s = subscribeBody p classes s := rfl

theorem subscribeBody_of_lt (p : Port) {classes : Byte} (s : State) (h : classes.toNat < 64) :
    subscribeBody p classes s =
      (s.setPort p { s.port p with subscriptions := classes.truncate 6 }, .okWith [classes]) := by
  simp [subscribeBody, Nat.not_le.2 h]

theorem subscribeBody_of_ge (p : Port) {classes : Byte} (s : State) (h : 64 ≤ classes.toNat) :
    subscribeBody p classes s = (s, .no .badValue) := by
  simp [subscribeBody, h]

theorem PortUnit.offerNotice_of_unsubscribed {u : PortUnit} {n : NoticeRecord}
    (h : u.subscriptions.getLsbD n.kind.classCode = false) : u.offerNotice n = u := by
  simp [PortUnit.offerNotice, h]

theorem PortUnit.offerNotice_of_cutOff {u : PortUnit} {n : NoticeRecord}
    (h : u.subscriptions.getLsbD n.kind.classCode = true) (hcut : u.state = .cutOff) :
    u.offerNotice n = { u with lostMarker := true } := by
  simp [PortUnit.offerNotice, h, hcut]

theorem PortUnit.offerNotice_of_full {u : PortUnit} {n : NoticeRecord}
    (h : u.subscriptions.getLsbD n.kind.classCode = true) (hcut : u.state ≠ .cutOff) (hn : 8 ≤ u.notices.length) :
    u.offerNotice n = { u with lostMarker := true } := by
  simp [PortUnit.offerNotice, h, hcut, noticeCapacity, Nat.not_lt.2 hn]

theorem PortUnit.offerNotice_of_room {u : PortUnit} {n : NoticeRecord}
    (h : u.subscriptions.getLsbD n.kind.classCode = true) (hcut : u.state ≠ .cutOff) (hn : u.notices.length < 8) :
    u.offerNotice n =
      { u with notices := u.notices ++ [{ n with lost := u.lostMarker }], lostMarker := false }.chooseIfIdle := by
  simp [PortUnit.offerNotice, h, hcut, noticeCapacity, hn]

/-! ### READ (01 R19) -/

theorem read_body (p : Port) (tag table first count : Byte) (s : State) :
    (Instr.read p tag table first count).body s = (s, s.read table.toNat first.toNat count.toNat) := rfl

theorem State.read_of_unknown (s : State) {table : Nat} (h : Table.ofNumber table = none) (first count : Nat) :
    s.read table first count = .no .badValue := by
  simp [State.read, h]

theorem State.read_of_outside (s : State) {table : Nat} {t : Table} (h : Table.ofNumber table = some t)
    {first count : Nat} (hbad : count = 0 ∨ t.capacity ≤ first) : s.read table first count = .no .badValue := by
  simp [State.read, h, hbad]

theorem State.read_of_inside (s : State) {table : Nat} {t : Table} (h : Table.ofNumber table = some t)
    {first count : Nat} (hcount : count ≠ 0) (hfirst : first < t.capacity) :
    s.read table first count =
      .okWith (byte (s.readRecords t first count).length :: (s.readRecords t first count).flatten) := by
  simp [State.read, h, hcount, Nat.not_le.2 hfirst]

end Sys2Proof.Machine

open Sys2Proof Sys2Proof.Machine

/-- Settles O3, by the receiver's state. -/
theorem receiverFollowsTheLine : Obligations.ReceiverFollowsTheLine := by
  intro p data parity stop s
  have start : ∀ r, (s.port p).receiver.startBit data parity stop = r →
      exec (.startBit p data parity stop) s = .next (s.setPort p { s.port p with receiver := r }) := by
    rintro _ rfl
    rfl
  refine ⟨?_, fun h => ?_, fun h => ?_, fun h => ?_⟩
  · rw [← Receiver.idle_eq]
    rfl
  · rw [start _ (Receiver.startBit_of_hunting h data parity stop)]
    exact congrArg _ (s.setPort_same p)
  · exact start _ (Receiver.startBit_of_ready h data parity stop)
  · exact start _ (Receiver.startBit_of_receiving h data parity stop)

/-- Settles O4: the branches of FRAME_END and of a request's examination before anything is evaluated. -/
theorem requestIsLostWhenThePortCannotTakeIt : Obligations.RequestIsLostWhenThePortCannotTakeIt := by
  refine ⟨fun p s => ⟨fun h => ?_, fun h hslot => ?_⟩, fun c s p k tag hc => ⟨fun hcut => ?_, fun hcut hslot => ?_⟩⟩
  · exact congrArg _ (State.frameEnd_of_not_receiving h)
  · exact congrArg _ (State.frameEnd_of_occupied h hslot)
  · rw [exec_of_request hc, State.serve_of_cutOff hcut]
  · rw [exec_of_request hc, State.serve_of_occupied hcut hslot]

/-- Settles O8: one lemma for each thing that the transmitter can choose. -/
theorem responsesAndNoticesAreSent : Obligations.ResponsesAndNoticesAreSent := by
  refine ⟨fun u r => ⟨fun hb => ⟨fun hi => ?_, fun hi hcut => ?_⟩, fun f hb => ?_⟩, fun p s f => ⟨fun hsent => ?_, ?_⟩⟩
  · exact PortUnit.respond_of_busy hb hi r
  · exact PortUnit.respond_of_idle hb hi hcut r
  · exact PortUnit.respond_of_buffer hb r
  · have chosen : ∀ u, (s.port p).choose = u → exec (.transmitterFrameEnd p) s = .next (s.setPort p u) := by
      rintro _ rfl
      exact congrArg (fun u => Host.Outcome.next (s.setPort p u)) (PortUnit.frameSent_of_sent hsent)
    refine ⟨fun hcut => ?_, fun hcut => ⟨fun g hb hs => ?_, fun g r hb hs => ?_, fun n ns hb hn => ?_, fun hb hn => ?_⟩⟩
    · exact chosen _ (PortUnit.choose_of_cutOff hcut)
    · exact chosen _ (PortUnit.choose_of_buffer hcut hb hs)
    · exact chosen _ (PortUnit.choose_of_slot hcut hb hs)
    · exact chosen _ (PortUnit.choose_of_notice hcut hb hn)
    · exact chosen _ (PortUnit.choose_of_nothing hb hn)
  · have sent : ∀ u, (s.port p).noticeSent = u → exec (.noticeRecordSent p) s = .next (s.setPort p u) := by
      rintro _ rfl
      rfl
    exact ⟨fun h => sent _ (PortUnit.noticeSent_of_notice h), fun h => sent _ (PortUnit.noticeSent_of_notice h)⟩

/-- Settles O9: SUBSCRIBE by its owning block's part, the notices by the branches of R15. -/
theorem noticesAreSubscribedToAndQueued : Obligations.NoticesAreSubscribedToAndQueued := by
  refine ⟨fun p tag classes s h => ?_, fun s kind subject value n hn => ?_, fun u n => ⟨?_, fun hsub => ?_⟩⟩
  · have heard := exec_of_hears (c := .subscribe p tag classes) rfl h
    refine ⟨fun hbits => ?_, fun hbits => ?_⟩
    · rw [heard, subscribe_body, subscribeBody_of_lt p s ((byte_lt_64_iff classes).2 hbits)]
      rfl
    · have hge : 64 ≤ classes.toNat := Nat.not_lt.1 fun hlt => by
        obtain ⟨h6, h7⟩ := (byte_lt_64_iff classes).1 hlt
        rw [h6, h7] at hbits
        simp at hbits
      rw [heard, subscribe_body, subscribeBody_of_ge p s hge]
      rfl
  · subst hn
    exact ⟨⟨_, rfl, rfl, fun p => by cases p <;> rfl⟩, fun p => rfl⟩
  · exact PortUnit.offerNotice_of_unsubscribed
  · refine ⟨PortUnit.offerNotice_of_cutOff hsub, PortUnit.offerNotice_of_full hsub, fun hcut hroom => ⟨fun hi => ?_, ?_⟩⟩
    · rw [PortUnit.offerNotice_of_room hsub hcut hroom]
      exact PortUnit.chooseIfIdle_of_busy hi
    · intro hi hb hempty
      rw [PortUnit.offerNotice_of_room hsub hcut hroom, PortUnit.chooseIfIdle_of_idle (by exact hi),
        PortUnit.choose_of_notice (by exact hcut) (by exact hb) (n := { n with lost := u.lostMarker }) (ns := [])
          (by simp [hempty])]
      simp [hempty]

/-- Settles O11, by the branches of R19. -/
theorem readReturnsRecords : Obligations.ReadReturnsRecords := by
  intro p tag table first count s h
  have heard := exec_of_hears (c := .read p tag table first count) rfl h
  have zero : count.toNat = 0 ↔ count = 0 := by simp [← BitVec.toNat_inj]
  refine ⟨fun hnone => ?_, fun t ht => ⟨fun hbad => ?_, fun hcount hfirst => ?_⟩⟩
  · rw [heard, read_body, s.read_of_unknown hnone]
    rfl
  · rw [heard, read_body, s.read_of_outside ht (hbad.imp_left zero.2)]
    rfl
  · rw [heard, read_body, s.read_of_inside ht (mt zero.1 hcount) hfirst]
    rfl
end

section
/-! Frames (01 R3 to R9, R12): what a good and a bad frame make of the port and of the other two ports, and how a good
frame of a request does what the request command does. -/

namespace Sys2Proof.Machine

/-! ### LINK_STATE at the other two ports (01 R9) -/

/-- `t` is `s` once LINK_STATE with a value has been offered to the two ports other than `p`. -/
def State.Notified (s : State) (p : Port) (value : Int) (t : State) : Prop :=
  t = s.setPorts t.ports ∧ t.port p = s.port p ∧
    ∀ q, q ≠ p → t.port q = (s.port q).offerNotice (s.notice .linkState (portNumber p) value)

/-- Two offers that make no offer themselves are taken one after the other. -/
theorem State.settle_two {s : State} {a b : Offer} (h : s.offers = [a, b])
    (ha : (deliver a (s.setOffers [b])).offers = [b])
    (hb : (deliver b ((deliver a (s.setOffers [b])).setOffers [])).offers = []) :
    s.settle = deliver b ((deliver a (s.setOffers [b])).setOffers []) := by
  show settleN (998 + 1 + 1) s = _
  rw [settleN_succ _ s a [b] h, settleN_succ _ _ b [] ha, settleN_of_offers_nil _ _ hb]

/-- With no other offer waiting, the LINK_STATE offers of a change of port state reach the other two ports, and nothing
else happens. -/
theorem State.notified_settle {s : State} (h : s.offers = []) (p : Port) (value : Int) :
    s.Notified p value
      (s.emit ((otherPorts p).map fun q => .postTo q .linkState (portNumber p) value)).settle := by
  have two : ∀ q r : Port,
      (s.emit [.postTo q .linkState (portNumber p) value, .postTo r .linkState (portNumber p) value]).settle =
        (s.postTo q .linkState (portNumber p) value).postTo r .linkState (portNumber p) value := by
    intro q r
    obtain ⟨_⟩ := s
    cases h
    exact State.settle_two (a := .postTo q .linkState (portNumber p) value)
      (b := .postTo r .linkState (portNumber p) value) rfl rfl rfl
  cases p
  · refine (two .s1 .s2).symm ▸ ⟨rfl, rfl, fun q hq => ?_⟩
    cases q
    · exact absurd rfl hq
    · rfl
    · rfl
  · refine (two .s0 .s2).symm ▸ ⟨rfl, rfl, fun q hq => ?_⟩
    cases q
    · rfl
    · exact absurd rfl hq
    · rfl
  · refine (two .s0 .s1).symm ▸ ⟨rfl, rfl, fun q hq => ?_⟩
    cases q
    · rfl
    · rfl
    · exact absurd rfl hq

/-- The number of a port state fits in a notice's value. -/
theorem State.notice_linkState (s : State) (p : Port) (x : PortState) :
    s.notice .linkState (portNumber p) x.number =
      ⟨.linkState, portNumber p, false, x.number, s.pulse.path, s.mc.time⟩ := by
  cases x <;> rfl

/-- A port's unit is replaced by one that is not newly CUT_OFF: if its state has changed, LINK_STATE is offered to the
other two ports, and nothing else follows. -/
theorem State.linkChanged_setPort {s : State} {p : Port} {u : PortUnit}
    (hcut : u.state = .cutOff → (s.port p).state = .cutOff) (ho : u.state ≠ (s.port p).state → s.offers = []) :
    let t := (s.setPort p u).linkChanged p (s.port p).state
    t = s.setPorts t.ports ∧ t.port p = u ∧
      ∀ q, q ≠ p →
        t.port q =
          if u.state = (s.port p).state then s.port q
          else (s.port q).offerNotice
            ⟨.linkState, portNumber p, false, u.state.number, s.pulse.path, s.mc.time⟩ := by
  have others : ∀ q, q ≠ p → (s.setPort p u).port q = s.port q := fun q hq => by
    rw [State.setPort_port, if_neg hq]
  by_cases h : u.state = (s.port p).state
  · simp only [State.linkChanged, State.setPort_port_same, h, if_true]
    exact ⟨rfl, trivial, others⟩
  · have hnew : u.state ≠ .cutOff := fun e => h (e.trans (hcut e).symm)
    obtain ⟨hports, hp, hq⟩ := State.notified_settle (s := s.setPort p u) (ho h) p u.state.number
    simp only [State.linkChanged, State.setPort_port_same, h, hnew, if_false]
    refine ⟨hports, hp.trans (s.setPort_port_same p u), fun q hne => ?_⟩
    rw [hq q hne, others q hne, State.notice_linkState]
    rfl

/-- A port's unit is replaced by one that is newly CUT_OFF: LINK_STATE is offered to the other two ports, and then the
port's claims are withdrawn (01 R7; log 16). -/
theorem State.linkChanged_setPort_cutOff {s : State} {p : Port} {u : PortUnit} (hcut : u.state = .cutOff)
    (hold : (s.port p).state ≠ .cutOff) (ho : s.offers = []) :
    ∃ v : State, v = s.setPorts v.ports ∧ v.port p = u ∧
      (∀ q, q ≠ p →
        v.port q = (s.port q).offerNotice ⟨.linkState, portNumber p, false, 2, s.pulse.path, s.mc.time⟩) ∧
      (s.setPort p u).linkChanged p (s.port p).state = (v.withMc (v.mc.withdrawPort p)).settle := by
  obtain ⟨hports, hp, hq⟩ := State.notified_settle (s := s.setPort p u) ho p u.state.number
  refine ⟨_, hports, hp.trans (s.setPort_port_same p u), fun q hne => ?_, ?_⟩
  · rw [hq q hne, State.setPort_port, if_neg hne, hcut]
    rfl
  · simp only [State.linkChanged, State.setPort_port_same, hcut, Ne.symm hold, if_false, if_true]

theorem exec_frameEnd_of {s t : State} {p : Port} (h : s.frameEnd p = t) : exec (.frameEnd p) s = .next t :=
  congrArg Host.Outcome.next h

/-! ### Bad frames -/

/-- A CUT_OFF port unit with slot, buffer and queue empty, and its lost marker set if `marked`. -/
def PortUnit.emptied (marked : Prop) (u : PortUnit) : Prop :=
  u.state = .cutOff ∧ u.slot = none ∧ u.buffer = none ∧ u.notices = [] ∧ (marked → u.lostMarker = true)

theorem PortUnit.emptied_offerNotice {marked : Prop} {u : PortUnit} (h : u.emptied marked) (n : NoticeRecord) :
    (u.offerNotice n).emptied marked := by
  obtain ⟨hcut, hs, hb, hn, hm⟩ := h
  by_cases hsub : u.subscriptions.getLsbD n.kind.classCode = true
  · rw [PortUnit.offerNotice_of_cutOff hsub hcut]
    exact ⟨hcut, hs, hb, hn, fun _ => rfl⟩
  · rw [PortUnit.offerNotice_of_unsubscribed (by simpa using hsub)]
    exact ⟨hcut, hs, hb, hn, hm⟩

/-- An emptied port unit stays so whatever offers are taken. -/
theorem State.emptied_settle {marked : Prop} {s : State} {p : Port} (h : (s.port p).emptied marked) :
    (s.settle.port p).emptied marked := by
  refine s.settle_keeps (P := fun t => (t.port p).emptied marked) (fun _ _ h => h) (fun o t h => ?_) h
  obtain ⟨k, n, v, rfl⟩ | ⟨q, k, n, v, rfl⟩ | hp := deliver_ports o t
  · cases p <;> exact PortUnit.emptied_offerNotice h _
  · show ((t.setPort q _).port p).emptied marked
    rw [State.setPort_port]
    split
    · subst_vars
      exact PortUnit.emptied_offerNotice h _
    · exact h
  · show ((deliver o t).ports.get p).emptied marked
    rw [hp]
    exact h

/-- A bad frame that leaves the error count below 192 (01 R5, R6). -/
theorem PortUnit.badFrame_of_below {u : PortUnit} (h : u.state ≠ .cutOff)
    (hlow : stateAfterRise (min 255 (u.errorCount + 8)) ≠ .cutOff) :
    u.frameOver.badFrame =
      { u with
        receiver := ⟨.ready, [], 0, false⟩, errorCount := min 255 (u.errorCount + 8)
        state := stateAfterRise (min 255 (u.errorCount + 8)) } := by
  rw [PortUnit.badFrame_of_not_cutOff (by exact h)]
  exact if_neg hlow

/-- A bad frame that brings the port to CUT_OFF, in the fields that R7 names. -/
theorem PortUnit.badFrame_of_above {u : PortUnit} (h : u.state ≠ .cutOff)
    (hhigh : stateAfterRise (min 255 (u.errorCount + 8)) = .cutOff) :
    u.frameOver.badFrame =
      { u with
        receiver := ⟨.ready, [], 0, false⟩, errorCount := min 255 (u.errorCount + 8), state := .cutOff
        slot := none, buffer := none, notices := [], recoveryRun := 0
        lostMarker := u.lostMarker || !u.notices.isEmpty
        transmitter := u.frameOver.badFrame.transmitter } := by
  have e : u.frameOver.badFrame = PortUnit.cutOffEntry
      { u with
        receiver := ⟨.ready, [], 0, false⟩, errorCount := min 255 (u.errorCount + 8)
        state := stateAfterRise (min 255 (u.errorCount + 8)) } := by
    rw [PortUnit.badFrame_of_not_cutOff (by exact h)]
    exact if_pos hhigh
  rw [e, hhigh]
  rfl

/-! ### Good frames -/

/-- The frame test of 01 R3 in its clauses. -/
theorem Receiver.good_iff (r : Receiver) :
    r.good = true ↔
      r.errors = false ∧ 5 ≤ r.count ∧ (r.bytes.getD 2 0).toNat ≤ 32 ∧ r.count = (r.bytes.getD 2 0).toNat + 5 ∧
        r.bytes.drop ((r.bytes.getD 2 0).toNat + 3) =
          bytes2 (crc (r.bytes.take ((r.bytes.getD 2 0).toNat + 3))).toNat := by
  simp [Receiver.good, lengthByte, and_assoc]

/-- A good frame on a port that is not CUT_OFF, with what follows its change of state, is the taking of a good frame. -/
theorem State.takesGoodFrame_linkChanged {s : State} {p : Port} (hcut : (s.port p).state ≠ .cutOff)
    (ho : (s.port p).state = .degraded → (s.port p).errorCount ≤ 96 → s.offers = []) :
    s.takesGoodFrame p ((s.setPort p (s.port p).frameOver.goodFrame).linkChanged p (s.port p).state) := by
  have hu := PortUnit.goodFrame_of_not_cutOff (u := (s.port p).frameOver) hcut
  by_cases h : (s.port p).state = .degraded ∧ (s.port p).errorCount - 1 < 96
  · have hstate : (s.port p).frameOver.goodFrame.state = .healthy := (congrArg PortUnit.state hu).trans (if_pos h)
    obtain ⟨hports, hp, hq⟩ := State.linkChanged_setPort (s := s) (p := p) (u := (s.port p).frameOver.goodFrame)
      (by simp [hstate]) (fun _ => ho h.1 (by omega))
    refine ⟨hports, hp.trans hu, fun q hne => ?_⟩
    rw [hq q hne, hstate, if_neg (by simp [h.1]), if_pos h]
    rfl
  · have hstate : (s.port p).frameOver.goodFrame.state = (s.port p).state :=
      (congrArg PortUnit.state hu).trans (if_neg h)
    obtain ⟨hports, hp, hq⟩ := State.linkChanged_setPort (s := s) (p := p) (u := (s.port p).frameOver.goodFrame)
      (by simp [hstate]) (fun e => absurd hstate e)
    refine ⟨hports, hp.trans hu, fun q hne => ?_⟩
    rw [hq q hne, if_pos hstate, if_neg h]

/-- With no change of state nothing follows. -/
theorem State.linkChanged_of_same {s : State} {p : Port} {u : PortUnit} (h : u.state = (s.port p).state) :
    (s.setPort p u).linkChanged p (s.port p).state = s.setPort p u := by
  simp [State.linkChanged, h]

end Sys2Proof.Machine

open Sys2Proof Sys2Proof.Machine

/-- Settles O5: the frame test; then bad frames by the state that the risen count gives, good frames on a port that is
not CUT_OFF, and frames on a CUT_OFF port by the recovery run. -/
theorem linkHealthFollowsTheFrames : Obligations.LinkHealthFollowsTheFrames := by
  refine ⟨Receiver.good_iff, fun p s ho hr hslot hbad hcut => ?_, fun p s ho hr hslot hgood hcut => ?_,
    fun p s ho hr hslot hcut => ⟨fun hbad => ?_, fun hgood hrun => ?_, fun hgood hrun => ?_⟩⟩
  · refine ⟨_, exec_frameEnd_of (State.frameEnd_of_bad hr hslot hbad), ?_⟩
    by_cases hlow : stateAfterRise (min 255 ((s.port p).errorCount + 8)) = .cutOff
    · have hu := PortUnit.badFrame_of_above hcut hlow
      obtain ⟨v, hv, hvp, hvq, ht⟩ := State.linkChanged_setPort_cutOff (u := (s.port p).frameOver.badFrame)
        (congrArg PortUnit.state hu) hcut ho
      have hp := hvp.trans hu
      obtain ⟨hw, hconf⟩ := State.withMc_steady (s := v) (v.mc.clockAndLimits_withdrawPort p)
      have hlink : ((v.withMc (v.mc.withdrawPort p)).settle.port p).link = _ :=
        ((State.settle_kept _).link p).trans (congrArg PortUnit.link hp)
      have hempty : ((v.withMc (v.mc.withdrawPort p)).settle.port p).emptied
          ((s.port p).lostMarker = true ∨ (s.port p).notices ≠ []) := by
        refine State.emptied_settle ?_
        show (v.port p).emptied _
        rw [hp]
        exact ⟨rfl, rfl, rfl, rfl, by simp⟩
      obtain ⟨hstate, hs, hb, hn, hm⟩ := hempty
      rw [ht]
      refine ⟨congrArg LinkRecord.receiver hlink, congrArg LinkRecord.errorCount hlink, hstate.trans hlow.symm,
        (State.settle_kept _).1.trans (hconf.trans (hv ▸ rfl)), fun e => absurd hstate e, fun _ =>
        ⟨hs, hb, hn, congrArg LinkRecord.recoveryRun hlink, hm, fun d => ?_, v, hv, rfl, ?_, hvq⟩⟩
      · rw [(Quiet.settle _).claims, State.withMc_mc, ModeController.get_withdrawPort, hv]
        rfl
      · rw [hp]
    · have hu := PortUnit.badFrame_of_below hcut hlow
      have hstate : (s.port p).frameOver.badFrame.state = _ := congrArg PortUnit.state hu
      obtain ⟨hports, hp, hq⟩ := State.linkChanged_setPort (s := s) (p := p) (u := (s.port p).frameOver.badFrame)
        (fun e => absurd (hstate.symm.trans e) hlow) (fun _ => ho)
      rw [hp]
      refine ⟨congrArg PortUnit.receiver hu, congrArg PortUnit.errorCount hu, hstate, hports ▸ rfl, fun _ =>
        ⟨hports, by rw [hu], hq⟩, fun e => absurd (hstate.symm.trans e) hlow⟩
  · exact ⟨_, State.takesGoodFrame_linkChanged hcut fun _ _ => ho,
      exec_frameEnd_of (State.frameEnd_of_good hr hslot hgood hcut)⟩
  · have hu : (s.port p).frameOver.badFrame =
        { s.port p with receiver := ⟨.ready, [], 0, false⟩, recoveryRun := 0 } := PortUnit.badFrame_of_cutOff hcut
    refine exec_frameEnd_of ((State.frameEnd_of_bad hr hslot hbad).trans ?_)
    rw [hu]
    exact State.linkChanged_of_same rfl
  · have hu : (s.port p).frameOver.goodFrame =
        { s.port p with receiver := ⟨.ready, [], 0, false⟩, recoveryRun := (s.port p).recoveryRun + 1 } :=
      (PortUnit.goodFrame_of_cutOff (u := (s.port p).frameOver) hcut).trans (if_pos (Nat.succ_lt_succ hrun))
    refine exec_frameEnd_of ((State.frameEnd_of_good_cutOff hr hslot hgood hcut).trans ?_)
    rw [hu]
    exact State.linkChanged_of_same rfl
  · have hu : (s.port p).frameOver.goodFrame =
        { s.port p with
          receiver := ⟨.ready, [], 0, false⟩, state := .healthy, errorCount := 0, recoveryRun := 0
          overrun := false } :=
      (PortUnit.goodFrame_of_cutOff (u := (s.port p).frameOver) hcut).trans (if_neg (Nat.not_lt.2 (Nat.succ_le_succ hrun)))
    obtain ⟨hports, hp, hq⟩ := State.linkChanged_setPort (s := s) (p := p) (u := (s.port p).frameOver.goodFrame)
      (fun _ => hcut) (fun _ => ho)
    refine ⟨_, exec_frameEnd_of (State.frameEnd_of_good_cutOff hr hslot hgood hcut), hports, hp.trans hu, fun q hne => ?_⟩
    rw [hq q hne, hu, hcut, if_neg (by simp)]
    rfl

namespace Sys2Proof.Machine

/-! ### A good frame of a request (01 R3, R10, R12) -/

theorem byte_toNat {n : Nat} (h : n < 256) : (byte n).toNat = n := by
  simp [byte, Nat.mod_eq_of_lt h]

theorem bytes2_length (n : Nat) : (bytes2 n).length = 2 := rfl

theorem lengthByte_frame (kind tag : Byte) {payload : List Byte} (h : payload.length ≤ 32) :
    lengthByte (frame kind tag payload) = payload.length :=
  byte_toNat (by omega)

/-- A frame as the spec lays it out is good, received without a character error. -/
theorem Receiver.good_frame (kind tag : Byte) {payload : List Byte} (h : payload.length ≤ 32) :
    Receiver.good ⟨.receiving, frame kind tag payload, payload.length + 5, false⟩ = true := by
  simp only [Receiver.good, lengthByte_frame kind tag h]
  simp [frame, h]

theorem payload_frame (kind tag : Byte) (payload : List Byte) :
    ((frame kind tag payload).drop 3).take payload.length = payload :=
  List.take_left' rfl

theorem RequestKind.ofNumber_number (k : RequestKind) : RequestKind.ofNumber (byte k.number).toNat = some k := by
  cases k <;> decide

/-- A frame whose kind is that of a request is handed over to the kind's owning block. -/
theorem State.handOver_frame (s : State) (p : Port) (k : RequestKind) (tag : Byte) {payload : List Byte}
    (h : payload.length ≤ 32) :
    s.handOver p (frame (byte k.number) tag payload) = s.answer p k tag (k.checkedBody p payload) := by
  have hkind : (frame (byte k.number) tag payload).getD 0 0 = byte k.number := rfl
  have htag : (frame (byte k.number) tag payload).getD 1 0 = tag := rfl
  unfold State.handOver
  simp only [hkind, htag, RequestKind.ofNumber_number, lengthByte_frame _ tag h, payload_frame]

/-- A two-byte field at the start of a payload. -/
theorem field2_bytes2 (x : BitVec 16) (l : List Byte) : field2 (bytes2 x.toNat ++ l) 0 = x.toNat := by
  have hx := x.isLt
  simp only [field2, field1, bytes2, byte]
  simp
  omega

theorem word16_bytes2 (x : BitVec 16) : word16 (bytes2 x.toNat) 0 = x := by
  have h := field2_bytes2 x []
  rw [List.append_nil] at h
  rw [word16, h, BitVec.ofNat_toNat, BitVec.setWidth_eq]

theorem field2s_bytes2 (x : BitVec 16) (l : List Byte) : field2s (bytes2 x.toNat ++ l) 0 = signed16 x := by
  rw [field2s, field2_bytes2, BitVec.ofNat_toNat, BitVec.setWidth_eq]

/-- The three bytes of a zone code. -/
theorem zoneCodeOf_bytes (z : ZoneCode) (l : List Byte) : zoneCodeOf ((bytes4 z.toNat).drop 1 ++ l) = z := by
  have hz := z.isLt
  have h : field1 ((bytes4 z.toNat).drop 1 ++ l) 0 * 65536 + field1 ((bytes4 z.toNat).drop 1 ++ l) 1 * 256 +
      field1 ((bytes4 z.toNat).drop 1 ++ l) 2 = z.toNat := by
    simp only [field1, bytes4, byte]
    simp
    omega
  rw [zoneCodeOf, h, BitVec.ofNat_toNat, BitVec.setWidth_eq]

/-- The payload of a request command, in the frame that carries it, is read back as the command's operands. -/
theorem checkedBody_payload {c : Instr} {p : Port} {k : RequestKind} {tag : Byte} {payload : List Byte}
    (hr : c.request = some (p, k, tag)) (hp : c.payload = some payload) : k.checkedBody p payload = c.body := by
  cases c
  case travel v => cases hr; cases hp; exact congrArg (travelBody p) (field2s_bytes2 v [])
  case zoneAhead z d =>
    cases hr; cases hp
    exact congrArg₂ zoneAheadBody (zoneCodeOf_bytes z _) (field2_bytes2 d [])
  case reserve n => cases hr; cases hp; exact congrArg (reserveBody p) (field2_bytes2 n [])
  case water e x => cases hr; cases hp; exact congrArg (waterBody p e.toNat) (field2_bytes2 x [])
  case clearLatch m => cases hr; cases hp; exact congrArg clearLatchBody (word16_bytes2 m)
  case clearFailed m => cases hr; cases hp; exact congrArg clearFailedBody (word16_bytes2 m)
  case output x v => cases hr; cases hp; exact congrArg (outputBody x.toNat) (field2s_bytes2 v [])
  all_goals cases hr
  all_goals cases hp
  all_goals rfl

theorem State.takesGoodFrame.state_ne_cutOff {s t : State} {p : Port} (h : s.takesGoodFrame p t)
    (hcut : (s.port p).state ≠ .cutOff) : (t.port p).state ≠ .cutOff := by
  obtain ⟨-, hp, -⟩ := h
  rw [hp]
  dsimp only
  split
  · nofun
  · exact hcut

/-- The frame of a request, received without error, is taken as a good frame and handed over to the kind's owning
block. -/
theorem exec_frameEnd_of_frame {s : State} {p : Port} {k : RequestKind} {tag : Byte} {payload : List Byte}
    (hlen : payload.length ≤ 32)
    (hrec : (s.port p).receiver = ⟨.receiving, frame (byte k.number) tag payload, payload.length + 5, false⟩)
    (hslot : (s.port p).slot = none) (hcut : (s.port p).state ≠ .cutOff)
    (ho : (s.port p).state = .degraded → (s.port p).errorCount ≤ 96 → s.offers = []) :
    ∃ t, s.takesGoodFrame p t ∧ exec (.frameEnd p) s = .next (t.answer p k tag (k.checkedBody p payload)) := by
  refine ⟨_, State.takesGoodFrame_linkChanged hcut ho, exec_frameEnd_of ?_⟩
  rw [State.frameEnd_of_good (by rw [hrec]) hslot (by rw [hrec]; exact Receiver.good_frame _ _ hlen) hcut, hrec,
    State.handOver_frame _ _ _ _ hlen]

/-- The kinds whose payload length R12 fixes. -/
theorem RequestKind.payloadLengths : ∀ x ∈
    [(RequestKind.claim, 1), (.release, 1), (.travel, 2), (.mode, 1), (.start, 0), (.restart, 0), (.pin, 1),
      (.unpin, 0), (.zoneAhead, 5), (.reserve, 2), (.arm, 2), (.broom, 1), (.water, 3), (.holdSet, 1),
      (.releaseSet, 0), (.clearLatch, 2), (.clearFailed, 2), (.output, 3), (.read, 3), (.subscribe, 1), (.lock, 1),
      (.unlock, 0)], x.1.payloadLength = some x.2 := by decide

/-- A kind byte outside 1..23 names no request kind. -/
theorem RequestKind.ofNumber_eq_none {n : Nat} (h : n = 0 ∨ 24 ≤ n) : RequestKind.ofNumber n = none := by
  refine List.find?_eq_none.2 fun k _ => ?_
  have : 1 ≤ k.number ∧ k.number ≤ 23 := by cases k <;> decide
  simp only [beq_iff_eq]
  omega

/-- A frame whose kind names no request kind is answered UNKNOWN. -/
theorem State.handOver_unknown (s : State) (p : Port) {kind : Byte} (tag : Byte) (payload : List Byte)
    (h : kind.toNat = 0 ∨ 24 ≤ kind.toNat) :
    s.handOver p (frame kind tag payload) = s.respond p kind tag (.no .unknown) := by
  have hkind : (frame kind tag payload).getD 0 0 = kind := rfl
  have htag : (frame kind tag payload).getD 1 0 = tag := rfl
  unfold State.handOver
  simp only [hkind, htag, RequestKind.ofNumber_eq_none h]

theorem State.respond_setPort (s : State) (p : Port) (u : PortUnit) (kind tag : Byte) (r : Reply) :
    (s.setPort p u).respond p kind tag r = s.setPort p (u.respond ⟨kind, tag, r.code, r.data⟩) := by
  cases p <;> rfl

end Sys2Proof.Machine

open Sys2Proof Sys2Proof.Machine

/-- Settles O6: the frame is good, its kind is the command's, and its payload is read back as the command's operands. -/
theorem goodFrameIsItsRequest : Obligations.GoodFrameIsItsRequest := by
  intro c s p k tag payload hr hp hlen hrec hslot hcut ho
  obtain ⟨t, ht, hexec⟩ := exec_frameEnd_of_frame hlen hrec hslot hcut ho
  refine ⟨t, ht, hexec.trans ?_⟩
  have hfree : (t.port p).slot = none := by rw [ht.2.1]; exact hslot
  rw [exec_of_request hr, State.serve_of_free (ht.state_ne_cutOff hcut) hfree, checkedBody_payload hr hp]

/-- Settles O7: the three steps of R12 that need no owning block. -/
theorem wrongClassAndUnknownKindAreAnswered : Obligations.WrongClassAndUnknownKindAreAnswered := by
  refine ⟨fun c s p k tag hr hcut hslot hclass => ?_, fun p s k n tag payload hk hlen hn hrec hears ho => ?_,
    fun p s kind tag payload hkind hlen hrec hslot hstate hbuf hidle => ?_⟩
  · rw [exec_of_request hr, State.serve_of_free hcut hslot, State.answer_of_not_allowed hclass]
  · obtain ⟨hcut, hslot, hclass⟩ := hears
    obtain ⟨t, ht, hexec⟩ := exec_frameEnd_of_frame hlen hrec hslot hcut ho
    have hallowed : (t.port p).authority ∈ k.classes := by rw [ht.2.1]; exact hclass
    refine ⟨t, ht, hexec.trans ?_⟩
    rw [State.answer_of_allowed hallowed]
    simp [RequestKind.checkedBody, RequestKind.payloadLengths _ hk, hn, Reply.no]
  · have hcut : (s.port p).state ≠ .cutOff := by simp [hstate]
    have hu : (s.port p).frameOver.goodFrame =
        { s.port p with receiver := ⟨.ready, [], 0, false⟩, errorCount := (s.port p).errorCount - 1 } := by
      rw [PortUnit.goodFrame_of_not_cutOff (by exact hcut)]
      simp [PortUnit.frameOver, hstate, Receiver.ended]
    refine exec_frameEnd_of ?_
    rw [State.frameEnd_of_good (by rw [hrec]) hslot (by rw [hrec]; exact Receiver.good_frame _ _ hlen) hcut,
      State.linkChanged_of_same (by rw [hu]), hrec, State.handOver_unknown _ _ _ _ hkind, State.respond_setPort, hu,
      PortUnit.respond_of_idle (by exact hbuf) (by exact hidle) (by exact hcut), PortUnit.buildResponse_eq]
    simp [hslot, hstate, PortState.number, ResultCode.number, Reply.no, byte]
end

section
/-! WRITE (01 R20, 02 R25): the checks before the owner's rule, the owner's refusals, and the writes that only replace
their record. -/

namespace Sys2Proof.Machine

/-! ### The checks of a WRITE (01 R20, 02 R25) -/

theorem State.writePayload_of_short (s : State) (p : Port) {x : List Byte} (h : x.length < 2) :
    s.writePayload p x = (s, .no .badValue) := by
  match x, h with
  | [], _ => rfl
  | [_], _ => rfl

theorem State.writePayload_of_unknown (s : State) (p : Port) {n : Byte} (h : Table.ofNumber n.toNat = none) (i : Byte)
    (r : List Byte) : s.writePayload p (n :: i :: r) = (s, .no .badValue) := by
  simp [State.writePayload, h]

theorem State.writePayload_of_table (s : State) (p : Port) {n : Byte} {t : Table} (h : Table.ofNumber n.toNat = some t)
    (i : Byte) (r : List Byte) : s.writePayload p (n :: i :: r) = s.writeTable p t i.toNat r := by
  simp [State.writePayload, h]

theorem State.writeTable_of_malformed (s : State) (p : Port) {t : Table} {i : Nat} {r : List Byte}
    (h : r.length ≠ t.recordSize ∨ t.capacity ≤ i) : s.writeTable p t i r = (s, .no .badValue) := by
  simp [State.writeTable, h]

/-- The tables that nobody may write (02 R25). -/
theorem Table.writable_iff (t : Table) :
    t.writable = true ↔
      t ∉ [Table.ports, .claims, .machine, .publishedSet, .changeQueue, .outcomesL, .outcomesR, .chain] := by
  cases t <;> decide

section
variable (s : State) (p : Port) {t : Table} {i : Nat} {r : List Byte} (hlen : r.length = t.recordSize)
  (hi : i < t.capacity)
include hlen hi

theorem State.writeTable_of_readOnly (hw : t.writable = false) : s.writeTable p t i r = (s, .no .notPermitted) := by
  simp [State.writeTable, hlen, Nat.not_le.2 hi, hw]

theorem State.writeTable_of_unreadable (hw : t.writable = true) (hr : parseRecord t i r = none) :
    s.writeTable p t i r = (s, .no .badValue) := by
  simp [State.writeTable, hlen, Nat.not_le.2 hi, hw, hr]

theorem State.writeTable_of_class {w : RecordWrite} (hr : parseRecord t i r = some w) (hw : t.writable = true)
    (hc : t.writableBy (s.port p).authority = false) : s.writeTable p t i r = (s, .no .notPermitted) := by
  simp [State.writeTable, hlen, Nat.not_le.2 hi, hw, hr, hc]

/-- A record that passes every check is the owner's. -/
theorem State.writeTable_of_passed {w : RecordWrite} (hr : parseRecord t i r = some w) (hw : t.writable = true)
    (hc : t.writableBy (s.port p).authority = true) : s.writeTable p t i r = s.applyWrite i w := by
  simp [State.writeTable, hlen, Nat.not_le.2 hi, hw, hr, hc]

end

/-- OPERATOR and SERVICE may write every writable table but LIMITS, which is SERVICE's (02 R25). -/
theorem Table.writableBy_of_operator_or_service {t : Table} (ht : t.writable = true) (hl : t ≠ .limits)
    {c : AuthorityClass} (hc : c = .operator ∨ c = .service) : t.writableBy c = true := by
  obtain rfl | rfl := hc
  · cases t
    case limits => exact absurd rfl hl
    all_goals first | rfl | cases ht
  · exact ht

/-! ### A block's event without offers -/

section
variable {s : State} (h : s.offers = [])
include h

theorem State.took_withScanner_pure (c : Scanner) (r : Reply) :
    (s.withScanner (.pure c)).took r = (s.setScanner c, r) := by
  simp [State.took, State.withScanner, h]

theorem State.took_withPulse_pure (u : Pulse) (r : Reply) : (s.withPulse (.pure u)).took r = (s.setPulse u, r) := by
  simp [State.took, State.withPulse, h]

theorem State.took_withSelector_pure (x : Selector) (r : Reply) :
    (s.withSelector (.pure x)).took r = (s.setSelector x, r) := by
  simp [State.took, State.withSelector, h]

theorem State.took_withBudget_pure (b : Budget) (r : Reply) :
    (s.withBudget (.pure b)).took r = (s.setBudget b, r) := by
  simp [State.took, State.withBudget, h]

theorem State.took_withGovernor_pure (g : Governor) (r : Reply) :
    (s.withGovernor (.pure g)).took r = (s.setGovernor g, r) := by
  simp [State.took, State.withGovernor, h]

theorem State.took_withSequencer_pure (q : Sequencer) (r : Reply) :
    (s.withSequencer (.pure q)).took r = (s.setSequencer q, r) := by
  simp [State.took, State.withSequencer, h]

theorem State.took_withWater_pure (w : Water) (r : Reply) : (s.withWater (.pure w)).took r = (s.setWater w, r) := by
  simp [State.took, State.withWater, h]

end

/-- An index below its bound. -/
theorem below_of_lt {n x : Nat} (h : x < n) : below n x = some ⟨x, h⟩ := by
  simp [below, h]

/-! ### The owners' refusals -/

/-- The tables that are written in HALTED and SERVICE alone, IMPLEMENTS apart, are refused elsewhere. -/
theorem State.applyWrite_of_wrongMode {s : State} (h : s.offers = []) (hm : s.mc.mode.configurable = false) {t : Table}
    (ht : t ∈ [Table.roleMap, .scanList, .scanControl, .pulse, .coefficients, .travel, .driveMap, .water,
      .association]) {i : Nat} (hi : i < t.capacity) {r : List Byte} {w : RecordWrite}
    (hr : parseRecord t i r = some w) : s.applyWrite i w = (s, .no .wrongMode) := by
  cases t
  case roleMap =>
    obtain ⟨x, -, rfl⟩ := Option.map_eq_some_iff.1 hr
    simp [State.applyWrite, below_of_lt (n := 12) hi, Scanner.writeRole, hm, State.took_withScanner_pure h]
  case scanList =>
    obtain ⟨x, -, rfl⟩ := Option.map_eq_some_iff.1 hr
    simp [State.applyWrite, Scanner.writeList, hm, State.took_withScanner_pure h]
  case scanControl =>
    obtain ⟨x, -, rfl⟩ := Option.map_eq_some_iff.1 hr
    simp [State.applyWrite, Scanner.writeControl, hm, State.took_withScanner_pure h]
  case pulse =>
    obtain ⟨x, -, rfl⟩ := Option.map_eq_some_iff.1 hr
    simp [State.applyWrite, Pulse.write, hm, State.took_withPulse_pure h]
  case coefficients =>
    obtain ⟨x, -, rfl⟩ := Option.map_eq_some_iff.1 hr
    simp [State.applyWrite, Budget.writeCoefficients, hm, State.took_withBudget_pure h]
  case travel =>
    obtain ⟨x, -, rfl⟩ := Option.map_eq_some_iff.1 hr
    simp [State.applyWrite, Governor.writeSettings, hm, State.took_withGovernor_pure h]
  case driveMap =>
    obtain ⟨x, -, rfl⟩ := Option.map_eq_some_iff.1 hr
    simp [State.applyWrite, Governor.writeMap, hm, State.took_withGovernor_pure h]
  case water =>
    obtain ⟨x, -, rfl⟩ := Option.map_eq_some_iff.1 hr
    simp [State.applyWrite, Water.writeSettings, hm, State.took_withWater_pure h]
  case association =>
    obtain ⟨x, -, rfl⟩ := Option.map_eq_some_iff.1 hr
    simp [State.applyWrite, below_of_lt (n := 12) hi, Water.writeAssociation, hm, State.took_withWater_pure h]
  all_goals simp at ht

/-- IMPLEMENTS: record 2 is nobody's, the others are refused outside HALTED and SERVICE. -/
theorem State.applyWrite_of_implements {s : State} (h : s.offers = []) {i : Nat} {r : List Byte} {w : RecordWrite}
    (hr : parseRecord .implements i r = some w) :
    (i = 2 → s.applyWrite i w = (s, .no .notPermitted)) ∧
      (i ≠ 2 → s.mc.mode.configurable = false → s.applyWrite i w = (s, .no .wrongMode)) := by
  obtain ⟨x, -, rfl⟩ := Option.map_eq_some_iff.1 hr
  refine ⟨?_, fun hi hm => ?_⟩
  · rintro rfl
    simp [State.applyWrite, Sequencer.writeSettings, State.took_withSequencer_pure h]
  · simp [State.applyWrite, Sequencer.writeSettings, hi, hm, State.took_withSequencer_pure h]

/-! ### WRITE commands -/

/-- A WRITE command, of a named table or of any payload, that is heard: what the write of its table comes to. -/
theorem exec_of_write {c : Instr} {p : Port} {tag : Byte} (hc : c.request = some (p, .write, tag)) {s : State}
    (hears : s.hears p .write) {t : State} {x : Reply} (hb : c.body s = (t, x)) :
    exec c s = .next (t.respond p 0x14 tag x) := by
  rw [exec_of_hears hc hears, hb]
  rfl

/-- Classes that the table of 02 R25 leaves out. -/
theorem Table.writableBy_eq_false {t : Table} {c : AuthorityClass}
    (h : c = .route ∧ t ∉ [Table.profiles, .zones, .zoneMask] ∨ c = .operator ∧ t = .limits) :
    t.writableBy c = false := by
  obtain ⟨rfl, ht⟩ | ⟨rfl, rfl⟩ := h
  · cases t <;> first | rfl | simp at ht
  · rfl

end Sys2Proof.Machine

open Sys2Proof Sys2Proof.Machine

/-- Settles O37: the checks of R20 and R25 in their order, then the owners' refusals. -/
theorem writesAreRefused : Obligations.WritesAreRefused := by
  intro p tag i r s hears ho
  have refused : ∀ {x : List Byte} {y : Reply}, s.writePayload p x = (s, y) →
      exec (.write p tag x) s = .next (s.respond p 0x14 tag y) := fun hb => exec_of_write rfl hears hb
  refine ⟨fun x hx => refused (s.writePayload_of_short p hx), fun n hn => refused (s.writePayload_of_unknown p hn i r),
    fun n t hn => ⟨fun hbad => ?_, fun hlen hi => ⟨fun ht => ?_, fun ht => ⟨fun hr => ?_, fun hr => ?_⟩⟩⟩, ?_⟩
  · exact refused ((s.writePayload_of_table p hn i r).trans (s.writeTable_of_malformed p hbad))
  · have hw : t.writable = false := by simpa using mt (Table.writable_iff t).1 (not_not.2 ht)
    exact refused ((s.writePayload_of_table p hn i r).trans (s.writeTable_of_readOnly p hlen hi hw))
  · have hw := (Table.writable_iff t).2 ht
    exact refused ((s.writePayload_of_table p hn i r).trans (s.writeTable_of_unreadable p hlen hi hw hr))
  · have hw := (Table.writable_iff t).2 ht
    obtain ⟨w, hr⟩ := Option.ne_none_iff_exists'.1 hr
    refine ⟨fun hclass => ?_, fun hclass hm hmode => ?_, fun hclass himp => ?_⟩
    · exact refused ((s.writePayload_of_table p hn i r).trans
        (s.writeTable_of_class p hlen hi hr hw (Table.writableBy_eq_false hclass)))
    · have hlimits : t ≠ .limits := by rintro rfl; simp at hmode
      have hc := Table.writableBy_of_operator_or_service hw hlimits hclass
      exact refused ((s.writePayload_of_table p hn i r).trans
        ((s.writeTable_of_passed p hlen hi hr hw hc).trans (State.applyWrite_of_wrongMode ho hm hmode hi hr)))
    · subst himp
      have hc := Table.writableBy_of_operator_or_service hw nofun hclass
      obtain ⟨htwo, hother⟩ := State.applyWrite_of_implements ho hr
      have applied := (s.writePayload_of_table p hn i r).trans (s.writeTable_of_passed p hlen hi hr hw hc)
      refine ⟨fun hi2 => refused (applied.trans (htwo (congrArg BitVec.toNat hi2))), fun hi2 hm =>
        refused (applied.trans (hother (fun e => hi2 (BitVec.eq_of_toNat_eq e)) hm))⟩
  · exact ⟨rfl, rfl, rfl, rfl, rfl, rfl, rfl, rfl, rfl, rfl, rfl, rfl, rfl, rfl, rfl, rfl, rfl⟩

namespace Sys2Proof.Machine

/-! ### The writes that only replace their record -/

/-- A WRITE that is heard, as the command of its table and as a WRITE of the payload that names the table. -/
theorem exec_of_table_write {c : Instr} {p : Port} {tag n i : Byte} {r : List Byte} {t : Table} {s : State}
    (hears : s.hears p .write) (hn : Table.ofNumber n.toNat = some t) (hc : c.request = some (p, .write, tag))
    (hb : c.body s = s.writeTable p t i.toNat r) {j : Nat} (hj : i.toNat = j) {u : State} {x : Reply}
    (hx : s.writeTable p t j r = (u, x)) : ∀ d ∈ [c, .write p tag (n :: i :: r)], exec d s = .next (u.respond p 0x14 tag x) := by
  subst hj
  intro d hd
  simp only [List.mem_cons, List.not_mem_nil, or_false] at hd
  obtain rfl | rfl := hd
  · exact exec_of_write hc hears (hb.trans hx)
  · exact exec_of_write rfl hears ((s.writePayload_of_table p hn i r).trans hx)

/-- A WRITE by OPERATOR or SERVICE whose record passes the checks is its owner's. -/
theorem State.writeTable_taken {s : State} {p : Port}
    (hclass : (s.port p).authority = .operator ∨ (s.port p).authority = .service) (t : Table)
    (ht : t.writable = true) (hl : t ≠ .limits) {i : Nat} {r : List Byte} (hlen : r.length = t.recordSize)
    (hi : i < t.capacity) {w : RecordWrite} (hr : parseRecord t i r = some w) :
    s.writeTable p t i r = s.applyWrite i w :=
  s.writeTable_of_passed p hlen hi hr ht (Table.writableBy_of_operator_or_service ht hl hclass)

@[simp] theorem below_val {n : Nat} (i : Fin n) : below n i.val = some i :=
  below_of_lt i.isLt

@[simp] theorem consumerOfNumber_number (c : Consumer) : consumerOfNumber (consumerNumber c) = some c := by
  cases c <;> rfl

section
variable {s : State} (ho : s.offers = [])
include ho

theorem State.applyWrite_travel (hm : s.mc.mode.configurable = true) (i : Nat) (x : TravelSettings) :
    s.applyWrite i (.travel x) = (s.setGovernor { s.governor with settings := x }, .done) := by
  simp [State.applyWrite, Governor.writeSettings, hm, State.took_withGovernor_pure ho]

theorem State.applyWrite_driveMap (hm : s.mc.mode.configurable = true) (i : Nat) (x : DriveMap) :
    s.applyWrite i (.driveMap x) = (s.setGovernor { s.governor with map := x }, .okWith [flagByte x.valid]) := by
  simp [State.applyWrite, Governor.writeMap, hm, State.took_withGovernor_pure ho]

theorem State.applyWrite_implements_left (hm : s.mc.mode.configurable = true) (x : ArmSettings) :
    s.applyWrite 0 (.implements x) =
      (s.setSequencer { s.sequencer with left := { s.sequencer.left with settings := x } }, .done) := by
  simp [State.applyWrite, Sequencer.writeSettings, hm, State.took_withSequencer_pure ho]

theorem State.applyWrite_implements_right (hm : s.mc.mode.configurable = true) (x : ArmSettings) :
    s.applyWrite 1 (.implements x) =
      (s.setSequencer { s.sequencer with right := { s.sequencer.right with settings := x } }, .done) := by
  simp [State.applyWrite, Sequencer.writeSettings, hm, State.took_withSequencer_pure ho]

theorem State.applyWrite_water (hm : s.mc.mode.configurable = true) (i : Nat) {x : WaterSettings}
    (hx : x.emptyLevel < x.refillLevel) :
    s.applyWrite i (.water x) = (s.setWater { s.water with settings := x }, .done) := by
  simp [State.applyWrite, Water.writeSettings, hm, Nat.not_le.2 hx, State.took_withWater_pure ho]

theorem State.applyWrite_water_levels (hm : s.mc.mode.configurable = true) (i : Nat) {x : WaterSettings}
    (hx : x.refillLevel ≤ x.emptyLevel) : s.applyWrite i (.water x) = (s, .no .badValue) := by
  simp [State.applyWrite, Water.writeSettings, hm, hx, State.took_withWater_pure ho]

theorem State.applyWrite_association (hm : s.mc.mode.configurable = true) (i : Fin 12) (x : Association) :
    s.applyWrite i.val (.association x) =
      (s.setWater { s.water with associations := s.water.associations.set i.val x i.isLt }, .done) := by
  simp [State.applyWrite, Water.writeAssociation, hm, State.took_withWater_pure ho, setAt]

theorem State.applyWrite_roleMap_busy (hm : s.mc.mode.configurable = true)
    (hb : s.scanner.state = .converting ∨ s.scanner.state = .paused) (i : Fin 12) (x : RoleEntry) :
    s.applyWrite i.val (.roleMap x) = (s, .no .busy) := by
  obtain hb | hb := hb <;>
    simp [State.applyWrite, Scanner.writeRole, Scanner.busy, hm, hb, State.took_withScanner_pure ho]

theorem State.applyWrite_roleMap (hm : s.mc.mode.configurable = true)
    (hb : s.scanner.state = .stopped ∨ s.scanner.state = .waiting) (i : Fin 12) (x : RoleEntry) :
    s.applyWrite i.val (.roleMap x) =
      (s.setScanner { s.scanner with roleMap := s.scanner.roleMap.set i.val x i.isLt }, .done) := by
  obtain hb | hb := hb <;>
    simp [State.applyWrite, Scanner.writeRole, Scanner.busy, hm, hb, State.took_withScanner_pure ho, setAt]

theorem State.applyWrite_zones (i : Fin 16) {x : Zone} (hx : x.ownMask.isSome = true ↔ 12 ≤ i.val) :
    s.applyWrite i.val (.zones x) =
      (s.setSelector { s.selector with zones := s.selector.zones.set i.val x i.isLt }, .done) := by
  have hmask : (x.ownMask.isSome == decide (i.val < 12)) = false := by
    by_cases hi : i.val < 12
    · simpa [hi] using mt hx.1 (Nat.not_le.2 hi)
    · simpa [hi] using hx.2 (Nat.not_lt.1 hi)
  simp [State.applyWrite, Selector.writeZone, hmask, State.took_withSelector_pure ho, setAt]

theorem State.applyWrite_zones_mask (i : Fin 16) {x : Zone} (hx : x.ownMask.isSome = true ↔ i.val < 12) :
    s.applyWrite i.val (.zones x) = (s, .no .badValue) := by
  have hmask : (x.ownMask.isSome == decide (i.val < 12)) = true := by
    by_cases hi : i.val < 12
    · simpa [hi] using hx.2 hi
    · simpa [hi] using mt hx.1 hi
  simp [State.applyWrite, Selector.writeZone, hmask, State.took_withSelector_pure ho]

theorem State.applyWrite_zoneMask (i : Nat) (x : ZoneCode) :
    s.applyWrite i (.zoneMask x) = (s.setSelector { s.selector with sharedMask := x }, .done) := by
  simp [State.applyWrite, Selector.writeMask, State.took_withSelector_pure ho]

theorem State.applyWrite_budget {c : Consumer} (hc : c ≠ .travel) (f : Nat) :
    s.applyWrite (consumerNumber c) (.budget (some f)) =
      (s.setBudget { s.budget with rows := s.budget.rows.set c { s.budget.rows.get c with floor := f } }, .done) := by
  cases c
  case travel => exact absurd rfl hc
  all_goals simp [State.applyWrite, Budget.writeFloor, State.took_withBudget_pure ho]

theorem State.applyWrite_budget_travel (x : Option Nat) :
    s.applyWrite (consumerNumber .travel) (.budget x) = (s, .done) := by
  simp [State.applyWrite, Budget.writeFloor, State.took_withBudget_pure ho]

end

/-- BUDGET records by row: row 0's floor is not read, the others' is held to 100 (07 R105). -/
theorem parseRecord_budget (i : Nat) (r : List Byte) :
    parseRecord .budget i r =
      if i = 0 then some (.budget none)
      else if field1 r 13 ≤ 100 then some (.budget (some (field1 r 13))) else none := by
  simp only [parseRecord, inRange, Nat.zero_le, true_and]
  split
  · rfl
  · split <;> rfl

theorem consumerNumber_eq_zero (c : Consumer) : consumerNumber c = 0 ↔ c = .travel := by
  cases c <;> decide

theorem consumerNumber_lt (c : Consumer) : consumerNumber c < 5 := by
  cases c <;> decide

/-- The flag of a DRIVE_MAP's answer (08 R122). -/
theorem flagByte_valid (x : DriveMap) :
    flagByte x.valid = if 100 ≤ x.fullSpeed ∧ 1 ≤ x.full ∧ x.start ≤ x.full then 1 else 0 := by
  simp [flagByte, DriveMap.valid, and_assoc]

end Sys2Proof.Machine

open Sys2Proof Sys2Proof.Machine

/-- Settles O36: each record passes the checks, and its owner's rule replaces the record without an offer. -/
theorem plainWritesReplaceTheirRecord : Obligations.PlainWritesReplaceTheirRecord := by
  intro p tag r s hears hclass ho
  have index : ∀ {n : Nat} (i : Fin n), n ≤ 256 → (byte i.val).toNat = i.val := fun i hn => byte_toNat (by omega)
  have taken := State.writeTable_taken (s := s) (p := p) hclass
  refine ⟨fun hm => ⟨fun x hl hx => ?_, fun x hl hx => ?_, fun x hl hx => ⟨?_, ?_⟩, fun x hl hx hlev => ?_,
    fun i x hl hx => ?_, fun x hl hx hlev => ?_, fun i x hl hx hb => ?_, fun i x hl hx hb => ?_⟩,
    fun i x hl hx hown => ?_, fun i x hl hx hown => ?_, fun x hl hx => ?_, fun x hl => ?_⟩
  · exact exec_of_table_write hears rfl rfl rfl rfl
      ((taken .travel rfl nofun hl Nat.one_pos (congrArg (Option.map _) hx)).trans (State.applyWrite_travel ho hm 0 x))
  · rw [← flagByte_valid]
    exact exec_of_table_write hears rfl rfl rfl rfl
      ((taken .driveMap rfl nofun hl Nat.one_pos (congrArg (Option.map _) hx)).trans
        (State.applyWrite_driveMap ho hm 0 x))
  · exact exec_of_table_write hears rfl rfl rfl rfl
      ((taken .implements rfl nofun hl (by decide) (congrArg (Option.map _) hx)).trans
        (State.applyWrite_implements_left ho hm x))
  · exact exec_of_table_write hears rfl rfl rfl rfl
      ((taken .implements rfl nofun hl (by decide) (congrArg (Option.map _) hx)).trans
        (State.applyWrite_implements_right ho hm x))
  · exact exec_of_table_write hears rfl rfl rfl rfl
      ((taken .water rfl nofun hl Nat.one_pos (congrArg (Option.map _) hx)).trans
        (State.applyWrite_water ho hm 0 hlev))
  · exact exec_of_table_write hears rfl rfl rfl (index i (by omega))
      ((taken .association rfl nofun hl i.isLt (congrArg (Option.map _) hx)).trans (State.applyWrite_association ho hm i x))
  · exact exec_of_write rfl hears
      ((taken .water rfl nofun hl Nat.one_pos (congrArg (Option.map _) hx)).trans
        (State.applyWrite_water_levels ho hm 0 hlev))
  · exact exec_of_table_write (n := 5) hears rfl rfl rfl (index i (by omega))
      ((taken .roleMap rfl nofun hl i.isLt (congrArg (Option.map _) hx)).trans
        (State.applyWrite_roleMap_busy ho hm hb i x)) _ List.mem_cons_self
  · exact exec_of_table_write hears rfl rfl rfl (index i (by omega))
      ((taken .roleMap rfl nofun hl i.isLt (congrArg (Option.map _) hx)).trans (State.applyWrite_roleMap ho hm hb i x))
  · exact exec_of_table_write hears rfl rfl rfl (index i (by omega))
      ((taken .zones rfl nofun hl i.isLt (congrArg (Option.map _) hx)).trans (State.applyWrite_zones ho i hown))
  · exact exec_of_table_write (n := 13) hears rfl rfl rfl (index i (by omega))
      ((taken .zones rfl nofun hl i.isLt (congrArg (Option.map _) hx)).trans (State.applyWrite_zones_mask ho i hown)) _
      List.mem_cons_self
  · exact exec_of_table_write hears rfl rfl rfl rfl
      ((taken .zoneMask rfl nofun hl Nat.one_pos (congrArg (Option.map _) hx)).trans
        (State.applyWrite_zoneMask ho 0 x))
  · have hrow : (byte (consumerNumber x)).toNat = consumerNumber x :=
      byte_toNat ((consumerNumber_lt x).trans (by omega))
    refine fun c hc => ⟨fun hx hlow => ?_, fun hx hhigh => ?_, ?_⟩
    · have hparse : parseRecord .budget (consumerNumber x) r = some (.budget (some (field1 r 13))) := by
        rw [parseRecord_budget, if_neg (mt (consumerNumber_eq_zero x).1 hx), if_pos (by exact hlow)]
      exact exec_of_table_write hears rfl rfl rfl hrow
        ((taken .budget rfl nofun hl (consumerNumber_lt x) hparse).trans (State.applyWrite_budget ho hx _)) c hc
    · have hparse : parseRecord .budget (consumerNumber x) r = none := by
        rw [parseRecord_budget, if_neg (mt (consumerNumber_eq_zero x).1 hx), if_neg (by exact Nat.not_le.2 hhigh)]
      exact exec_of_table_write hears rfl rfl rfl hrow
        (s.writeTable_of_unreadable (t := .budget) p hl (consumerNumber_lt x) rfl hparse) c hc
    · rintro rfl
      exact exec_of_table_write hears rfl rfl rfl hrow
        ((taken .budget rfl nofun hl (consumerNumber_lt .travel) (parseRecord_budget 0 r)).trans
          (State.applyWrite_budget_travel ho none)) c hc
end

section
/-! The state after power-on: what its tables hold, and that it has every invariant. -/

namespace Sys2Proof.Machine

/-! ### The records of the tables after power-on -/

@[simp] theorem Scanner.powerOn_roleMap_get (i : Fin 12) : Scanner.powerOn.roleMap.get i = ⟨none, 0, 1000⟩ := by
  simp [Scanner.powerOn, Vector.get_eq_getElem]

@[simp] theorem Monitor.powerOn_windows_get (i : Fin 6) : Monitor.powerOn.windows.get i = ⟨0, 4095, .notice, 0⟩ := by
  simp [Monitor.powerOn, Vector.get_eq_getElem]

@[simp] theorem Monitor.powerOn_assignments_get (i : Fin 16) :
    Monitor.powerOn.assignments.get i = ⟨none, .inside, false, 0, 0⟩ := by
  simp [Monitor.powerOn, Vector.get_eq_getElem]

@[simp] theorem Selector.powerOn_rows_get (i : Fin 8) : Selector.powerOn.rows.get i = .powerOn := by
  simp [Selector.powerOn, Vector.get_eq_getElem]

@[simp] theorem Selector.powerOn_zones_get (i : Fin 16) :
    Selector.powerOn.zones.get i = ⟨false, 0, 0, if i.val < 12 then none else some 16777215⟩ := by
  simp [Selector.powerOn, Vector.get_eq_getElem]

@[simp] theorem Water.powerOn_associations_get (i : Fin 12) : Water.powerOn.associations.get i = .none := by
  simp [Water.powerOn, Vector.get_eq_getElem]

@[simp] theorem Chain.powerOn_counts_get (i : Fin 16) : Chain.powerOn.counts.get i = 0 := by
  simp [Chain.powerOn, Vector.get_eq_getElem]

/-- The consumers start in shed order, with nothing offered, asked or granted (07 R116). -/
theorem Budget.powerOn_rows_get (c : Consumer) :
    Budget.powerOn.rows.get c = .powerOn (consumerNumber c + 1) (if c = .travel then 0 else 50) := by
  cases c <;> rfl

theorem Sequencer.powerOn_arm (y : Side) : Sequencer.powerOn.arm y = .powerOn := by
  cases y <;> rfl

/-! ### The invariants after power-on -/

theorem namesEachOnce_powerOn : namesEachOnce [.travel, .main, .armL, .armR, .water] :=
  ⟨rfl, fun c => by cases c <;> decide⟩

theorem Budget.powerOn_rank (c : Consumer) :
    (Budget.powerOn.rows.get c).rank = Profile.powerOn.shedOrder.idxOf c + 1 := by
  cases c <;> rfl

theorem Budget.powerOn_sound : Budget.powerOn.sound := by
  refine ⟨rfl, by decide, ⟨_, namesEachOnce_powerOn, Budget.powerOn_rank⟩, fun c => ?_⟩
  rw [Budget.powerOn_rows_get]
  exact ⟨fun _ => rfl, nofun, nofun⟩

theorem Governor.powerOn_sound : Governor.powerOn.sound :=
  ⟨Nat.le_refl 0, rfl, rfl, rfl, rfl, fun h => absurd h (by decide), nofun, fun _ => rfl⟩

theorem Water.powerOn_sound : Water.powerOn.sound :=
  ⟨rfl, rfl, Nat.le_refl 0, Nat.zero_le _, nofun, nofun⟩

theorem Chain.powerOn_sound : Chain.powerOn.sound :=
  ⟨rfl, nofun, fun i => by simp⟩

theorem Scanner.powerOn_sound : Scanner.powerOn.sound :=
  ⟨by decide, by decide, by decide, nofun, nofun, ⟨nofun, nofun⟩, nofun⟩

/-- No channel is latched and every window asks for a notice only, so the outputs rest (04 R70, R74). -/
theorem Monitor.powerOn_outputs : Monitor.powerOn.outputs = Monitor.powerOn.derive := by
  decide +kernel

section
variable (x : Straps) (r : LinkRate) (active : Bool) (l : List Instr)

theorem State.powerOn_budgetSound : (State.powerOn x r active l).budgetSound := by
  refine ⟨Budget.powerOn_sound, fun i => ?_, fun o ho => ?_⟩
  · have hrow : (State.powerOn x r active l).selector.rows.get i = .powerOn := Selector.powerOn_rows_get i
    rw [hrow]
    exact namesEachOnce_powerOn
  · cases ho

theorem State.powerOn_recordsSound : (State.powerOn x r active l).recordsSound := by
  refine ⟨Scanner.powerOn_sound, Monitor.powerOn_outputs, Nat.zero_le _, .nil, nofun, fun i h => ?_, fun y => ?_⟩
  · cases (Selector.powerOn_rows_get i) ▸ h
  · exact (Sequencer.powerOn_arm y) ▸ Nat.zero_le _

theorem State.powerOn_inStep : (State.powerOn x r active l).inStep :=
  ⟨rfl, rfl, rfl, rfl, rfl, rfl⟩

/-- No chain position has failed (10 R169). -/
theorem State.powerOn_failed (i : Nat) : (State.powerOn x r active l).chain.failed.getLsbD i = false :=
  BitVec.getLsbD_zero

/-- The blocks hold the values of power-on of one another: each group of copies is a group of equal constants. -/
theorem State.powerOn_copiesAgree : (State.powerOn x r active l).copiesAgree :=
  have off := fun i => (State.powerOn_failed x r active l i).symm
  ⟨State.powerOn_inStep x r active l, ⟨rfl, rfl, rfl, rfl, rfl, rfl⟩, ⟨rfl, rfl⟩, ⟨rfl, rfl, rfl, rfl, rfl⟩,
    ⟨rfl, rfl, rfl, rfl, rfl, rfl, rfl, rfl, rfl⟩,
    ⟨rfl, rfl, rfl, rfl, rfl, rfl, rfl, rfl, rfl, Budget.powerOn_rank⟩, ⟨rfl, rfl, rfl, rfl, rfl⟩,
    ⟨rfl, rfl, rfl, rfl, rfl⟩, ⟨rfl, rfl, rfl, rfl, rfl, rfl, rfl, rfl⟩, ⟨off 12, off 13, off 14, rfl, off 15⟩⟩

end

end Sys2Proof.Machine

open Sys2Proof Sys2Proof.Machine

/-- Settles O60: reset is a power-on, and every power-on starts with every invariant. -/
theorem resetIsSound : Obligations.ResetIsSound :=
  have powered := State.powerOn_sound Config.resetStraps Config.resetRate Config.resetEstopActive []
  ⟨powered.1, powered.2, State.powerOn_budgetSound _ _ _ _, Governor.powerOn_sound, Water.powerOn_sound,
    Chain.powerOn_sound, State.powerOn_recordsSound _ _ _ _, State.powerOn_copiesAgree _ _ _ _⟩

/-- Settles O2: `State.powerOn` block by block, each table by what it holds after power-on. -/
theorem powerOnStartsThePart : Obligations.PowerOnStartsThePart := by
  intro x r active s
  refine ⟨.powerOn x r active s.pending, rfl, rfl, rfl, rfl, fun p => ?ports, ?mc, ?scanner, ?monitor, ?pulse,
    ?selector, ?budget, ?governor, ?sequencer, ?water, ?chain⟩
  case ports => cases p <;> exact ⟨_, rfl, rfl⟩
  case mc =>
    exact ⟨rfl, rfl, rfl, rfl, rfl, rfl, rfl, rfl, fun d => by cases d <;> rfl, rfl, rfl, rfl, rfl, rfl, rfl⟩
  case scanner =>
    exact ⟨Scanner.powerOn_roleMap_get, rfl, rfl, rfl, rfl, rfl, rfl, rfl, rfl, rfl, rfl, rfl, rfl, rfl⟩
  case monitor => exact ⟨Monitor.powerOn_windows_get, Monitor.powerOn_assignments_get, rfl⟩
  case pulse =>
    exact ⟨rfl, rfl, rfl, rfl, rfl, rfl, rfl, rfl, rfl, rfl, rfl, rfl, rfl, rfl, rfl, rfl, rfl, rfl, rfl⟩
  case selector =>
    exact ⟨Selector.powerOn_rows_get, Selector.powerOn_zones_get, rfl, rfl, rfl, rfl, rfl, rfl, rfl, rfl⟩
  case budget =>
    refine ⟨rfl, rfl, rfl, rfl, rfl, rfl, rfl, fun c => ?_⟩
    have hrow : (State.powerOn x r active s.pending).budget.rows.get c = _ := Budget.powerOn_rows_get c
    rw [hrow]
    exact ⟨rfl, rfl, rfl, rfl, rfl, rfl, rfl⟩
  case governor =>
    exact ⟨rfl, rfl, rfl, rfl, rfl, rfl, rfl, rfl, rfl, rfl, rfl, rfl, rfl, rfl, rfl, rfl, rfl⟩
  case sequencer =>
    refine ⟨fun y => ?_, rfl, rfl, rfl, rfl, rfl, rfl, rfl, rfl, rfl, rfl, rfl, rfl, rfl, rfl, rfl, rfl, rfl, rfl, rfl,
      rfl, rfl, rfl, rfl, rfl⟩
    have harm : (State.powerOn x r active s.pending).sequencer.arm y = .powerOn := Sequencer.powerOn_arm y
    rw [harm]
    exact ⟨rfl, rfl, rfl, rfl, rfl, rfl, rfl, rfl, rfl, rfl, rfl, rfl, rfl, rfl, rfl, rfl, rfl, rfl⟩
  case water =>
    exact ⟨rfl, Water.powerOn_associations_get, rfl, rfl, rfl, rfl, rfl, rfl, rfl, rfl, rfl, rfl, rfl, rfl, rfl, rfl, rfl,
      rfl⟩
  case chain => exact ⟨rfl, rfl, rfl, rfl, rfl, rfl, Chain.powerOn_counts_get, rfl, rfl, rfl, rfl⟩

end

section
/-! The encodings of 01 R18: numbers as bytes and back, enumerations as places in their lists, and what a record gives
when it is written. -/

namespace Sys2Proof.Machine

/-! ### Numbers as bytes -/

theorem bytes2_toNat {n : Nat} (h : n < 65536) : (bytes2 n).map BitVec.toNat = [n / 256, n % 256] := by
  simp [bytes2, byte]
  omega

theorem bytes4_toNat {n : Nat} (h : n < 4294967296) :
    (bytes4 n).map BitVec.toNat = [n / 16777216, n / 65536 % 256, n / 256 % 256, n % 256] := by
  simp [bytes4, byte]
  omega

/-- Two's complement adds 2^16 to a negative number. -/
theorem bytes2s_eq (i : Int) : bytes2s i = bytes2 (i % 65536).toNat := by
  rw [bytes2s, BitVec.toNat_ofInt]
  rfl

theorem byte_toNat_self (b : Byte) : byte b.toNat = b :=
  BitVec.eq_of_toNat_eq (Nat.mod_eq_of_lt b.isLt)

theorem field1_lt (r : List Byte) (o : Nat) : field1 r o < 256 :=
  (r.getD o 0).isLt

theorem field2_lt (r : List Byte) (o : Nat) : field2 r o < 65536 := by
  have h0 := field1_lt r o
  have h1 := field1_lt r (o + 1)
  unfold field2
  omega

theorem field2s_eq (r : List Byte) (o : Nat) :
    field2s r o = if field2 r o < 32768 then (field2 r o : Int) else (field2 r o : Int) - 65536 := by
  have h := field2_lt r o
  rw [field2s, signed16, BitVec.toInt_eq_toNat_cond, BitVec.toNat_ofNat, Nat.mod_eq_of_lt h]
  split <;> split <;> omega

/-! ### Enumerations as places in their lists -/

@[simp] theorem PortState.idxOf_eq (x : PortState) : [PortState.healthy, .degraded, .cutOff].idxOf x = x.number := by
  cases x <;> rfl

@[simp] theorem AuthorityClass.idxOf_eq (x : AuthorityClass) :
    [AuthorityClass.operator, .route, .engine, .service].idxOf x = x.number := by
  cases x <;> rfl

@[simp] theorem Mode.idxOf_eq (x : Mode) :
    [Mode.halted, .transport, .sweep, .stowing, .service].idxOf x = x.number := by
  cases x <;> rfl

@[simp] theorem Cause.idxOf_eq (x : Cause) :
    [Cause.start, .mode, .restart, .estop, .haltTrip, .stowDone, .powerOn].idxOf x = x.number := by
  cases x <;> rfl

@[simp] theorem ScanState.idxOf_eq (x : ScanState) :
    [ScanState.stopped, .converting, .waiting, .paused].idxOf x = x.number := by
  cases x <;> rfl

@[simp] theorem WindowAction.idxOf_eq (x : WindowAction) :
    [WindowAction.notice, .derate, .cutWater, .liftArms, .stopTravel, .halt].idxOf x = x.number := by
  cases x <;> rfl

@[simp] theorem Sense.idxOf_eq (x : Sense) : [Sense.inside, .outside].idxOf x = x.number := by
  cases x <;> rfl

@[simp] theorem Direction.idxOf_eq (x : Direction) : [Direction.forward, .reverse, .none].idxOf x = x.number := by
  cases x <;> rfl

@[simp] theorem GroundStatus.idxOf_eq (x : GroundStatus) : [GroundStatus.present, .lost].idxOf x = x.number := by
  cases x <;> rfl

@[simp] theorem PathSource.idxOf_eq (x : PathSource) : [PathSource.ground, .motor].idxOf x = x.number := by
  cases x <;> rfl

@[simp] theorem Consumer.idxOf_eq (x : Consumer) :
    [Consumer.travel, .main, .armL, .armR, .water].idxOf x = consumerNumber x := by
  cases x <;> rfl

@[simp] theorem ArmsUsed.idxOf_eq (x : ArmsUsed) : [ArmsUsed.l, .r, .both, .none].idxOf x = x.number := by
  cases x <;> rfl

@[simp] theorem RowState.idxOf_eq (x : RowState) : [RowState.full, .trimmed, .held].idxOf x = x.number := by
  cases x <;> rfl

@[simp] theorem ReserveSource.idxOf_eq (x : ReserveSource) :
    [ReserveSource.reported, .fallback].idxOf x = x.number := by
  cases x <;> rfl

@[simp] theorem CeilingTerm.idxOf_eq (x : CeilingTerm) :
    [CeilingTerm.mode, .stopTrip, .interlock, .creep, .grant, .direction].idxOf x = x.number := by
  cases x <;> rfl

@[simp] theorem ArmState.idxOf_eq (x : ArmState) :
    [ArmState.stowed, .swingingOut, .lowering, .working, .yielding, .raising, .raised, .swingingIn, .retryWait,
      .fault].idxOf x = x.number := by
  cases x <;> rfl

@[simp] theorem ArmCommand.idxOf_eq (x : ArmCommand) : [ArmCommand.auto, .out, .in_].idxOf x = x.number := by
  cases x <;> rfl

@[simp] theorem FaultCause.idxOf_eq (x : FaultCause) : [FaultCause.retryLimit, .liftFailed].idxOf x = x.number := by
  cases x <;> rfl

@[simp] theorem MotionKind.idxOf_eq (x : MotionKind) : [MotionKind.swingOut, .swingIn, .yield].idxOf x = x.number := by
  cases x <;> rfl

@[simp] theorem MotionOutcome.idxOf_eq (x : MotionOutcome) :
    [MotionOutcome.done, .timedOut, .aborted, .faulted].idxOf x = x.number := by
  cases x <;> rfl

@[simp] theorem AbortCause.idxOf_eq (x : AbortCause) :
    [AbortCause.liftRequest, .stowRequest, .halt, .budgetHeld, .trip].idxOf x = x.number := by
  cases x <;> rfl

@[simp] theorem WaterState.idxOf_eq (x : WaterState) :
    [WaterState.off, .priming, .spraying, .idleWait, .empty].idxOf x = x.number := by
  cases x <;> rfl

@[simp] theorem Association.idxOf_eq (x : Association) :
    [Association.none, .main, .armL, .armR].idxOf x = x.number := by
  cases x <;> rfl

/-! ### Parts of a record as READ sends them -/

theorem encChannel_eq (c : Option (Fin 16)) : encChannel c = [byte (c.elim 16 Fin.val)] := by
  cases c <;> rfl

theorem Scanner.dataAge_eq (c : Scanner) (now : Time) :
    c.dataAge now = if c.published = [] then 65535 else min 65535 (now - c.publishTime).toNat := by
  simp only [Scanner.dataAge, List.isEmpty_iff]
  rfl

theorem Causes.number_eq (c : Causes) : c.number = c.reverse.toNat + 2 * c.trip.toNat + 4 * c.budget.toNat := by
  obtain ⟨reverse, trip, budget⟩ := c
  cases reverse <;> cases trip <;> cases budget <;> rfl

theorem State.records_claims (s : State) :
    s.records .claims = [Domain.travel, .implements, .water].map fun d => encClaim (s.mc.claims.get d) :=
  rfl

theorem State.records_implements (s : State) :
    s.records .implements =
      [Side.left, .right].map (fun x => encArm s.sequencer x s.mc.time) ++ [encMain s.sequencer s.mc.time] :=
  rfl

theorem twelve_eq : twelve = List.finRange 12 := by decide
theorem sixteen_eq : sixteen = List.finRange 16 := by decide
theorem eightRows_eq : eightRows = List.finRange 8 := by decide
theorem sixWindows_eq : sixWindows = List.finRange 6 := by decide

/-! ### Records as WRITE takes them -/

/-- A record is taken when its first field is, and the rest after it. -/
theorem do_eq_some_iff {α β : Type} {x : Option α} {f : α → Option β} {y : β} :
    (x >>= f) = some y ↔ ∃ a, x = some a ∧ f a = some y :=
  Option.bind_eq_some_iff

theorem inRange_bind_eq_some {α : Type} {lo hi n : Nat} {f : Nat → Option α} {x : α} :
    (inRange lo hi n >>= f) = some x ↔ (lo ≤ n ∧ n ≤ hi) ∧ f n = some x := by
  simp only [do_eq_some_iff, inRange_eq_some]
  exact ⟨fun ⟨_, ⟨hn, hr⟩, hf⟩ => hn ▸ ⟨hn ▸ hr, hf⟩, fun ⟨hr, hf⟩ => ⟨n, ⟨rfl, hr⟩, hf⟩⟩

section
variable {r : List Byte}

theorem parseLimits_eq_some {x : Limits} : parseLimits r = some x ↔
    x = ⟨field2 r 0, field2 r 2, field2 r 4, field2 r 6, field2 r 8, field2 r 10⟩ ∧ x.fwdCap ≤ 12000 ∧
      x.revCap ≤ 12000 ∧ x.transportCap ≤ 12000 ∧ x.armPressMax ≤ 25000 ∧ x.mainRpmMax ≤ 1000 ∧
      x.sideRpmMax ≤ 1000 := by
  simp only [parseLimits, inRange_bind_eq_some, Nat.zero_le, true_and]
  constructor
  · rintro ⟨hfwd, hrev, htransport, hpress, hmain, hside, ⟨⟩⟩
    exact ⟨rfl, hfwd, hrev, htransport, hpress, hmain, hside⟩
  · rintro ⟨rfl, hfwd, hrev, htransport, hpress, hmain, hside⟩
    exact ⟨hfwd, hrev, htransport, hpress, hmain, hside, rfl⟩

theorem parsePulse_eq_some {x : PulseWrite} : parsePulse r = some x ↔
    x = ⟨field2 r 0, field2 r 2, field1 r 4, field2 r 5⟩ ∧ 10 ≤ x.motorPpm ∧ x.motorPpm ≤ 2000 ∧ 10 ≤ x.groundPpm ∧
      x.groundPpm ≤ 2000 ∧ 20 ≤ x.window ∧ x.window ≤ 200 ∧ 100 ≤ x.lossTime ∧ x.lossTime ≤ 2000 := by
  simp only [parsePulse, inRange_bind_eq_some, and_assoc]
  constructor
  · rintro ⟨hm, hm', hg, hg', hw, hw', hl, hl', ⟨⟩⟩
    exact ⟨rfl, hm, hm', hg, hg', hw, hw', hl, hl'⟩
  · rintro ⟨rfl, hm, hm', hg, hg', hw, hw', hl, hl'⟩
    exact ⟨hm, hm', hg, hg', hw, hw', hl, hl', rfl⟩

theorem parseCoefficients_eq_some {x : Coefficients} : parseCoefficients r = some x ↔
    x = ⟨field2 r 0, field2 r 2, field2 r 4, field2 r 6, field2 r 8, field2 r 10, field1 r 12, field2 r 13⟩ ∧
      x.ct ≤ 1000 ∧ x.cg ≤ 1000 ∧ x.cm ≤ 1000 ∧ x.cb ≤ 1000 ∧ x.cw ≤ 1000 ∧ x.fallback ≤ 1000 ∧ x.margin ≤ 200 ∧
      200 ≤ x.holdTime ∧ x.holdTime ≤ 5000 := by
  simp only [parseCoefficients, inRange_bind_eq_some, Nat.zero_le, true_and, and_assoc]
  constructor
  · rintro ⟨ht, hg, hm, hb, hw, hf, hmargin, hold, hold', ⟨⟩⟩
    exact ⟨rfl, ht, hg, hm, hb, hw, hf, hmargin, hold, hold'⟩
  · rintro ⟨rfl, ht, hg, hm, hb, hw, hf, hmargin, hold, hold'⟩
    exact ⟨ht, hg, hm, hb, hw, hf, hmargin, hold, hold', rfl⟩

theorem parseTravel_eq_some {x : TravelSettings} : parseTravel r = some x ↔
    x = ⟨field2 r 0, field2 r 2, field2 r 4, field2 r 6, field1 r 8⟩ ∧ 50 ≤ x.lease ∧ x.lease ≤ 1000 ∧
      100 ≤ x.rampUp ∧ x.rampUp ≤ 3000 ∧ 100 ≤ x.rampDown ∧ x.rampDown ≤ 3000 ∧ 100 ≤ x.creep ∧ x.creep ≤ 1000 ∧
      5 ≤ x.slipLimit ∧ x.slipLimit ≤ 50 := by
  simp only [parseTravel, inRange_bind_eq_some, and_assoc]
  constructor
  · rintro ⟨hl, hl', hu, hu', hd, hd', hc, hc', hs, hs', ⟨⟩⟩
    exact ⟨rfl, hl, hl', hu, hu', hd, hd', hc, hc', hs, hs'⟩
  · rintro ⟨rfl, hl, hl', hu, hu', hd, hd', hc, hc', hs, hs'⟩
    exact ⟨hl, hl', hu, hu', hd, hd', hc, hc', hs, hs', rfl⟩

theorem parseDriveMap_eq_some {x : DriveMap} : parseDriveMap r = some x ↔
    x = ⟨field2 r 0, field2 r 2, field2 r 4⟩ ∧ x.start ≤ 1000 ∧ x.full ≤ 1000 ∧ x.fullSpeed ≤ 12000 := by
  simp only [parseDriveMap, inRange_bind_eq_some, Nat.zero_le, true_and]
  constructor
  · rintro ⟨hstart, hfull, hspeed, ⟨⟩⟩
    exact ⟨rfl, hstart, hfull, hspeed⟩
  · rintro ⟨rfl, hstart, hfull, hspeed⟩
    exact ⟨hstart, hfull, hspeed, rfl⟩

theorem parseImplements_eq_some {x : ArmSettings} : parseImplements r = some x ↔
    x = ⟨field2 r 0, field1 r 2, field2 r 3, field2 r 5⟩ ∧ 500 ≤ x.swingLimit ∧ x.swingLimit ≤ 8000 ∧
      x.retryLimit ≤ 7 ∧ x.swingDrive ≤ 1000 ∧ x.yieldDrive ≤ 1000 := by
  simp only [parseImplements, inRange_bind_eq_some, Nat.zero_le, true_and, and_assoc]
  constructor
  · rintro ⟨hlimit, hlimit', hretry, hswing, hyield, ⟨⟩⟩
    exact ⟨rfl, hlimit, hlimit', hretry, hswing, hyield⟩
  · rintro ⟨rfl, hlimit, hlimit', hretry, hswing, hyield⟩
    exact ⟨hlimit, hlimit', hretry, hswing, hyield, rfl⟩

theorem parseWater_eq_some {x : WaterSettings} : parseWater r = some x ↔
    x.primeTime = field2 r 0 ∧ 300 ≤ x.primeTime ∧ x.primeTime ≤ 3000 ∧ x.exempt.toNat = field2 r 2 ∧
      x.emptyLevel = field2 r 4 ∧ x.emptyLevel ≤ 1000 ∧ x.refillLevel = field2 r 6 ∧ x.refillLevel ≤ 1000 := by
  simp only [parseWater, do_eq_some_iff, inRange_eq_some, groupsAt_eq_some]
  constructor
  · rintro ⟨prime, ⟨hp, hlo, hhi⟩, exempt, hx, empty, ⟨he, -, hempty⟩, refill, ⟨hr, -, hrefill⟩, ⟨⟩⟩
    exact ⟨hp, hlo, hhi, hx, he, hempty, hr, hrefill⟩
  · rintro ⟨hp, hlo, hhi, hx, he, hempty, hr, hrefill⟩
    exact ⟨_, ⟨hp, hlo, hhi⟩, _, hx, _, ⟨he, Nat.zero_le _, hempty⟩, _, ⟨hr, Nat.zero_le _, hrefill⟩, rfl⟩

theorem parseRoleMap_eq_some {x : RoleEntry} : parseRoleMap r = some x ↔
    x.channel.elim 16 Fin.val = field1 r 0 ∧ x.offset = field2 r 1 ∧ x.offset ≤ 4095 ∧ x.scale = field2s r 3 := by
  obtain ⟨channel, offset, scale⟩ := x
  simp only [parseRoleMap, do_eq_some_iff, inRange_eq_some, channelAt_eq_some]
  constructor
  · rintro ⟨channel, hc, offset, ⟨ho, -, hle⟩, ⟨⟩⟩
    exact ⟨hc, ho, hle, rfl⟩
  · rintro ⟨hc, ho, hle, rfl⟩
    exact ⟨_, hc, _, ⟨ho, Nat.zero_le _, hle⟩, rfl⟩

theorem parseScanList_eq_some {x : ScanListWrite} : parseScanList r = some x ↔
    x.channel.elim 16 Fin.val = field1 r 0 ∧ x.sample.val = field1 r 1 := by
  simp only [parseScanList, do_eq_some_iff, below_eq_some, channelAt_eq_some]
  constructor
  · rintro ⟨channel, hc, sample, hs, ⟨⟩⟩
    exact ⟨hc, hs⟩
  · rintro ⟨hc, hs⟩
    exact ⟨_, hc, _, hs, rfl⟩

theorem parseScanControl_eq_some {x : ScanControlWrite} : parseScanControl r = some x ↔
    x.period = field1 r 0 ∧ 2 ≤ x.period ∧ x.period ≤ 100 ∧ x.staleLimit = field2 r 1 ∧ 20 ≤ x.staleLimit ∧
      x.staleLimit ≤ 500 ∧ x.single.toNat = field1 r 3 := by
  simp only [parseScanControl, do_eq_some_iff, inRange_eq_some, flagAt_eq_some]
  constructor
  · rintro ⟨period, ⟨hp, hlo, hhi⟩, stale, ⟨hs, hslo, hshi⟩, single, hsingle, ⟨⟩⟩
    exact ⟨hp, hlo, hhi, hs, hslo, hshi, hsingle⟩
  · rintro ⟨hp, hlo, hhi, hs, hslo, hshi, hsingle⟩
    exact ⟨_, ⟨hp, hlo, hhi⟩, _, ⟨hs, hslo, hshi⟩, _, hsingle, rfl⟩

theorem parseWindows_eq_some {x : Window} : parseWindows r = some x ↔
    x.low = field2 r 0 ∧ x.low ≤ 4095 ∧ x.high = field2 r 2 ∧ x.high ≤ 4095 ∧ x.action.number = field1 r 4 ∧
      x.derate = field2 r 5 ∧ x.derate ≤ 1000 := by
  simp only [parseWindows, do_eq_some_iff, inRange_eq_some,
    WindowAction.ofNumber_eq_some]
  constructor
  · rintro ⟨low, ⟨hl, -, hlow⟩, high, ⟨hh, -, hhigh⟩, action, ha, derate, ⟨hd, -, hderate⟩, ⟨⟩⟩
    exact ⟨hl, hlow, hh, hhigh, ha, hd, hderate⟩
  · rintro ⟨hl, hlow, hh, hhigh, ha, hd, hderate⟩
    exact ⟨_, ⟨hl, Nat.zero_le _, hlow⟩, _, ⟨hh, Nat.zero_le _, hhigh⟩, _, ha, _, ⟨hd, Nat.zero_le _, hderate⟩, rfl⟩

/-- The window byte: W0..W5 as 0..5, NONE as 6 (04 R67). -/
theorem windowByte_eq_some {n : Nat} {w : Option (Fin 6)} :
    (if n = 6 then some none else (below 6 n).map some) = some w ↔ w.elim 6 Fin.val = n := by
  cases w with
  | none => simp [eq_comm]
  | some w =>
    by_cases hn : n = 6
    · simp [hn, w.isLt.ne]
    · simp [hn, below_eq_some]

/-- The choice of the field is made before the rest of the record is read. -/
theorem ite_bind {α β : Type} {c : Prop} [Decidable c] {x y : Option α} {f : α → Option β} :
    (if c then x >>= f else y >>= f) = ((if c then x else y) >>= f) := by
  split <;> rfl

theorem parseAssignments_eq_some {x : AssignmentWrite} : parseAssignments r = some x ↔
    x.window.elim 6 Fin.val = field1 r 0 ∧ x.sense.number = field1 r 1 := by
  simp only [parseAssignments, ite_bind, do_eq_some_iff, windowByte_eq_some, Sense.ofNumber_eq_some]
  constructor
  · rintro ⟨window, hw, sense, hs, ⟨⟩⟩
    exact ⟨hw, hs⟩
  · rintro ⟨hw, hs⟩
    exact ⟨_, hw, _, hs, rfl⟩

/-- The own mask, behind its presence byte (06 R88). -/
theorem ownMask_eq_some {present : Bool} {o : Nat} {m : Option ZoneCode} :
    (if present then (code24At r o).map some else some none) = some m ↔
      present = false ∧ m = none ∨ present = true ∧ m.map BitVec.toNat = some (field4 r o) := by
  cases present <;> cases m <;> simp [code24At_eq_some]

theorem parseZones_eq_some {x : Zone} : parseZones r = some x ↔
    x.enabled.toNat = field1 r 0 ∧ x.code.toNat = field4 r 1 ∧ x.profile.val = field1 r 5 ∧
      (field1 r 6 = 0 ∧ x.ownMask = none ∨ field1 r 6 = 1 ∧ x.ownMask.map BitVec.toNat = some (field4 r 7)) := by
  simp only [parseZones, ite_bind, do_eq_some_iff, flagAt_eq_some, code24At_eq_some, below_eq_some,
    ownMask_eq_some]
  constructor
  · rintro ⟨enabled, he, code, hc, profile, hp, present, hpresent, own, hown, ⟨⟩⟩
    refine ⟨he, hc, hp, hown.imp ?_ ?_⟩ <;> rintro ⟨rfl, hm⟩ <;> exact ⟨hpresent.symm, hm⟩
  · rintro ⟨he, hc, hp, ⟨hpresent, hm⟩ | ⟨hpresent, hm⟩⟩
    · exact ⟨_, he, _, hc, _, hp, false, hpresent.symm, _, .inl ⟨rfl, hm⟩, rfl⟩
    · exact ⟨_, he, _, hc, _, hp, true, hpresent.symm, _, .inr ⟨rfl, hm⟩, rfl⟩

/-- The numbers of five consumers, place by place. -/
theorem map_consumerNumber_eq {l : List Consumer} {n1 n2 n3 n4 n5 : Nat} :
    l.map consumerNumber = [n1, n2, n3, n4, n5] ↔
      ∃ c1, consumerNumber c1 = n1 ∧ ∃ c2, consumerNumber c2 = n2 ∧ ∃ c3, consumerNumber c3 = n3 ∧
        ∃ c4, consumerNumber c4 = n4 ∧ ∃ c5, consumerNumber c5 = n5 ∧ l = [c1, c2, c3, c4, c5] := by
  constructor
  · intro h
    simp only [List.map_eq_cons_iff, List.map_eq_nil_iff] at h
    obtain ⟨c1, _, rfl, h1, c2, _, rfl, h2, c3, _, rfl, h3, c4, _, rfl, h4, c5, _, rfl, h5, rfl⟩ := h
    exact ⟨c1, h1, c2, h2, c3, h3, c4, h4, c5, h5, rfl⟩
  · rintro ⟨c1, rfl, c2, rfl, c3, rfl, c4, rfl, c5, rfl, rfl⟩
    rfl

theorem parseProfiles_eq_some {x : Profile} : parseProfiles r = some x ↔
    x.valid.toNat = field1 r 0 ∧ x.speedCap = field2 r 1 ∧ x.speedCap ≤ 12000 ∧ x.mainRpm = field2 r 3 ∧
      x.mainRpm ≤ 1000 ∧ x.sideRpm = field2 r 5 ∧ x.sideRpm ≤ 1000 ∧ x.reachL = field2 r 7 ∧ x.reachL ≤ 1000 ∧
      x.reachR = field2 r 9 ∧ x.reachR ≤ 1000 ∧ x.pressTarget = field2 r 11 ∧ x.pressTarget ≤ 25000 ∧
      x.groups.toNat = field2 r 13 ∧ x.dose = field1 r 15 ∧ x.dose ≤ 200 ∧
      x.shedOrder.map consumerNumber = [field1 r 16, field1 r 17, field1 r 18, field1 r 19, field1 r 20] ∧
      x.armsUsed.number = field1 r 21 := by
  unfold parseProfiles
  simp only [do_eq_some_iff]
  simp only [inRange_eq_some, flagAt_eq_some, groupsAt_eq_some, consumerOfNumber_eq_some, ArmsUsed.ofNumber_eq_some,
    map_consumerNumber_eq]
  constructor
  · rintro ⟨valid, hv, cap, ⟨hc, -, hcap⟩, main, ⟨hm, -, hmain⟩, side, ⟨hs, -, hside⟩, reachL, ⟨hl, -, hreachL⟩,
      reachR, ⟨hr, -, hreachR⟩, press, ⟨hp, -, hpress⟩, groups, hg, dose, ⟨hd, -, hdose⟩, c1, h1, c2, h2, c3, h3, c4,
      h4, c5, h5, arms, ha, ⟨⟩⟩
    exact ⟨hv, hc, hcap, hm, hmain, hs, hside, hl, hreachL, hr, hreachR, hp, hpress, hg, hd, hdose,
      ⟨c1, h1, c2, h2, c3, h3, c4, h4, c5, h5, rfl⟩, ha⟩
  · obtain ⟨valid, cap, main, side, reachL, reachR, press, groups, dose, order, arms⟩ := x
    rintro ⟨hv, hc, hcap, hm, hmain, hs, hside, hl, hreachL, hr, hreachR, hp, hpress, hg, hd, hdose,
      ⟨c1, h1, c2, h2, c3, h3, c4, h4, c5, h5, rfl⟩, ha⟩
    have zero := Nat.zero_le
    exact ⟨valid, hv, cap, ⟨hc, zero _, hcap⟩, main, ⟨hm, zero _, hmain⟩, side, ⟨hs, zero _, hside⟩,
      reachL, ⟨hl, zero _, hreachL⟩, reachR, ⟨hr, zero _, hreachR⟩, press, ⟨hp, zero _, hpress⟩, groups, hg,
      dose, ⟨hd, zero _, hdose⟩, c1, h1, c2, h2, c3, h3, c4, h4, c5, h5, arms, ha, rfl⟩

end

end Sys2Proof.Machine

open Sys2Proof Sys2Proof.Machine

/-- Settles O10. READ: with enumerations written by their numbers, a table's records are its encoding unfolded, split
where a field is optional. WRITE: one lemma per parser. -/
theorem recordsAreLaidOut : Obligations.RecordsAreLaidOut := by
  refine ⟨⟨fun _ => byte_toNat, fun _ => bytes2_toNat, fun _ => bytes4_toNat, fun i _ _ => bytes2s_eq i,
    fun r o => ⟨rfl, rfl, rfl, field2s_eq r o⟩, rfl⟩, fun s => ?_, fun r => ?_⟩
  · simp only [PortState.idxOf_eq, AuthorityClass.idxOf_eq, Mode.idxOf_eq, Cause.idxOf_eq, ScanState.idxOf_eq,
      WindowAction.idxOf_eq, Sense.idxOf_eq, Direction.idxOf_eq, GroundStatus.idxOf_eq, PathSource.idxOf_eq,
      Consumer.idxOf_eq, ArmsUsed.idxOf_eq, RowState.idxOf_eq, ReserveSource.idxOf_eq, CeilingTerm.idxOf_eq,
      ArmState.idxOf_eq, ArmCommand.idxOf_eq, FaultCause.idxOf_eq, MotionKind.idxOf_eq, MotionOutcome.idxOf_eq,
      AbortCause.idxOf_eq, WaterState.idxOf_eq, Association.idxOf_eq, ← Causes.number_eq, ← twelve_eq, ← sixteen_eq,
      ← eightRows_eq, ← sixWindows_eq]
    refine ⟨?ports, ?claims, ?limits, ?machine, ?roleMap, ?scanList, ?scanControl, ?publishedSet, ?windows,
      ?assignments, ?pulse, ?profiles, ?zones, ?zoneMask, ?changeQueue, ?budget, ?coefficients, ?travel, ?driveMap,
      ?implements, ?outcomes, ?water, ?association, ?chain⟩
    case ports => rfl
    case claims =>
      rw [State.records_claims]
      refine List.map_congr_left fun d _ => ?_
      simp only [encClaim]
      cases (s.mc.claims.get d).holder <;> rfl
    case limits => rfl
    case machine => rfl
    case roleMap =>
      simp only [State.records, encRole, encChannel_eq]
      rfl
    case scanList => rfl
    case scanControl =>
      simp only [State.records, encScanControl, Scanner.dataAge_eq, enc1, byte_toNat_self]
      cases s.scanner.hold <;> rfl
    case publishedSet =>
      refine List.map_congr_left fun x _ => ?_
      simp only [encPublished, enc1, byte_toNat_self]
      rfl
    case windows => rfl
    case assignments => rfl
    case pulse => rfl
    case profiles => rfl
    case zones =>
      refine List.map_congr_left fun i _ => ?_
      simp only [encZone]
      cases (s.selector.zones.get i).ownMask <;> rfl
    case zoneMask =>
      simp only [State.records, encZoneMask]
      cases s.selector.lastCode <;> rfl
    case changeQueue => rfl
    case budget =>
      refine List.map_congr_left fun c _ => ?_
      simp only [encBudgetRow]
      cases (s.budget.rows.get c).holdExpiry <;> rfl
    case coefficients =>
      simp only [State.records, encCoefficients]
      cases s.budget.lastReporter <;> rfl
    case travel =>
      simp only [State.records, encTravel, enc1, encFlag, List.append_assoc, List.cons_append, List.nil_append]
      cases s.governor.state <;> rfl
    case driveMap =>
      simp only [State.records, encDriveMap, encFlag, flagByte_valid]
    case implements =>
      rw [State.records_implements]
      refine congrArg₂ (· ++ ·) (List.map_congr_left fun x _ => ?_) (congrArg (fun y => [y]) ?_)
      · simp only [encArm, encArmSettings, enc1, encFault, List.append_assoc, List.cons_append, List.nil_append]
        cases (s.sequencer.arm x).position <;> cases (s.sequencer.arm x).fault <;> rfl
      · simp only [encMain, encArmSettings, enc1, encFault, BroomState.number, BroomCommand.number,
          List.append_assoc, List.cons_append, List.nil_append]
        cases s.sequencer.main.fault <;> rfl
    case outcomes =>
      rintro _ x (⟨rfl, rfl⟩ | ⟨rfl, rfl⟩)
      all_goals
        refine List.map_congr_left fun o _ => ?_
        simp only [encOutcome]
        cases o.abort <;> rfl
    case water => rfl
    case association => rfl
    case chain => rfl
  · simp only [WindowAction.idxOf_eq, Sense.idxOf_eq, Consumer.idxOf_eq, ArmsUsed.idxOf_eq, Association.idxOf_eq]
    exact ⟨fun _ => parseLimits_eq_some, fun _ => parseRoleMap_eq_some, fun _ => parseScanList_eq_some,
      fun _ => parseScanControl_eq_some, fun _ => parseWindows_eq_some, fun _ => parseAssignments_eq_some,
      fun _ => parsePulse_eq_some, fun _ => parseProfiles_eq_some, fun _ => parseZones_eq_some,
      fun _ => code24At_eq_some, fun _ => parseCoefficients_eq_some, fun _ => parseTravel_eq_some,
      fun _ => parseDriveMap_eq_some, fun _ => parseImplements_eq_some, fun _ => parseWater_eq_some,
      fun _ => Association.ofNumber_eq_some, fun i => ⟨rfl, rfl, rfl, rfl, rfl, rfl, rfl, rfl, rfl, rfl,
        parseRecord_budget i r, rfl, rfl, rfl, rfl, rfl, rfl⟩⟩

end

section
/-! Which block makes which offer, what the blocks hold of one another, and what taking an offer makes of it
(00 section 3.1). -/

namespace Sys2Proof.Machine

/-! ### The maker of an offer -/

/-- The blocks that make offers. -/
inductive Maker
  | modeController | scanner | monitor | pulse | selector | budget | governor | sequencer | water | chain
  deriving DecidableEq

/-- The block that makes an offer; none for the notices, which every block posts. -/
def Offer.maker : Offer → Option Maker
  | .post .. | .postTo .. => none
  | .scannerHalted | .scannerStart | .scannerRestart | .monitorRestart | .pulseStart | .pulseRestart | .selectorStart
  | .selectorRestart | .budgetMode _ | .budgetRestart | .governorMode _ | .governorStart | .sequencerMode _
  | .sequencerStart | .sequencerRestart | .waterMode _ | .waterStart | .waterRestart | .chainMode _ | .chainRestart
  | .holderChanged _ | .governorLimits _ | .sequencerLimits _ => some .modeController
  | .governorStale _ | .sequencerStale _ | .governorGrade _ | .sequencerMeasures .. | .waterTank _ => some .scanner
  | .budgetDerate _ | .waterCut _ | .sequencerLift _ | .governorStop _ | .haltOutput _ => some .monitor
  | .selectorPath .. | .waterPath .. | .governorMotor .. | .governorGround .. | .waterGround .. => some .pulse
  | .budgetStart _ | .budgetRanks _ | .governorCap _ | .sequencerProfile _ | .waterProfile .. => some .selector
  | .governorCoefficients .. | .sequencerCoefficients .. | .waterCoefficient _ | .governorGrant _
  | .sequencerGrants .. | .waterGrant _ => some .budget
  | .demand .travel _ | .liftForReverse _ => some .governor
  | .demand .main _ | .demand .armL _ | .demand .armR _ | .governorImplements _ | .waterImplements ..
  | .modeImplements .. | .chainLifts .. => some .sequencer
  | .demand .water _ | .chainWater .. => some .water
  | .sequencerLiftFailed .. | .waterFailed .. => some .chain

/-- Notices only. -/
def Notices (out : List Offer) : Prop := ∀ o ∈ out, o.maker = none

/-- Notices, and offers that one block makes. -/
def MadeBy (b : Maker) (out : List Offer) : Prop := ∀ o ∈ out, o.maker = none ∨ o.maker = some b

theorem Notices.nil : Notices [] := List.forall_mem_nil _

theorem Notices.post (k : NoticeKind) (n : Nat) (v : Int) : Notices [.post k n v] := by simp [Notices, Offer.maker]

theorem Notices.append {l m : List Offer} (hl : Notices l) (hm : Notices m) : Notices (l ++ m) := by
  intro o ho
  exact (List.mem_append.1 ho).elim (hl o) (hm o)

theorem Notices.madeBy {l : List Offer} (h : Notices l) (b : Maker) : MadeBy b l := fun o ho => .inl (h o ho)

theorem MadeBy.nil (b : Maker) : MadeBy b [] := List.forall_mem_nil _

theorem MadeBy.cons {b : Maker} {o : Offer} {l : List Offer} (ho : o.maker = none ∨ o.maker = some b)
    (hl : MadeBy b l) : MadeBy b (o :: l) := by
  rintro x (_ | ⟨_, hx⟩)
  · exact ho
  · exact hl x hx

theorem MadeBy.append {b : Maker} {l m : List Offer} (hl : MadeBy b l) (hm : MadeBy b m) : MadeBy b (l ++ m) := by
  intro o ho
  exact (List.mem_append.1 ho).elim (hl o) (hm o)

theorem MadeBy.offerIf {b : Maker} {o : Offer} (h : o.maker = none ∨ o.maker = some b) (c : Bool) :
    MadeBy b (offerIf c o) := by
  unfold Machine.offerIf
  split
  · exact .cons h (.nil b)
  · exact .nil b

/-! ### What the blocks hold of one another -/

/-- The implement sequencer's copies (09 R141) but for the published values. -/
structure SequencerCopies where
  mode           : Mode
  stale          : Bool
  liftArms       : Bool
  liftForReverse : Bool
  armsUsed       : ArmsUsed
  pressTarget    : Nat
  mainRpm        : Nat
  sideRpm        : Nat
  reachL         : Nat
  reachR         : Nat
  armPressMax    : Nat
  mainRpmMax     : Nat
  sideRpmMax     : Nat
  cm             : Nat
  cb             : Nat
  rowM           : GrantCopy
  rowL           : GrantCopy
  rowR           : GrantCopy
  failedL        : Bool
  failedR        : Bool
  failedM        : Bool

/-- The sequencer's copies as they stand in its records. -/
def Sequencer.copies (q : Sequencer) : SequencerCopies where
  mode := q.mode
  stale := q.stale
  liftArms := q.liftArms
  liftForReverse := q.liftForReverse
  armsUsed := q.armsUsed
  pressTarget := q.pressTarget
  mainRpm := q.mainRpm
  sideRpm := q.sideRpm
  reachL := q.left.reach
  reachR := q.right.reach
  armPressMax := q.armPressMax
  mainRpmMax := q.mainRpmMax
  sideRpmMax := q.sideRpmMax
  cm := q.cm
  cb := q.cb
  rowM := q.main.row
  rowL := q.left.row
  rowR := q.right.row
  failedL := q.left.liftFailed
  failedR := q.right.liftFailed
  failedM := q.main.liftFailed

/-- The copies of all blocks that `State.copiesAgree` speaks of, but for the modes of the budget table and the chain
driver and for the path counters, whose START and RESTART go their own ways. -/
structure Held where
  governor  : TravelCopies
  water     : WaterCopies
  sequencer : SequencerCopies
  derate    : Nat
  ranks     : Consumer → Nat
  haltTrip  : Bool
  armL      : ArmState
  armR      : ArmState
  main      : BroomState

/-- The governor's copies without the published grade. -/
def TravelCopies.offered (c : TravelCopies) : TravelCopies := { c with grade := none }

/-- The water controller's copies without the published level and the path. -/
def WaterCopies.offered (c : WaterCopies) : WaterCopies := { c with tankLevel := none, path := 0, advance := 0 }

/-- The copies as the blocks hold them. -/
def State.held (s : State) : Held where
  governor := s.governor.copies.offered
  water := s.water.copies.offered
  sequencer := s.sequencer.copies
  derate := s.budget.derate
  ranks := fun c => (s.budget.rows.get c).rank
  haltTrip := s.mc.haltTrip
  armL := s.mc.armL
  armR := s.mc.armR
  main := s.mc.main

/-- What taking an offer makes of the copies. -/
def Held.take (h : Held) : Offer → Held
  | .governorMode m => { h with governor := { h.governor with mode := m } }
  | .governorStart => { h with governor := { h.governor with mode := .transport } }
  | .sequencerMode m => { h with sequencer := { h.sequencer with mode := m } }
  | .sequencerStart => { h with sequencer := { h.sequencer with mode := .transport } }
  | .waterMode m => { h with water := { h.water with mode := m } }
  | .waterStart => { h with water := { h.water with mode := .transport } }
  | .governorLimits l =>
    { h with governor := { h.governor with fwdCap := l.fwdCap, revCap := l.revCap, transportCap := l.transportCap } }
  | .sequencerLimits l =>
    { h with sequencer := { h.sequencer with
        armPressMax := l.armPressMax, mainRpmMax := l.mainRpmMax, sideRpmMax := l.sideRpmMax } }
  | .governorStale b => { h with governor := { h.governor with stale := b } }
  | .sequencerStale b => { h with sequencer := { h.sequencer with stale := b } }
  | .budgetDerate n => { h with derate := n }
  | .waterCut b => { h with water := { h.water with cutWater := b } }
  | .sequencerLift b => { h with sequencer := { h.sequencer with liftArms := b } }
  | .governorStop b => { h with governor := { h.governor with stopTravel := b } }
  | .haltOutput b => { h with haltTrip := b }
  | .governorMotor n d g s _ =>
    { h with governor := { h.governor with motorSpeed := n, direction := d, groundSpeed := g, slip := s } }
  | .governorGround x g s => { h with governor := { h.governor with ground := x, groundSpeed := g, slip := s } }
  | .waterGround x g => { h with water := { h.water with ground := x, groundSpeed := g } }
  | .budgetRanks l | .budgetStart l => { h with ranks := rankIn l }
  | .governorCap n => { h with governor := { h.governor with speedCap := n } }
  | .sequencerProfile r =>
    { h with sequencer := { h.sequencer with
        reachL := r.reachL, reachR := r.reachR, pressTarget := r.pressTarget, mainRpm := r.mainRpm,
        sideRpm := r.sideRpm, armsUsed := r.armsUsed } }
  | .waterProfile x n => { h with water := { h.water with groups := x, dose := n } }
  | .governorCoefficients t g => { h with governor := { h.governor with ct := t, cg := g } }
  | .sequencerCoefficients m b => { h with sequencer := { h.sequencer with cm := m, cb := b } }
  | .waterCoefficient w => { h with water := { h.water with cw := w } }
  | .governorGrant g => { h with governor := { h.governor with grant := g.grant } }
  | .sequencerGrants m l r => { h with sequencer := { h.sequencer with rowM := m, rowL := l, rowR := r } }
  | .waterGrant g => { h with water := { h.water with row := g } }
  | .liftForReverse b => { h with sequencer := { h.sequencer with liftForReverse := b } }
  | .governorImplements r => { h with governor := { h.governor with implements := r } }
  | .waterImplements l r m => { h with water := { h.water with armL := l, armR := r, main := m } }
  | .modeImplements l r m => { h with armL := l, armR := r, main := m }
  | .sequencerLiftFailed l r m => { h with sequencer := { h.sequencer with failedL := l, failedR := r, failedM := m } }
  | .waterFailed x b => { h with water := { h.water with failed := x, primeFailed := b } }
  | .post .. | .postTo .. | .scannerHalted | .scannerStart | .scannerRestart | .monitorRestart | .pulseStart
  | .pulseRestart | .selectorStart | .selectorRestart | .budgetMode _ | .budgetRestart | .sequencerRestart
  | .waterRestart | .chainMode _ | .chainRestart | .holderChanged _ | .governorGrade _ | .sequencerMeasures ..
  | .waterTank _ | .selectorPath .. | .waterPath .. | .demand .. | .chainLifts .. | .chainWater .. => h

/-- The copies once a list of offers has been taken. -/
def Held.takeAll (h : Held) (out : List Offer) : Held := out.foldl Held.take h

@[simp] theorem Held.takeAll_nil (h : Held) : h.takeAll [] = h := rfl
@[simp] theorem Held.takeAll_cons (h : Held) (o : Offer) (l : List Offer) :
    h.takeAll (o :: l) = (h.take o).takeAll l := rfl
@[simp] theorem Held.takeAll_append (h : Held) (l m : List Offer) : h.takeAll (l ++ m) = (h.takeAll l).takeAll m :=
  List.foldl_append

theorem Held.takeAll_offerIf (h : Held) (c : Bool) (o : Offer) :
    h.takeAll (offerIf c o) = if c then h.take o else h := by
  cases c <;> rfl

/-- Notices change no copy. -/
theorem Held.take_of_notice {o : Offer} (ho : o.maker = none) (h : Held) : h.take o = h := by
  cases o
  case post | postTo | demand => rfl
  all_goals cases ho

theorem Held.takeAll_of_notices {l : List Offer} (hl : Notices l) (h : Held) : h.takeAll l = h := by
  induction l with
  | nil => rfl
  | cons o l ih =>
    rw [Held.takeAll_cons, Held.take_of_notice (hl o List.mem_cons_self)]
    exact ih fun x hx => hl x (List.mem_cons_of_mem _ hx)

/-! ### What the owners have to say -/

/-- The mode and the limits, as the mode controller tells them. -/
def ModeController.tells (c : ModeController) (h : Held) : Held :=
  { h with
    governor := { h.governor with
      mode := c.mode, fwdCap := c.limits.fwdCap, revCap := c.limits.revCap, transportCap := c.limits.transportCap }
    sequencer := { h.sequencer with
      mode := c.mode, armPressMax := c.limits.armPressMax, mainRpmMax := c.limits.mainRpmMax,
      sideRpmMax := c.limits.sideRpmMax }
    water := { h.water with mode := c.mode } }

/-- The stale flag, as the scanner tells it. -/
def Scanner.tells (c : Scanner) (h : Held) : Held :=
  { h with
    governor := { h.governor with stale := c.stale }
    sequencer := { h.sequencer with stale := c.stale } }

/-- The trip outputs, as the window monitor tells them. -/
def Monitor.tells (m : Monitor) (h : Held) : Held :=
  { h with
    derate := m.outputs.derate
    water := { h.water with cutWater := m.outputs.cutWater }
    sequencer := { h.sequencer with liftArms := m.outputs.liftArms }
    governor := { h.governor with stopTravel := m.outputs.stopTravel }
    haltTrip := m.outputs.halt }

/-- Speeds, direction, slip ratio and ground status, as the pulse unit tells them. -/
def Pulse.tells (u : Pulse) (h : Held) : Held :=
  { h with
    governor := { h.governor with
      motorSpeed := u.motorSpeed, direction := u.direction, groundSpeed := u.groundSpeed, slip := u.slip,
      ground := u.status }
    water := { h.water with ground := u.status, groundSpeed := u.groundSpeed } }

/-- A profile row, as the profile selector tells it. -/
def Profile.tells (r : Profile) (h : Held) : Held :=
  { h with
    governor := { h.governor with speedCap := r.speedCap }
    sequencer := { h.sequencer with
      reachL := r.reachL, reachR := r.reachR, pressTarget := r.pressTarget, mainRpm := r.mainRpm,
      sideRpm := r.sideRpm, armsUsed := r.armsUsed }
    water := { h.water with groups := r.groups, dose := r.dose }
    ranks := rankIn r.shedOrder }

/-- The coefficients and the rows, as the budget table tells them. -/
def Budget.tells (b : Budget) (h : Held) : Held :=
  { h with
    governor := { h.governor with
      ct := b.coefficients.ct, cg := b.coefficients.cg, grant := b.rows.travel.copy.grant }
    sequencer := { h.sequencer with
      cm := b.coefficients.cm, cb := b.coefficients.cb, rowM := b.rows.main.copy, rowL := b.rows.armL.copy,
      rowR := b.rows.armR.copy }
    water := { h.water with cw := b.coefficients.cw, row := b.rows.water.copy } }

/-- Lift-for-reverse, as the travel governor tells it. -/
def Governor.tells (g : Governor) (h : Held) : Held :=
  { h with sequencer := { h.sequencer with liftForReverse := g.liftForReverse } }

/-- The implement states, as the implement sequencer tells them. -/
def Sequencer.tells (q : Sequencer) (h : Held) : Held :=
  { h with
    governor := { h.governor with implements := q.report }
    water := { h.water with armL := q.left.state, armR := q.right.state, main := q.main.state }
    armL := q.left.state
    armR := q.right.state
    main := q.main.state }

/-- The failed positions, as the chain driver tells them. -/
def Chain.tells (c : Chain) (h : Held) : Held :=
  { h with
    sequencer := { h.sequencer with
      failedL := c.failed.getLsbD 12, failedR := c.failed.getLsbD 13, failedM := c.failed.getLsbD 14 }
    water := { h.water with failed := nozzlesOf c.failed, primeFailed := c.failed.getLsbD 15 } }

/-- The copies as their owners would have them; of the base nothing stays but the absent published values. -/
def State.told (s : State) : Held :=
  s.mc.tells (s.scanner.tells (s.monitor.tells (s.pulse.tells (s.selector.activeRow.tells (s.budget.tells
    (s.governor.tells (s.sequencer.tells (s.chain.tells State.reset.held))))))))

end Sys2Proof.Machine
end

section
/-! What the events of the travel governor, the budget table and the water controller leave of their own records, and
what they offer. -/

namespace Sys2Proof.Machine

/-! ### Travel governor -/

/-- What no event of the governor's own changes: settings, drive map, request, lease, ramp timer and copies. -/
def Governor.still (g : Governor) :
    TravelSettings × DriveMap × Int × Option Time × Option Time × TravelCopies :=
  (g.settings, g.map, g.request, g.leaseExpiry, g.rampTimer, g.copies)

/-- An event of the governor that began at `old` and ends as `e`: it keeps what is still, offers what a governor offers,
and tells lift-for-reverse when it changes. -/
structure Governor.Runs (old : Governor) (e : Emit Governor) : Prop where
  still : e.val.still = old.still
  made : MadeBy .governor e.out
  tells : ∀ h, (old.tells h).takeAll e.out = e.val.tells h

theorem Governor.Runs.pure {old g : Governor} (hs : g.still = old.still)
    (hl : g.liftForReverse = old.liftForReverse) : old.Runs (.pure g) :=
  ⟨hs, .nil _, fun h => by simp [Governor.tells, hl]⟩

theorem Governor.Runs.andThen {old : Governor} {e : Emit Governor} {f : Governor → Emit Governor} (h : old.Runs e)
    (hf : e.val.Runs (f e.val)) : old.Runs (e.andThen f) :=
  ⟨hf.still.trans h.still, h.made.append hf.made, fun x => by simp [h.tells, hf.tells]⟩

/-- Notices before an event's own offers. -/
theorem Governor.Runs.notices {old : Governor} {e : Emit Governor} {l : List Offer} (hl : Notices l) (h : old.Runs e) :
    old.Runs ⟨e.val, l ++ e.out⟩ :=
  ⟨h.still, (hl.madeBy _).append h.made, fun x => by simp [Held.takeAll_of_notices hl, h.tells]⟩

/-- A change of the record before the event that neither changes what is still nor lift-for-reverse. -/
theorem Governor.Runs.of {old g : Governor} {e : Emit Governor} (h : g.Runs e) (hs : g.still = old.still)
    (hl : g.liftForReverse = old.liftForReverse) : old.Runs e :=
  ⟨h.still.trans hs, h.made, fun x => by rw [← h.tells]; simp [Governor.tells, hl]⟩

theorem Governor.startLiftWait_kept (g : Governor) (now : Time) :
    (g.startLiftWait now).still = g.still ∧ (g.startLiftWait now).liftForReverse = g.liftForReverse := by
  unfold Governor.startLiftWait
  split
  · split <;> exact ⟨rfl, rfl⟩
  · exact ⟨rfl, rfl⟩

theorem Governor.cut_kept (g : Governor) (now : Time) :
    (g.cut now).still = g.still ∧ (g.cut now).liftForReverse = g.liftForReverse := by
  unfold Governor.cut
  split
  · exact Governor.startLiftWait_kept _ now
  · exact ⟨rfl, rfl⟩

theorem Governor.runs_rederive (g : Governor) (now : Time) : g.Runs (g.rederive now) := by
  obtain ⟨hs, hl⟩ := g.takeCeiling.cut_kept now
  refine ⟨hs, .offerIf (.inr rfl) _, fun h => ?_⟩
  show (g.tells h).takeAll (offerIf _ _) = { h with sequencer := { h.sequencer with liftForReverse := _ } }
  rw [Held.takeAll_offerIf, show (g.rederive now).val.liftForReverse = g.liftForReverse from hl]
  exact ite_self _

theorem Governor.Runs.rederive {old : Governor} {e : Emit Governor} (h : old.Runs e) (now : Time) :
    old.Runs (e.andThen fun g => g.rederive now) :=
  h.andThen (Governor.runs_rederive _ now)

theorem Governor.runs_enter (g : Governor) (st : GovernorState) : g.Runs (g.enter st) := .pure rfl rfl

theorem Governor.runs_holdReverse (g : Governor) (now : Time) : g.Runs (g.holdReverse now) := by
  have hk := Governor.startLiftWait_kept
    { g with state := .directionHold .reverse, liftForReverse := true, liftWait := none } now
  refine ⟨hk.1, .offerIf (.inr rfl) _, fun h => ?_⟩
  show (g.tells h).takeAll (offerIf _ _) = { h with sequencer := { h.sequencer with liftForReverse := _ } }
  rw [Held.takeAll_offerIf, show (g.holdReverse now).val.liftForReverse = true from hk.2]
  cases hg : g.liftForReverse <;> simp [Governor.tells, Held.take, hg]

theorem Governor.runs_takeSign (g : Governor) (now : Time) (i : Int) : g.Runs (g.takeSign now i) := by
  unfold Governor.takeSign
  repeat' split
  all_goals first | exact .pure rfl rfl | exact g.runs_enter _ | exact g.runs_holdReverse now

/-- A new request: but for the request and the latch nothing that is still changes. -/
theorem Governor.runs_newRequest (g : Governor) (now : Time) (r : Int) :
    { g with request := r }.Runs (g.newRequest now r) := by
  unfold Governor.newRequest
  exact ((Governor.runs_takeSign _ now _).rederive now).of rfl rfl

theorem Governor.beginTest_kept (g : Governor) :
    g.beginTest.still = g.still ∧ g.beginTest.liftForReverse = g.liftForReverse := by
  unfold Governor.beginTest
  repeat' split
  all_goals exact ⟨rfl, rfl⟩

theorem Governor.runs_beginTest (g : Governor) : g.Runs (.pure g.beginTest) :=
  .pure g.beginTest_kept.1 g.beginTest_kept.2

theorem Governor.runs_blockReverse (g : Governor) (n : Nat) : g.Runs (g.blockReverse n) :=
  ⟨rfl, (Notices.post _ _ _).madeBy _, fun _ => rfl⟩

theorem Governor.runs_judge (g : Governor) (w : SlipWindow) : g.Runs (g.judge w) := by
  unfold Governor.judge
  split
  · exact ⟨rfl, (Notices.post _ _ _).madeBy _, fun _ => rfl⟩
  · split
    · refine ⟨rfl, ?_, fun h => ?_⟩
      · dsimp only
        split
        · exact (Notices.post _ _ _).madeBy _
        · exact .nil _
      · dsimp only
        split <;> rfl
    · exact .pure rfl rfl

theorem Governor.runs_slipWindowEnd (g : Governor) (now : Time) : g.Runs (g.slipWindowEnd now) := by
  unfold Governor.slipWindowEnd
  split
  · dsimp only
    split
    · exact (Governor.runs_judge _ _).of rfl rfl
    · exact .pure rfl rfl
  · split <;> exact .pure rfl rfl

/-- Copies are replaced and everything is re-derived. -/
theorem Governor.runs_takeCopies (g : Governor) (now : Time) (c : TravelCopies) :
    { g with copies := c }.Runs (g.takeCopies now c) :=
  Governor.runs_rederive _ now

theorem Governor.runs_takeMotor (g : Governor) (now : Time) (n : Nat) (d : Direction) (j k : Nat) (w : Bool) :
    { g with copies := { g.copies with motorSpeed := n, direction := d, groundSpeed := j, slip := k } }.Runs
      (g.takeMotor now n d j k w) := by
  refine (Governor.Runs.andThen ?_ (Governor.runs_beginTest _)).rederive now
  split
  · exact Governor.runs_slipWindowEnd _ now
  · exact .pure rfl rfl

theorem Governor.runs_takeGround (g : Governor) (now : Time) (x : GroundStatus) (j k : Nat) :
    { g with copies := { g.copies with ground := x, groundSpeed := j, slip := k } }.Runs (g.takeGround now x j k) := by
  cases x <;> exact (Governor.runs_rederive _ now).of rfl rfl

theorem Governor.runs_takeImplements (g : Governor) (now : Time) (r : ImplementReport) :
    { g with copies := { g.copies with implements := r } }.Runs (g.takeImplements now r) := by
  refine ((g.runs_takeCopies now _).andThen ?_).rederive now
  split
  · exact Governor.runs_blockReverse _ 1
  · exact Governor.runs_beginTest _

/-- The entry of 08 R137: request, lease and ramp timer are cleared, lift-for-reverse too. -/
theorem Governor.runs_halt (g : Governor) (now : Time) (m : Mode) :
    (g.halt now m).val.still = (g.settings, g.map, 0, none, none, { g.copies with mode := m }) ∧
      MadeBy .governor (g.halt now m).out ∧
      ∀ h, (g.tells h).takeAll (g.halt now m).out = (g.halt now m).val.tells h := by
  have hr := Governor.runs_rederive
    { g with
      copies := { g.copies with mode := m }
      command := 0, target := 0, driveFwd := 0, driveRev := 0
      request := 0, leaseExpiry := none, reverseBlocked := false
      state := .standstill, liftWait := none, liftForReverse := false
      cutLevel := 0, slipWindow := none, slipArmed := false, rampTimer := none } now
  have hn : Notices (if g.cutLevel = 0 then [] else [.post .tractionRestored 0 0]) := by
    split
    · exact .nil
    · exact .post _ _ _
  refine ⟨hr.still, ((MadeBy.offerIf (.inr rfl) _).append (hn.madeBy _)).append hr.made, fun h => ?_⟩
  show (g.tells h).takeAll ((offerIf _ _ ++ _) ++ _) = _
  rw [Held.takeAll_append, Held.takeAll_append, Held.takeAll_of_notices hn, Held.takeAll_offerIf]
  refine Eq.trans ?_ (hr.tells h)
  congr 1
  cases hg : g.liftForReverse <;> simp [Governor.tells, Held.take, hg]

theorem Governor.runs_takeMode_of_working (g : Governor) (now : Time) {m : Mode} (hm : m.working = true) :
    { g with copies := { g.copies with mode := m } }.Runs (g.takeMode now m) := by
  rw [show g.takeMode now m = g.takeCopies now { g.copies with mode := m } from if_pos hm]
  exact g.runs_takeCopies now _

theorem Governor.takeMode_of_not_working (g : Governor) (now : Time) {m : Mode} (hm : m.working = false) :
    g.takeMode now m = g.halt now m := by
  simp [Governor.takeMode, hm]

/-- The mode taken: it stands in the copies, and the offers are a governor's. -/
theorem Governor.takeMode_told (g : Governor) (now : Time) (m : Mode) :
    (g.takeMode now m).val.copies = { g.copies with mode := m } ∧ MadeBy .governor (g.takeMode now m).out ∧
      ∀ h, (g.tells h).takeAll (g.takeMode now m).out = (g.takeMode now m).val.tells h := by
  cases hm : m.working with
  | true =>
    have hr := g.runs_takeMode_of_working now hm
    exact ⟨congrArg (·.2.2.2.2.2) hr.still, hr.made, hr.tells⟩
  | false =>
    rw [g.takeMode_of_not_working now hm]
    obtain ⟨hs, hmade, ht⟩ := g.runs_halt now m
    exact ⟨congrArg (·.2.2.2.2.2) hs, hmade, ht⟩

theorem Governor.runs_start (g : Governor) (now : Time) :
    { g with copies := { g.copies with mode := .transport }, rampTimer := some (after now rampInterval) }.Runs
      (g.start now) :=
  (Governor.runs_rederive _ now).of rfl rfl

theorem Governor.runs_holderChanged (g : Governor) (now : Time) :
    { g with request := 0, leaseExpiry := none }.Runs (g.holderChanged now) :=
  Governor.runs_newRequest { g with leaseExpiry := none } now 0

/-- An accepted TRAVEL changes request and lease. -/
theorem Governor.runs_travel (g : Governor) (now : Time) (r : Int) :
    { g with request := r, leaseExpiry := some (after now g.settings.lease) }.Runs (g.travel now r) := by
  unfold Governor.travel
  dsimp only
  split
  · rename_i h
    exact .pure (by simp [Governor.still, h]) rfl
  · exact Governor.runs_newRequest { g with leaseExpiry := some (after now g.settings.lease) } now r

theorem Governor.leaseEnds_told (g : Governor) (now : Time) (p : Option Port) :
    (g.leaseEnds now p).val.copies = g.copies ∧ MadeBy .governor (g.leaseEnds now p).out ∧
      ∀ h, (g.tells h).takeAll (g.leaseEnds now p).out = (g.leaseEnds now p).val.tells h := by
  unfold Governor.leaseEnds
  split
  · have hr := (Governor.runs_newRequest { g with leaseExpiry := none } now 0).notices
      (Notices.post .leaseExpired (p.elim 0 portNumber) g.request)
    exact ⟨congrArg (·.2.2.2.2.2) hr.still, hr.made, hr.tells⟩
  · exact ⟨rfl, .nil _, fun _ => rfl⟩

theorem Governor.runs_liftWaitExpiry (g : Governor) (now : Time) : g.Runs (g.liftWaitExpiry now) := by
  unfold Governor.liftWaitExpiry
  split
  · split
    · exact (g.runs_blockReverse 0).rederive now
    · exact .pure rfl rfl
  all_goals exact .pure rfl rfl

theorem Governor.moveCommand_kept (g : Governor) :
    g.moveCommand.still = g.still ∧ g.moveCommand.liftForReverse = g.liftForReverse := by
  unfold Governor.moveCommand
  dsimp only
  repeat' split
  all_goals exact ⟨rfl, rfl⟩

theorem Governor.atRest_kept (g : Governor) (now : Time) :
    (g.atRest now).still = g.still ∧ (g.atRest now).liftForReverse = g.liftForReverse := by
  unfold Governor.atRest
  split
  · split
    · exact ⟨rfl, rfl⟩
    · obtain ⟨hs, hl⟩ := (g.startLiftWait now).beginTest_kept
      obtain ⟨ks, kl⟩ := g.startLiftWait_kept now
      exact ⟨hs.trans ks, hl.trans kl⟩
    all_goals exact ⟨rfl, rfl⟩
  · exact ⟨rfl, rfl⟩

theorem Governor.runs_clearLift (g : Governor) : g.Runs g.clearLift := by
  unfold Governor.clearLift
  split
  · exact ⟨rfl, .cons (.inr rfl) (.nil _), fun _ => rfl⟩
  · exact .pure rfl rfl

/-- A ramp step sets its timer afresh. -/
theorem Governor.runs_rampStep (g : Governor) (now : Time) :
    ∃ x, { g with rampTimer := x }.Runs (g.rampStep now) := by
  unfold Governor.rampStep
  split
  · exact ⟨_, .pure rfl rfl⟩
  · split
    · obtain ⟨ms, ml⟩ := Governor.moveCommand_kept { g with rampTimer := some (after _ rampInterval) }
      obtain ⟨rs, rl⟩ := Governor.atRest_kept (Governor.setCoils (Governor.moveCommand
        { g with rampTimer := some (after _ rampInterval) })) now
      exact ⟨_, ((Governor.runs_clearLift _).of (rs.trans ms) (rl.trans ml)).rederive now⟩
    · exact ⟨_, .pure rfl rfl⟩

/-! ### Water controller -/

/-- What no re-evaluation changes: settings, associations, enable, exclusion set, sprayed path, wet-until time when no
spray ends, and copies. -/
def Water.still (w : Water) :
    WaterSettings × Vector Association 12 × Bool × GroupSet × Nat × WaterCopies :=
  (w.settings, w.associations, w.enable, w.exclusion, w.sprayed, w.copies)

/-- An event of the water controller that began with the record `w` and ends as `e`. -/
structure Water.Runs (w : Water) (e : Emit Water) : Prop where
  still : e.val.still = w.still
  made : MadeBy .water e.out

theorem Water.Runs.pure {w v : Water} (h : v.still = w.still) : w.Runs (.pure v) := ⟨h, .nil _⟩

theorem Water.Runs.andThen {w : Water} {e : Emit Water} {f : Water → Emit Water} (h : w.Runs e)
    (hf : e.val.Runs (f e.val)) : w.Runs (e.andThen f) :=
  ⟨hf.still.trans h.still, h.made.append hf.made⟩

theorem Water.Runs.of {v w : Water} {e : Emit Water} (h : v.Runs e) (hs : v.still = w.still) : w.Runs e :=
  ⟨h.still.trans hs, h.made⟩

theorem Water.runs_finish (old w : Water) : w.Runs (old.finish w) :=
  ⟨rfl, .append (.offerIf (.inr rfl) _) (.offerIf (.inr rfl) _)⟩

theorem Water.still_transit (w : Water) (now : Time) : (w.transit now).still = w.still := by
  unfold Water.transit Water.offOrPrime
  repeat' split
  all_goals rfl

theorem Water.runs_reevaluate (old w : Water) (now : Time) : w.Runs (old.reevaluate w now) :=
  (old.runs_finish _).of (w.takeDuties.still_transit now)

theorem Water.runs_takeCopies (w : Water) (now : Time) (c : WaterCopies) :
    { w with copies := c }.Runs (w.takeCopies now c) :=
  w.runs_reevaluate _ now

theorem Water.runs_latch (w : Water) (l : Option Int) : w.Runs (w.latch l) := by
  unfold Water.latch
  split
  · exact .pure rfl
  · split
    · exact ⟨rfl, (Notices.post _ _ _).madeBy _⟩
    · split
      · exact ⟨rfl, (Notices.post _ _ _).madeBy _⟩
      · exact .pure rfl

theorem Water.runs_takeTank (w : Water) (now : Time) (l : Option Int) :
    { w with copies := { w.copies with tankLevel := l } }.Runs (w.takeTank now l) := by
  have hl := w.runs_latch l
  have hr := w.runs_reevaluate
    { (w.latch l).val with copies := { (w.latch l).val.copies with tankLevel := l } } now
  refine ⟨?_, hl.made.append hr.made⟩
  have hs := hl.still
  simp only [Water.still, Prod.mk.injEq] at hs
  obtain ⟨h1, h2, h3, h4, h5, h6⟩ := hs
  exact hr.still.trans (by simp only [Water.still, h1, h2, h3, h4, h5, h6])

theorem Water.runs_autoCutTest (w : Water) : w.Runs w.autoCutTest := by
  unfold Water.autoCutTest
  dsimp only
  split
  · exact ⟨rfl, (Notices.post _ _ _).madeBy _⟩
  · exact .pure rfl

theorem Water.runs_autoCutEnds (w : Water) : w.Runs w.autoCutEnds := by
  unfold Water.autoCutEnds
  split
  · exact ⟨rfl, (Notices.post _ _ _).madeBy _⟩
  · exact .pure rfl

theorem Water.runs_takeGround (w : Water) (now : Time) (x : GroundStatus) (n : Nat) :
    { w with copies := { w.copies with ground := x, groundSpeed := n } }.Runs (w.takeGround now x n) := by
  unfold Water.takeGround
  dsimp only
  split
  · have ha := w.runs_autoCutTest
    have hr := w.runs_reevaluate { w.autoCutTest.val with
      copies := { w.copies with ground := .lost, groundSpeed := n } } now
    refine ⟨hr.still.trans ?_, ha.made.append hr.made⟩
    have hs := ha.still
    simp only [Water.still, Prod.mk.injEq] at hs
    obtain ⟨h1, h2, h3, h4, h5, -⟩ := hs
    simp only [Water.still, h1, h2, h3, h4, h5]
  · exact (w.runs_takeCopies now _).andThen (Water.runs_autoCutEnds _)
  all_goals exact w.runs_takeCopies now _

theorem Water.runs_primeExpiry (w : Water) (now : Time) : w.Runs (w.primeExpiry now) := by
  unfold Water.primeExpiry
  split
  · refine (w.runs_finish _).of ?_
    split <;> rfl
  · exact .pure rfl

end Sys2Proof.Machine
end

section
/-! What the events of the budget table, the window monitor, the scanner, the pulse unit, the profile selector and the
chain driver leave of their own records, and what they offer. -/

namespace Sys2Proof.Machine

/-! ### Budget table -/

/-- What no recompute changes: the standing record, mode, derate, and offered demand, demand and rank of each row. -/
def Budget.still (b : Budget) :
    (Coefficients × Nat × ReserveSource × Option Port × Option Time × List Nat) × Mode × Nat ×
      (Consumer → Nat × Nat × Nat) :=
  (b.record, b.mode, b.derate, fun c => ((b.rows.get c).offered, (b.rows.get c).demand, (b.rows.get c).rank))

/-- An event of the budget table that began with the rows `old`, comes to the record `b` before its recompute and ends
as `e`: the recompute keeps what is still, and tells the rows whose grant or state differs from `old`. -/
structure Budget.Runs (old : BudgetRows) (b : Budget) (e : Emit Budget) : Prop where
  still : e.val.still = b.still
  made : MadeBy .budget e.out
  tells : ∀ h, ({ b with rows := old }.tells h).takeAll e.out = e.val.tells h

/-- The grants and states of the rows, as they are told. -/
def BudgetRows.copies (r : BudgetRows) : GrantCopy × GrantCopy × GrantCopy × GrantCopy × GrantCopy :=
  (r.travel.copy, r.main.copy, r.armL.copy, r.armR.copy, r.water.copy)

theorem Budget.tells_congr {b : Budget} {old : BudgetRows} (h : old.copies = b.rows.copies) (x : Held) :
    { b with rows := old }.tells x = b.tells x := by
  simp only [BudgetRows.copies, Prod.mk.injEq] at h
  simp only [Budget.tells, h]

theorem Budget.Runs.pure {b : Budget} {old : BudgetRows} (h : old.copies = b.rows.copies) :
    Budget.Runs old b (.pure b) :=
  ⟨rfl, .nil _, fun x => Budget.tells_congr h x⟩

/-- Only the grants and states of the rows at the beginning matter. -/
theorem Budget.Runs.from {b : Budget} {old rows : BudgetRows} {e : Emit Budget} (h : Budget.Runs rows b e)
    (hc : old.copies = rows.copies) : Budget.Runs old b e :=
  ⟨h.still, h.made, fun x => (congrArg (Held.takeAll · e.out)
    (Budget.tells_congr (b := { b with rows := rows }) hc x)).trans (h.tells x)⟩

theorem BudgetRows.notices_walk (k : Coefficients) (now : Time) (cs : List Consumer) (p : Nat) (rows : BudgetRows) :
    Notices (BudgetRows.walk k now cs p rows).out := by
  induction cs generalizing p rows with
  | nil => exact .nil
  | cons c cs ih =>
    refine Notices.append ?_ (ih _ _)
    unfold rowNotice
    split
    · exact .post _ _ _
    · exact .post _ _ _
    · exact .post _ _ _
    · exact .nil

theorem madeBy_grantOffers (old new : BudgetRows) : MadeBy .budget (grantOffers old new) :=
  .append (.append (.offerIf (.inr rfl) _) (.offerIf (.inr rfl) _)) (.offerIf (.inr rfl) _)

/-- The grant offers tell every row that has changed. -/
theorem Budget.tells_grantOffers (b : Budget) (old new : BudgetRows) (h : Held) :
    ({ b with rows := old }.tells h).takeAll (grantOffers old new) = { b with rows := new }.tells h := by
  unfold grantOffers
  rw [Held.takeAll_append, Held.takeAll_append, Held.takeAll_offerIf, Held.takeAll_offerIf, Held.takeAll_offerIf]
  by_cases ht : new.travel.copy = old.travel.copy <;>
  by_cases hw : new.water.copy = old.water.copy <;>
  by_cases hm : new.main.copy = old.main.copy ∧ new.armL.copy = old.armL.copy ∧ new.armR.copy = old.armR.copy
  all_goals
    by_cases h1 : new.main.copy = old.main.copy <;> by_cases h2 : new.armL.copy = old.armL.copy <;>
    by_cases h3 : new.armR.copy = old.armR.copy <;>
    simp_all [Budget.tells, Held.take]

theorem Budget.runs_recomputeFrom (b : Budget) (old : BudgetRows) (now : Time) :
    Budget.Runs old b (b.recomputeFrom old now) := by
  have hw := BudgetRows.notices_walk b.coefficients now b.rows.order b.ceiling b.rows
  have hk := BudgetRows.walk_kept b.coefficients now b.rows.order b.ceiling b.rows
  refine ⟨?_, (hw.madeBy _).append (madeBy_grantOffers _ _), fun h => ?_⟩
  · refine Prod.ext (b.record_recomputeFrom old now) (Prod.ext rfl (Prod.ext rfl (funext fun c => ?_)))
    obtain ⟨ho, hd, hr, -⟩ := hk c
    exact Prod.ext ho (Prod.ext hd hr)
  · show Held.takeAll _ (_ ++ grantOffers old _) = _
    rw [Held.takeAll_append, Held.takeAll_of_notices hw]
    exact b.tells_grantOffers old _ h

theorem Budget.runs_recompute (b : Budget) (now : Time) : Budget.Runs b.rows b (b.recompute now) :=
  b.runs_recomputeFrom b.rows now

/-- The ceiling is no part of what is still or told. -/
theorem Budget.runs_rederive (b : Budget) (now : Time) : Budget.Runs b.rows b (b.rederive now) := by
  unfold Budget.rederive
  dsimp only
  split
  · exact .pure rfl
  · obtain ⟨hs, hm, ht⟩ := Budget.runs_recompute { b with ceiling := b.reserve - b.derate } now
    exact ⟨hs, hm, ht⟩

theorem Budget.runs_takeDerate (b : Budget) (now : Time) (n : Nat) :
    Budget.Runs b.rows { b with derate := n } (b.takeDerate now n) :=
  Budget.runs_rederive { b with derate := n } now

/-- The record with a demand offered. -/
def Budget.offered (b : Budget) (c : Consumer) (n : Nat) : Budget :=
  { b with rows := b.rows.set c { b.rows.get c with offered := n, demand := demandIn b.mode c n } }

theorem Budget.runs_takeDemand (b : Budget) (now : Time) (c : Consumer) (n : Nat) :
    Budget.Runs b.rows (b.offered c n) (b.takeDemand now c n) := by
  have hc : b.rows.copies = (b.offered c n).rows.copies := by cases c <;> rfl
  unfold Budget.takeDemand
  dsimp only
  split
  · exact .pure hc
  · exact ((b.offered c n).runs_recompute now).from hc

theorem Budget.runs_takeMode (b : Budget) (now : Time) (m : Mode) :
    Budget.Runs b.rows { b with mode := m, rows := b.rows.forMode m } (b.takeMode now m) := by
  unfold Budget.takeMode
  dsimp only
  split
  · exact .pure rfl
  · exact (Budget.runs_recompute _ now).from rfl

theorem Budget.runs_takeRanks (b : Budget) (now : Time) (l : List Consumer) :
    Budget.Runs b.rows { b with rows := b.rows.ranked l } (b.takeRanks now l) := by
  unfold Budget.takeRanks
  dsimp only
  split
  · rename_i h
    rw [h]
    exact .pure rfl
  · exact (Budget.runs_recompute _ now).from rfl

theorem Budget.runs_start (b : Budget) (now : Time) (l : List Consumer) :
    Budget.Runs b.rows { b with mode := .transport, rows := (b.rows.forMode .transport).ranked l } (b.start now l) :=
  (Budget.runs_recompute _ now).from rfl

/-- The rows cleared at RESTART. -/
def BudgetRows.cleared (r : BudgetRows) : BudgetRows :=
  ⟨r.travel.clear, r.main.clear, r.armL.clear, r.armR.clear, r.water.clear⟩

theorem Budget.runs_restart (b : Budget) (now : Time) :
    Budget.Runs b.rows { b with rows := b.rows.cleared } (b.restart now) :=
  Budget.runs_recomputeFrom _ b.rows now

/-- An event whose recompute has begun with other standing records or notices before it. -/
theorem Budget.Runs.notices {b : Budget} {old : BudgetRows} {e : Emit Budget} (h : Budget.Runs old b e)
    {l : List Offer} (hl : Notices l) : Budget.Runs old b ⟨e.val, l ++ e.out⟩ :=
  ⟨h.still, (hl.madeBy _).append h.made, fun x => by simp [Held.takeAll_of_notices hl, h.tells]⟩

theorem Budget.runs_report (b : Budget) (now : Time) (p : Port) (n : Nat) :
    Budget.Runs b.rows
      { b with reserve := n, source := .reported, lastReporter := some p, leaseExpiry := some (after now reserveLease) }
      (b.report now p n) := by
  refine (Budget.runs_rederive { b with
    reserve := n, source := .reported, lastReporter := some p, leaseExpiry := some (after now reserveLease) }
    now).notices ?_
  split
  · exact .post _ _ _
  · exact .nil

/-- The end of the reserve lease, if it is due. -/
theorem Budget.runs_leaseEnds (b : Budget) (now : Time) :
    ∃ c : Budget, c.coefficients = b.coefficients ∧ c.mode = b.mode ∧ c.derate = b.derate ∧ c.rows = b.rows ∧
      Budget.Runs b.rows c (b.leaseEnds now) := by
  unfold Budget.leaseEnds
  split
  · have hr := Budget.runs_rederive
      { b with reserve := b.coefficients.fallback, source := .fallback, leaseExpiry := none } now
    exact ⟨{ b with reserve := b.coefficients.fallback, source := .fallback, leaseExpiry := none }, rfl, rfl, rfl, rfl,
      hr.notices (.post _ _ _)⟩
  · exact ⟨b, rfl, rfl, rfl, rfl, .pure rfl⟩

/-- The end of a hold: rows are marked, which neither ranks nor grants. -/
theorem Budget.runs_holdEnds (b : Budget) (now : Time) (c : Consumer) :
    ∃ r : BudgetRows, r.copies = b.rows.copies ∧ (∀ k, (r.get k).rank = (b.rows.get k).rank) ∧
      Budget.Runs b.rows { b with rows := r } (b.holdEnds now c) := by
  unfold Budget.holdEnds
  dsimp only
  split
  · have hc : ((b.rows.set c { b.rows.get c with holdTimer := false }).expire now).copies = b.rows.copies := by
      cases c <;> rfl
    refine ⟨_, hc, fun k => ?_, (Budget.runs_recompute _ now).from hc.symm⟩
    cases c <;> cases k <;> rfl
  · exact ⟨b.rows, rfl, fun _ => rfl, .pure rfl⟩

/-! ### Window monitor -/

/-- The outputs derived afresh, each changed one told. -/
theorem Monitor.tells_rederive (m : Monitor) (h : Held) : (m.tells h).takeAll m.rederive.out = m.rederive.val.tells h := by
  simp only [Monitor.rederive, Held.takeAll_append, Held.takeAll_offerIf, Monitor.tells, bne_iff_ne, Held.take]
  by_cases h1 : m.derive.derate = m.outputs.derate <;> by_cases h2 : m.derive.cutWater = m.outputs.cutWater <;>
  by_cases h3 : m.derive.liftArms = m.outputs.liftArms <;>
  by_cases h4 : m.derive.stopTravel = m.outputs.stopTravel <;> by_cases h5 : m.derive.halt = m.outputs.halt <;>
  simp [h1, h2, h3, h4, h5]

theorem Monitor.madeBy_rederive (m : Monitor) : MadeBy .monitor m.rederive.out :=
  .append (.append (.append (.append (.offerIf (.inr rfl) _) (.offerIf (.inr rfl) _)) (.offerIf (.inr rfl) _))
    (.offerIf (.inr rfl) _)) (.offerIf (.inr rfl) _)

/-- An event of the window monitor: the outputs stand as they were derived before or are derived afresh, and what changes
of them is told. -/
structure Monitor.Runs (m : Monitor) (e : Emit Monitor) : Prop where
  outputs : m.outputs = m.derive → e.val.outputs = e.val.derive
  made : MadeBy .monitor e.out
  tells : ∀ h, (m.tells h).takeAll e.out = e.val.tells h

theorem Monitor.Runs.pure (m : Monitor) : m.Runs (.pure m) := ⟨id, .nil _, fun _ => rfl⟩

/-- Windows or assignments are changed and the outputs are derived afresh. -/
theorem Monitor.Runs.rederive {m n : Monitor} (h : n.outputs = m.outputs) : m.Runs n.rederive :=
  ⟨fun _ => rfl, n.madeBy_rederive, fun x => by rw [← n.tells_rederive]; simp [Monitor.tells, h]⟩

theorem Monitor.runs_evaluate (m : Monitor) (now : Time) (ch : Fin 16) (raw : Nat) : m.Runs (m.evaluate now ch raw) := by
  unfold Monitor.evaluate
  dsimp only
  split
  · exact .pure m
  · split
    · have hr : m.Runs (Monitor.rederive { m with assignments := (setAt m.assignments ch
          { m.assignments.get ch with latched := true, tripRaw := raw, tripTime := now }) }) := .rederive rfl
      exact ⟨hr.outputs, .cons (.inl rfl) hr.made, hr.tells⟩
    · exact .pure m

theorem Monitor.runs_clearLatch (m : Monitor) (x : Mask) : m.Runs (m.clearLatch x).1 := by
  unfold Monitor.clearLatch
  split
  · exact .pure m
  · exact .rederive rfl

theorem Monitor.runs_writeWindow (m : Monitor) (i : Fin 6) (w : Window) : m.Runs (m.writeWindow i w).1 := by
  unfold Monitor.writeWindow
  split
  · exact .pure m
  · exact .rederive rfl

theorem Monitor.runs_writeAssignment (m : Monitor) (i : Fin 16) (x : AssignmentWrite) :
    m.Runs (m.writeAssignment i x).1 := .rederive rfl

theorem Monitor.runs_restart (m : Monitor) : m.Runs m.restart := .rederive rfl

/-! ### Measurement scanner -/

/-- An event of the scanner tells the stale flag when it changes. -/
structure Scanner.Runs (c : Scanner) (e : Emit Scanner) : Prop where
  made : MadeBy .scanner e.out
  tells : ∀ h, (c.tells h).takeAll e.out = e.val.tells h

theorem Scanner.Runs.pure {c d : Scanner} (h : d.stale = c.stale) : c.Runs (.pure d) :=
  ⟨.nil _, fun x => by simp [Scanner.tells, h]⟩

theorem Scanner.Runs.of {c d : Scanner} {e : Emit Scanner} (h : d.Runs e) (hs : d.stale = c.stale) : c.Runs e :=
  ⟨h.made, fun x => by rw [← h.tells]; simp [Scanner.tells, hs]⟩

theorem madeBy_staleOffers (b : Bool) : MadeBy .scanner (staleOffers b) :=
  .cons (.inr rfl) (.cons (.inr rfl) (.nil _))

theorem Scanner.runs_becomeStale (c : Scanner) : c.Runs c.becomeStale := by
  unfold Scanner.becomeStale
  split
  · exact .pure rfl
  · exact ⟨.cons (.inl rfl) (madeBy_staleOffers true), fun _ => rfl⟩

theorem Scanner.runs_staleExpiry (c : Scanner) (now : Time) : c.Runs (c.staleExpiry now) := by
  unfold Scanner.staleExpiry
  split
  · cases hs : c.stale with
    | true => exact ⟨.cons (.inl rfl) (.nil _), fun h => by simp [Scanner.tells, Held.take, hs]⟩
    | false => exact ⟨.cons (.inl rfl) (madeBy_staleOffers true), fun _ => rfl⟩
  · exact .pure rfl

theorem Scanner.runs_publish (c : Scanner) (now : Time) : c.Runs (c.publish now) := by
  cases hs : c.stale with
  | true =>
    simp only [Scanner.publish, hs]
    exact ⟨.append (.cons (.inl rfl) (madeBy_staleOffers false))
      (.cons (.inr rfl) (.cons (.inr rfl) (.cons (.inr rfl) (.nil _)))), fun _ => rfl⟩
  | false =>
    simp only [Scanner.publish, hs]
    exact ⟨.append (.nil _) (.cons (.inr rfl) (.cons (.inr rfl) (.cons (.inr rfl) (.nil _)))),
      fun h => by simp [Scanner.tells, Held.take, hs, Scanner.measureOffers]⟩

theorem Scanner.runs_passEnds (c : Scanner) (now : Time) : c.Runs (c.passEnds now) := by
  unfold Scanner.passEnds
  dsimp only
  split
  · exact (Scanner.runs_publish _ now).of rfl
  · exact ⟨.cons (.inl rfl) (.nil _), fun _ => rfl⟩

theorem Scanner.runs_endHold (c : Scanner) (now : Time) : c.Runs (c.endHold now) := by
  unfold Scanner.endHold
  dsimp only
  split
  · exact (Scanner.runs_publish _ now).of rfl
  · exact .pure rfl

theorem Scanner.runs_leaseExpiry (c : Scanner) (now : Time) : c.Runs (c.leaseExpiry now) := by
  unfold Scanner.leaseExpiry
  split
  · exact .pure rfl
  · split
    · exact c.runs_endHold now
    · exact .pure rfl

theorem Scanner.runs_holdSet (c : Scanner) (now : Time) (p : Port) (n : Nat) : c.Runs (c.holdSet now p n).1 := by
  unfold Scanner.holdSet
  split
  · exact .pure rfl
  · dsimp only
    split
    · exact .pure rfl
    · split <;> exact .pure rfl

theorem Scanner.runs_releaseSet (c : Scanner) (now : Time) (p : Port) : c.Runs (c.releaseSet now p).1 := by
  unfold Scanner.releaseSet
  split
  · exact .pure rfl
  · split
    · exact c.runs_endHold now
    · exact .pure rfl

theorem Scanner.runs_restart (c : Scanner) : c.Runs c.restart := (Scanner.runs_becomeStale _).of rfl

theorem Scanner.runs_writeRole (c : Scanner) (m : Mode) (i : Fin 12) (e : RoleEntry) :
    c.Runs (c.writeRole m i e).1 := by
  unfold Scanner.writeRole
  split
  · exact .pure rfl
  · split <;> exact .pure rfl

theorem Scanner.runs_writeList (c : Scanner) (m : Mode) (i : Nat) (w : ScanListWrite) :
    c.Runs (c.writeList m i w).1 := by
  unfold Scanner.writeList
  split
  · exact .pure rfl
  · split
    · exact .pure rfl
    · split
      · exact .pure rfl
      · exact (Scanner.runs_becomeStale _).of rfl

theorem Scanner.runs_newStaleLimit (c : Scanner) (now : Time) (n : Nat) : c.Runs (c.newStaleLimit now n) := by
  unfold Scanner.newStaleLimit
  dsimp only
  split
  · exact .pure rfl
  · split
    · exact (Scanner.runs_becomeStale _).of rfl
    · exact .pure rfl

theorem Scanner.stale_newPeriod (c : Scanner) (now : Time) (n : Nat) : (c.newPeriod now n).stale = c.stale := by
  unfold Scanner.newPeriod
  split <;> rfl

theorem Scanner.runs_writeControl (c : Scanner) (now : Time) (m : Mode) (w : ScanControlWrite) :
    c.Runs (c.writeControl now m w).1 := by
  unfold Scanner.writeControl
  split
  · exact .pure rfl
  · split
    · exact .pure rfl
    · have hr : c.Runs ((c.newPeriod now w.period).newStaleLimit now w.staleLimit) :=
        (Scanner.runs_newStaleLimit _ now _).of (c.stale_newPeriod now w.period)
      refine ⟨hr.made.append (.nil _), fun h => ?_⟩
      simp only [Emit.andThen_out, Emit.andThen_val, Emit.pure_out, Emit.pure_val, List.append_nil, hr.tells]
      split <;> rfl

theorem Scanner.stale_start (c : Scanner) (now : Time) : (c.start now).stale = c.stale := by
  unfold Scanner.start
  dsimp only
  repeat' split
  all_goals rfl

theorem Scanner.stale_periodExpiry (c : Scanner) (now : Time) : (c.periodExpiry now).stale = c.stale := by
  unfold Scanner.periodExpiry
  split
  · rfl
  · split
    · dsimp only
      split <;> rfl
    · rfl

/-! ### Pulse unit -/

/-- The path counter's offers reach two blocks of which `Held` knows nothing. -/
def Offer.setsPath : Offer → Bool
  | .selectorPath .. | .waterPath .. => true
  | _ => false

/-- An event of the pulse unit that leaves the path counter: what changes of speeds, direction, slip ratio and status is
told. -/
structure Pulse.Runs (u : Pulse) (e : Emit Pulse) : Prop where
  path : e.val.path = u.path
  made : MadeBy .pulse e.out
  noPath : ∀ o ∈ e.out, o.setsPath = false
  tells : ∀ h, (u.tells h).takeAll e.out = e.val.tells h

/-- What an event tells, but for the speeds of the window. -/
theorem Pulse.Runs.pure {u v : Pulse} (hp : v.path = u.path)
    (h : (v.motorSpeed, v.direction, v.groundSpeed, v.slip, v.status) =
      (u.motorSpeed, u.direction, u.groundSpeed, u.slip, u.status)) : u.Runs (.pure v) := by
  simp only [Prod.mk.injEq] at h
  exact ⟨hp, .nil _, List.forall_mem_nil _, fun x => by simp [Pulse.tells, h]⟩

theorem Pulse.runs_groundEdge (u : Pulse) (now : Time) : u.Runs (u.groundEdge now) := by
  unfold Pulse.groundEdge
  dsimp only
  split
  · exact .pure rfl rfl
  · split
    · exact ⟨rfl, .cons (.inl rfl) (.cons (.inr rfl) (.cons (.inr rfl) (.nil _))),
        by simp [Pulse.regain, Offer.setsPath], fun _ => rfl⟩
    · exact .pure rfl rfl

theorem Pulse.runs_testLoss (u : Pulse) (now : Time) : u.Runs (u.testLoss now) := by
  unfold Pulse.testLoss
  split
  · exact ⟨rfl, .cons (.inl rfl) (.cons (.inr rfl) (.cons (.inr rfl) (.nil _))),
      by simp [Pulse.enterLost, Offer.setsPath], fun _ => rfl⟩
  · exact .pure rfl rfl

theorem Pulse.Runs.of {u v : Pulse} {e : Emit Pulse} (h : v.Runs e) (hp : v.path = u.path)
    (hv : (v.motorSpeed, v.direction, v.groundSpeed, v.slip, v.status) =
      (u.motorSpeed, u.direction, u.groundSpeed, u.slip, u.status)) : u.Runs e := by
  simp only [Prod.mk.injEq] at hv
  exact ⟨h.path.trans hp, h.made, h.noPath, fun x => by rw [← h.tells]; simp [Pulse.tells, hv]⟩

theorem Pulse.runs_lossExpiry (u : Pulse) (now : Time) : u.Runs (u.lossExpiry now) := by
  unfold Pulse.lossExpiry
  split
  · exact (Pulse.runs_testLoss _ now).of rfl rfl
  · exact .pure rfl rfl

theorem Pulse.runs_write (u : Pulse) (now : Time) (m : Mode) (w : PulseWrite) : u.Runs (u.write now m w).1 := by
  unfold Pulse.write Pulse.applyLossTime
  split
  · dsimp only
    split
    · exact .pure rfl rfl
    · split
      · exact (Pulse.runs_testLoss _ now).of rfl rfl
      · exact .pure rfl rfl
  · exact .pure rfl rfl

/-- RESTART tells every speed, and the ground status if it was lost. -/
theorem Pulse.restart_told (u : Pulse) (now : Time) :
    MadeBy .pulse (u.restart now).out ∧ (∀ o ∈ (u.restart now).out, o.setsPath = false) ∧
      ∀ h, (u.tells h).takeAll (u.restart now).out = (u.restart now).val.tells h := by
  cases hs : u.status with
  | present =>
    simp only [Pulse.restart, hs]
    exact ⟨.cons (.inr rfl) (.cons (.inr rfl) (.nil _)), by simp [Offer.setsPath],
      fun h => by simp [Pulse.tells, Held.take, hs]⟩
  | lost =>
    simp only [Pulse.restart, hs]
    exact ⟨.cons (.inl rfl) (.cons (.inr rfl) (.cons (.inr rfl) (.cons (.inr rfl) (.nil _)))),
      by simp [Offer.setsPath], fun h => rfl⟩

/-- The end of a speed window tells all but the ground status. -/
theorem Pulse.tells_closeWindow (u : Pulse) (next : Time) {h : Held} (hg : h.governor.ground = u.status) :
    h.takeAll (u.closeWindow next).out = (u.closeWindow next).val.tells h := by
  simp [Pulse.closeWindow, Pulse.tells, Held.take, ← hg]

/-- The loss test and the end of a window tell all that has changed since `u`, whose ground status is the window's. -/
theorem Pulse.tells_testLoss_closeWindow {u v : Pulse} (hs : v.status = u.status) (now next : Time) (h : Held) :
    (u.tells h).takeAll ((v.testLoss now).andThen fun w => w.takeSlip.closeWindow next).out =
      ((v.testLoss now).andThen fun w => w.takeSlip.closeWindow next).val.tells h := by
  unfold Pulse.testLoss
  split
  · exact Pulse.tells_closeWindow _ _ rfl
  · exact Pulse.tells_closeWindow _ _ hs.symm

/-- The path counter at the end of a speed window is told to both its readers, if it has changed. -/
theorem Pulse.takePath_out (u : Pulse) :
    u.takePath.val.path = u.path ∧ u.takePath.out = [] ∨
      ∃ n, u.takePath.out = [.selectorPath u.takePath.val.path n, .waterPath u.takePath.val.path n] := by
  unfold Pulse.takePath
  dsimp only
  split
  · exact .inl ⟨‹_›, rfl⟩
  · exact .inr ⟨_, rfl⟩

/-- What a window's end comes to, when it is due. -/
def Pulse.windowClosed (u : Pulse) (now : Time) : Emit Pulse :=
  (u.takeSpeeds.takePath.val.testLoss now).andThen fun v => v.takeSlip.closeWindow (after u.windowTimer u.window)

theorem Pulse.windowEnd_eq (u : Pulse) (now : Time) :
    u.windowEnd now =
      if reached now u.windowTimer then
        ⟨(u.windowClosed now).val, u.takeSpeeds.takePath.out ++ (u.windowClosed now).out⟩
      else .pure u := by
  unfold Pulse.windowEnd Pulse.windowClosed
  split
  · simp only [Emit.andThen, List.append_assoc]
  · rfl

theorem Pulse.path_closeWindow (u : Pulse) (next : Time) : (u.takeSlip.closeWindow next).val.path = u.path := rfl

theorem Pulse.path_windowClosed (u : Pulse) (now : Time) :
    (u.windowClosed now).val.path = u.takeSpeeds.takePath.val.path := by
  unfold Pulse.windowClosed
  rw [Emit.andThen_val, Pulse.path_closeWindow]
  exact (u.takeSpeeds.takePath.val.runs_testLoss now).path

theorem Pulse.madeBy_windowClosed (u : Pulse) (now : Time) :
    MadeBy .pulse (u.windowClosed now).out ∧ ∀ o ∈ (u.windowClosed now).out, o.setsPath = false := by
  have ht := u.takeSpeeds.takePath.val.runs_testLoss now
  refine ⟨ht.made.append (.cons (.inr rfl) (.cons (.inr rfl) (.nil _))), fun o ho => ?_⟩
  obtain ho | ho := List.mem_append.1 ho
  · exact ht.noPath o ho
  · simp only [Pulse.closeWindow, List.mem_cons, List.not_mem_nil, or_false] at ho
    obtain rfl | rfl := ho <;> rfl

theorem Pulse.status_takePath (u : Pulse) : u.takePath.val.status = u.status := by
  have hkept : ∀ n r, { u with path := n, remainder := r }.status = u.status := fun _ _ => rfl
  exact hkept _ _

theorem Pulse.status_takeSpeeds (u : Pulse) : u.takeSpeeds.status = u.status := by
  have hkept : ∀ n d k, { u with motorSpeed := n, direction := d, groundSpeed := k }.status = u.status :=
    fun _ _ _ => rfl
  exact hkept _ _ _

theorem Pulse.tells_windowClosed (u : Pulse) (now : Time) (h : Held) :
    (u.tells h).takeAll (u.windowClosed now).out = (u.windowClosed now).val.tells h := by
  unfold Pulse.windowClosed
  have hs : u.takeSpeeds.takePath.val.status = u.status := u.takeSpeeds.status_takePath.trans u.status_takeSpeeds
  exact Pulse.tells_testLoss_closeWindow hs now _ h

/-! ### Profile selector -/

/-- An event of the profile selector that leaves the rows: the active row is told when another becomes active. -/
structure Selector.Runs (x : Selector) (e : Emit Selector) : Prop where
  made : MadeBy .selector e.out
  noStart : ∀ l, .budgetStart l ∉ e.out
  tells : ∀ h, (x.activeRow.tells h).takeAll e.out = e.val.activeRow.tells h

theorem Selector.Runs.pure {x y : Selector} (h : y.activeRow = x.activeRow) : x.Runs (.pure y) :=
  ⟨.nil _, fun _ => List.not_mem_nil, fun k => by simp [h]⟩

theorem Selector.Runs.of {x y : Selector} {e : Emit Selector} (h : y.Runs e) (hr : y.activeRow = x.activeRow) :
    x.Runs e :=
  ⟨h.made, h.noStart, fun k => hr ▸ h.tells k⟩

theorem Profile.madeBy_offers (r : Profile) : MadeBy .selector r.offers :=
  .cons (.inr rfl) (.cons (.inr rfl) (.cons (.inr rfl) (.cons (.inr rfl) (.nil _))))

/-- A row offered is a row told, whatever was told before. -/
theorem Profile.tells_offers (r q : Profile) (h : Held) : (q.tells h).takeAll r.offers = r.tells h := rfl

theorem Selector.runs_setActive (x : Selector) (row : Fin 8) (cause : ProfileCause) (always : Bool) :
    x.Runs (x.setActive row cause always) := by
  unfold Selector.setActive
  split
  · refine ⟨.cons (.inl rfl) (Profile.madeBy_offers _), fun l => ?_, fun h => ?_⟩
    · simp [Profile.offers, Profile.jobOffers]
    · exact Profile.tells_offers _ _ h
  · rename_i hrow
    have hrow : row = x.active := by
      simp only [Bool.or_eq_true, bne_iff_ne, ne_eq, not_or, not_not] at hrow
      exact hrow.2
    subst hrow
    exact ⟨.cons (.inl rfl) (.nil _), fun l => by simp, fun _ => rfl⟩

theorem Selector.runs_applyChange (x : Selector) (r : Fin 8) (c : ZoneCode) : x.Runs (x.applyChange r c) := by
  unfold Selector.applyChange
  dsimp only
  split
  · exact .pure rfl
  · exact (Selector.runs_setActive _ _ _ _).of rfl

theorem Selector.runs_pathAdvance (x : Selector) (n k : Nat) : x.Runs (x.pathAdvance n k) := by
  unfold Selector.pathAdvance
  dsimp only
  split
  · exact .pure rfl
  · exact (Selector.runs_applyChange _ _ _).of rfl

theorem Selector.runs_zoneAhead (x : Selector) (m : Mode) (c : ZoneCode) (n : Nat) :
    x.Runs (x.zoneAhead m c n).1 := by
  unfold Selector.zoneAhead
  split
  · exact .pure rfl
  · split
    · exact .pure rfl
    · dsimp only
      split
      · exact .pure rfl
      · split
        · exact x.runs_applyChange _ _
        · split <;> exact .pure rfl

theorem Selector.runs_pin (x : Selector) (m : Mode) (b : Bool) (n : Nat) : x.Runs (x.pin m b n).1 := by
  unfold Selector.pin
  split
  · exact .pure rfl
  · split
    · exact .pure rfl
    · split
      · exact .pure rfl
      · split
        · exact .pure rfl
        · exact (Selector.runs_setActive _ _ _ _).of rfl

theorem Selector.runs_unpin (x : Selector) (m : Mode) (b : Bool) : x.Runs (x.unpin m b).1 := by
  unfold Selector.unpin
  split
  · exact .pure rfl
  · split
    · exact .pure rfl
    · split
      · exact (Selector.runs_setActive _ _ _ _).of rfl
      · exact .pure rfl

theorem Selector.runs_restart (x : Selector) : x.Runs x.restart := by
  unfold Selector.restart
  dsimp only
  split
  · exact (Selector.runs_setActive _ _ _ _).of rfl
  · exact .pure rfl

/-- START tells row 0. -/
theorem Selector.tells_start (x : Selector) (h : Held) :
    (x.activeRow.tells h).takeAll x.start.out = x.start.val.activeRow.tells h := rfl

/-- A rewritten active row is told, another row is not. -/
theorem Selector.runs_writeRow (x : Selector) (m : Mode) (n : Nat) (i : Fin 8) (r : Profile) :
    x.Runs (x.writeRow m n i r).1 := by
  unfold Selector.writeRow
  split
  · exact .pure rfl
  · split
    · exact .pure rfl
    · split
      · exact .pure rfl
      · split
        · exact .pure rfl
        · dsimp only
          split
          · have hr := Selector.runs_setActive { x with rows := setAt x.rows i r } i .rewrite true
            exact ⟨hr.made, hr.noStart, fun h => Profile.tells_offers _ _ h⟩
          · rename_i hi
            refine .pure ?_
            show (setAt x.rows i r).get x.active = x.rows.get x.active
            rw [get_setAt, if_neg (Ne.symm hi)]

theorem Selector.runs_writeZone (x : Selector) (i : Fin 16) (z : Zone) : x.Runs (x.writeZone i z).1 := by
  unfold Selector.writeZone
  split <;> exact .pure rfl

/-! ### Valve chain driver -/

/-- An event of the chain driver tells the failed positions of each owner of which one has changed. -/
structure Chain.Runs (c : Chain) (e : Emit Chain) : Prop where
  mode : e.val.mode = c.mode
  made : MadeBy .chain e.out
  tells : ∀ h, (c.tells h).takeAll e.out = e.val.tells h

theorem Chain.madeBy_ownerOffers (c : Chain) (m : Mask) : MadeBy .chain (c.ownerOffers m) :=
  .append (.offerIf (.inr rfl) _) (.offerIf (.inr rfl) _)

theorem Chain.recompose_kept (c : Chain) :
    c.recompose.mode = c.mode ∧ c.recompose.failed = c.failed ∧ c.recompose.counts = c.counts ∧
      c.recompose.requested = c.requested := by
  unfold Chain.recompose Chain.wantRefresh
  dsimp only
  repeat' split
  all_goals exact ⟨rfl, rfl, rfl, rfl⟩

/-- Two failed sets agree in the positions of an owner of which none has changed. -/
theorem getLsbD_of_and_eq_zero {a b m k : Mask} (hx : a ^^^ b = m) (h : m &&& k = 0) (i : Nat)
    (hi : k.getLsbD i = true) : a.getLsbD i = b.getLsbD i := by
  have := congrArg (BitVec.getLsbD · i) h
  simp only [← hx, BitVec.getLsbD_and, BitVec.getLsbD_xor, hi, Bool.and_true] at this
  cases ha : a.getLsbD i <;> cases hb : b.getLsbD i <;> simp_all

/-- The owners are told of the positions that have entered or left the failed set. -/
theorem Chain.tells_ownerOffers {c d : Chain} {m : Mask} (hm : c.failed ^^^ d.failed = m) (h : Held) :
    (c.tells h).takeAll (d.ownerOffers m) = d.tells h := by
  unfold Chain.ownerOffers
  rw [Held.takeAll_append, Held.takeAll_offerIf, Held.takeAll_offerIf]
  have hl : m &&& liftMask = 0 → c.failed.getLsbD 12 = d.failed.getLsbD 12 ∧
      c.failed.getLsbD 13 = d.failed.getLsbD 13 ∧ c.failed.getLsbD 14 = d.failed.getLsbD 14 := fun hz =>
    ⟨getLsbD_of_and_eq_zero hm hz 12 rfl, getLsbD_of_and_eq_zero hm hz 13 rfl, getLsbD_of_and_eq_zero hm hz 14 rfl⟩
  have hw : m &&& ~~~liftMask = 0 → nozzlesOf c.failed = nozzlesOf d.failed ∧
      c.failed.getLsbD 15 = d.failed.getLsbD 15 := by
    refine fun hz => ⟨BitVec.eq_of_getLsbD_eq fun i hi => ?_, getLsbD_of_and_eq_zero hm hz 15 rfl⟩
    have : (~~~liftMask).getLsbD i = true := by
      have : ∀ j : Fin 12, (~~~liftMask).getLsbD j.val = true := by decide
      exact this ⟨i, hi⟩
    simp only [nozzlesOf, BitVec.getLsbD_setWidth, getLsbD_of_and_eq_zero hm hz i this]
  by_cases h1 : m &&& liftMask = 0 <;> by_cases h2 : m &&& ~~~liftMask = 0
  all_goals simp_all [Chain.tells, Held.take]

theorem Chain.runs_unfail (c : Chain) (m : Mask) : c.Runs (c.unfail m) := by
  unfold Chain.unfail
  dsimp only
  obtain ⟨hm, hf, -⟩ := Chain.recompose_kept
    { c with failed := c.failed &&& ~~~m
             counts := Vector.ofFn fun i => if (c.failed &&& m).getLsbD i.val then 0 else c.counts.get i }
  refine ⟨hm, Chain.madeBy_ownerOffers _ _, fun h => Chain.tells_ownerOffers ?_ h⟩
  rw [hf]
  refine BitVec.eq_of_getLsbD_eq fun i hi => ?_
  simp only [BitVec.getLsbD_xor, BitVec.getLsbD_and, BitVec.getLsbD_not, hi, decide_true, Bool.true_and]
  cases c.failed.getLsbD i <;> cases m.getLsbD i <;> rfl

theorem Chain.runs_restart (c : Chain) : c.Runs c.restart := by
  obtain ⟨hm, hmade, ht⟩ := c.runs_unfail 0xFFFF
  refine ⟨hm, hmade.append (.nil _), fun h => ?_⟩
  simp only [Chain.restart, Emit.andThen_out, Emit.pure_out, List.append_nil, ht]
  rfl

theorem Chain.runs_clearFailed (c : Chain) (m : Mode) (x : Mask) : c.Runs (c.clearFailed m x).1 := by
  unfold Chain.clearFailed
  split
  · exact c.runs_unfail x
  · exact ⟨rfl, .nil _, fun _ => rfl⟩

/-- The powers of two of a test's members below `n`, added. -/
def powersBelow (f : Nat → Bool) (n : Nat) : Nat :=
  (List.range n).foldl (fun m i => if f i then m + 2 ^ i else m) 0

/-- The sum of powers stays below the next power, and its bits are the test. -/
theorem testBit_powersBelow (f : Nat → Bool) (n : Nat) :
    powersBelow f n < 2 ^ n ∧ ∀ i < n, (powersBelow f n).testBit i = f i := by
  induction n with
  | zero => exact ⟨by simp [powersBelow], nofun⟩
  | succ n ih =>
    obtain ⟨hlt, hbits⟩ := ih
    have hs : powersBelow f (n + 1) = if f n then powersBelow f n + 2 ^ n else powersBelow f n := by
      simp [powersBelow, List.range_succ]
    rw [hs]
    have htop : (powersBelow f n).testBit n = false := Nat.testBit_lt_two_pow hlt
    cases hf : f n with
    | false =>
      refine ⟨hlt.trans (Nat.pow_lt_pow_right (by omega) (by omega)), fun i hi => ?_⟩
      obtain rfl | hi : i = n ∨ i < n := by omega
      · simpa [hf] using htop
      · simpa using hbits i hi
    | true =>
      refine ⟨by simp only [if_true, Nat.pow_succ]; omega, fun i hi => ?_⟩
      simp only [if_true]
      rw [Nat.add_comm]
      obtain rfl | hi : i = n ∨ i < n := by omega
      · rw [Nat.testBit_two_pow_add_eq, htop, hf]; rfl
      · rw [Nat.testBit_two_pow_add_gt hi]; exact hbits i hi

/-- A bit of a set made from a test. -/
theorem getLsbD_maskOf (f : Fin 16 → Bool) (i : Fin 16) : (maskOf f).getLsbD i.val = f i := by
  have hsum : maskOf f = BitVec.ofNat 16 (powersBelow (fun n => if h : n < 16 then f ⟨n, h⟩ else false) 16) := rfl
  rw [hsum, BitVec.getLsbD_ofNat, (testBit_powersBelow _ 16).2 _ i.isLt]
  simp

theorem Chain.runs_complete (c : Chain) (echo fault : Mask) : c.Runs (c.complete echo fault) := by
  unfold Chain.complete
  dsimp only
  obtain ⟨hm, hf, -⟩ := Chain.recompose_kept
    { c.load echo fault with
      counts := Vector.ofFn (c.load echo fault).nextCount
      failed := (c.load echo fault).failed ||| maskOf (c.load echo fault).fails }
  have hn : Notices (((sixteen.filter (c.load echo fault).fails).map fun i =>
      .post .chainFailed i.val ((c.load echo fault).failValue i)) : List Offer) := by
    intro o ho
    obtain ⟨i, -, rfl⟩ := List.mem_map.1 ho
    rfl
  refine ⟨hm, (hn.madeBy _).append (Chain.madeBy_ownerOffers _ _), fun h => ?_⟩
  rw [Held.takeAll_append, Held.takeAll_of_notices hn]
  refine Chain.tells_ownerOffers ?_ h
  rw [hf]
  refine BitVec.eq_of_getLsbD_eq fun i hi => ?_
  have hfail := getLsbD_maskOf (c.load echo fault).fails ⟨i, hi⟩
  simp only [BitVec.getLsbD_xor, BitVec.getLsbD_or, hfail]
  simp only [Chain.fails, Chain.load]
  cases c.failed.getLsbD i <;> simp

end Sys2Proof.Machine
end

section
/-! What the events of the implement sequencer and of the mode controller leave of their own records, and what they
offer. -/

namespace Sys2Proof.Machine

/-! ### A side arm -/

/-- What no reaction of an arm changes: settings, command and copies. -/
def ArmRecord.still (a : ArmRecord) : ArmSettings × ArmCommand × Option Int × Option Int × Nat × GrantCopy × Bool :=
  (a.settings, a.command, a.position, a.pressure, a.reach, a.row, a.liftFailed)

/-- A reaction of an arm that began as `a`: what is still stays, at most three outcomes are kept, and nothing but notices
is offered. -/
structure ArmRecord.Runs (a : ArmRecord) (e : Emit ArmRecord) : Prop where
  still : e.val.still = a.still
  outcomes : a.outcomes.length ≤ 3 → e.val.outcomes.length ≤ 3
  notices : Notices e.out

theorem ArmRecord.Runs.pure {a b : ArmRecord} (hs : b.still = a.still) (ho : b.outcomes = a.outcomes) :
    a.Runs (.pure b) :=
  ⟨hs, fun h => by rwa [Emit.pure_val, ho], .nil⟩

theorem ArmRecord.Runs.of {a b : ArmRecord} {e : Emit ArmRecord} (h : b.Runs e) (hs : b.still = a.still)
    (ho : b.outcomes = a.outcomes) : a.Runs e :=
  ⟨h.still.trans hs, fun hl => h.outcomes (by rwa [ho]), h.notices⟩

theorem ArmRecord.Runs.andThen {a : ArmRecord} {e : Emit ArmRecord} {f : ArmRecord → Emit ArmRecord} (h : a.Runs e)
    (hf : e.val.Runs (f e.val)) : a.Runs (e.andThen f) :=
  ⟨hf.still.trans h.still, fun hl => hf.outcomes (h.outcomes hl), h.notices.append hf.notices⟩

theorem ArmRecord.runs_closeMotion (a : ArmRecord) (x : Side) (t : Moment) (o : MotionOutcome)
    (c : Option AbortCause) : a.Runs (a.closeMotion x t o c) := by
  unfold ArmRecord.closeMotion
  split
  · exact .pure rfl rfl
  · exact ⟨rfl, fun _ => List.length_take_le _ _, .post _ _ _⟩

/-- The open motion is recorded, and the arm goes on. -/
theorem ArmRecord.runs_closing (a : ArmRecord) (x : Side) (t : Moment) (o : MotionOutcome) (c : Option AbortCause)
    {f : ArmRecord → ArmRecord} (hs : ∀ b, (f b).still = b.still) (ho : ∀ b, (f b).outcomes = b.outcomes) :
    a.Runs ((a.closeMotion x t o c).andThen fun b => .pure (f b)) :=
  (a.runs_closeMotion x t o c).andThen (.pure (hs _) (ho _))

theorem ArmRecord.runs_toFault (a : ArmRecord) (x : Side) (t : Moment) (b : Bool) (c : FaultCause) :
    a.Runs (a.toFault x t b c) := by
  refine (a.runs_closeMotion x t .faulted none).andThen ⟨?_, ?_, .post _ _ _⟩
  · dsimp only
    split <;> rfl
  · intro h
    dsimp only
    split <;> exact h

theorem ArmRecord.runs_gainCause (a : ArmRecord) (x : Side) (t : Moment) (c : AbortCause) :
    a.Runs (a.gainCause x t c) := by
  unfold ArmRecord.gainCause
  split
  all_goals
    first
    | exact .pure rfl rfl
    | exact a.runs_closing x t _ _ (fun _ => rfl) fun _ => rfl

theorem ArmRecord.runs_becomeIn (a : ArmRecord) (x : Side) (t : Moment) : a.Runs (a.becomeIn x t) := by
  have hturn := fun (f : ArmRecord → ArmRecord) (hs : ∀ b, (f b).still = b.still) ho =>
    (ArmRecord.runs_closing { a with attempts := 0 } x t .aborted (some .stowRequest) hs ho).of
      (a := a) rfl rfl
  unfold ArmRecord.becomeIn
  dsimp only
  split
  all_goals
    first
    | exact .pure rfl rfl
    | exact hturn _ (fun _ => rfl) fun _ => rfl
    | skip
  split
  · exact .pure rfl rfl
  · exact hturn _ (fun _ => rfl) fun _ => rfl

theorem ArmRecord.runs_becomeOut (a : ArmRecord) (x : Side) (t : Moment) (b : Bool) : a.Runs (a.becomeOut x t b) := by
  have hturn := (ArmRecord.runs_closing { a with attempts := 0 } x t .aborted (some .stowRequest)
    (f := fun c => if b then c.enter .raised none else c.startOut t) (fun _ => by cases b <;> rfl)
    fun _ => by cases b <;> rfl).of (a := a) rfl rfl
  unfold ArmRecord.becomeOut
  dsimp only
  split
  · exact hturn
  · split
    · exact hturn
    · exact .pure rfl rfl
  · cases b <;> exact .pure rfl rfl
  all_goals exact .pure rfl rfl

theorem ArmRecord.advance_kept (a : ArmRecord) (t : Moment) (b : Bool) :
    (a.advance t b).still = a.still ∧ (a.advance t b).outcomes = a.outcomes := by
  unfold ArmRecord.advance
  repeat' split
  all_goals exact ⟨rfl, rfl⟩

theorem ArmRecord.runs_published (a : ArmRecord) (x : Side) (t : Moment) : a.Runs (a.published x t) := by
  have hdone := fun (f : ArmRecord → ArmRecord) (hs : ∀ b, (f b).still = b.still) ho => a.runs_closing x t .done none hs ho
  unfold ArmRecord.published
  split
  · split
    · exact hdone _ (fun _ => rfl) fun _ => rfl
    · exact .pure rfl rfl
  · split
    · exact hdone _ (fun _ => rfl) fun _ => rfl
    · exact .pure rfl rfl
  · split <;> exact .pure rfl rfl
  · split
    · exact hdone _ (fun _ => rfl) fun _ => rfl
    · exact .pure rfl rfl
  all_goals exact .pure rfl rfl

theorem ArmRecord.newReach_kept (a : ArmRecord) (t : Moment) :
    (a.newReach t).still = a.still ∧ (a.newReach t).outcomes = a.outcomes := by
  unfold ArmRecord.newReach
  split <;> exact ⟨rfl, rfl⟩

theorem ArmRecord.runs_failAttempt (a : ArmRecord) (x : Side) (t : Moment) {f : ArmRecord → ArmRecord}
    (hs : ∀ b, (f b).still = b.still) (ho : ∀ b, (f b).outcomes = b.outcomes) : a.Runs (a.failAttempt x t f) := by
  unfold ArmRecord.failAttempt
  dsimp only
  split
  · exact (ArmRecord.runs_closing _ x t _ _ hs ho).of rfl rfl
  · exact (ArmRecord.runs_toFault _ x t _ _).of rfl rfl

/-- A LIFT position reported: the flag is taken. -/
theorem ArmRecord.runs_takeFailed (a : ArmRecord) (x : Side) (t : Moment) (b f : Bool) :
    { a with liftFailed := f }.Runs (a.takeFailed x t b f) := by
  unfold ArmRecord.takeFailed
  dsimp only
  split
  · split
    · exact .pure rfl rfl
    · exact ArmRecord.runs_toFault _ x t b _
  · exact .pure rfl rfl

theorem ArmRecord.runs_halt (a : ArmRecord) (x : Side) (t : Moment) : a.Runs (a.halt x t) :=
  a.runs_closing x t _ _ (fun _ => rfl) fun _ => rfl

theorem ArmRecord.runs_start (a : ArmRecord) (x : Side) (t : Moment) : a.Runs (a.start x t) := by
  unfold ArmRecord.start
  dsimp only
  split
  · exact (ArmRecord.runs_toFault _ x t _ _).of rfl rfl
  · split <;> exact .pure rfl rfl

theorem Sequencer.runs_reactArm (old q : Sequencer) (x : Side) (t : Moment) : (q.arm x).Runs (old.reactArm q x t) := by
  have hadvance : ∀ a : ArmRecord, a.Runs (.pure (a.advance t (q.free x))) := fun a =>
    .pure (a.advance_kept t _).1 (a.advance_kept t _).2
  unfold Sequencer.reactArm
  refine ArmRecord.Runs.andThen (f := fun a => .pure (a.advance t (q.free x))) ?_ (hadvance _)
  split
  · exact ArmRecord.runs_becomeIn _ x t
  · exact ArmRecord.runs_becomeOut _ x t _
  · split
    · exact ArmRecord.runs_gainCause _ x t _
    · exact .pure rfl rfl
  · exact .pure rfl rfl

/-! ### The main broom -/

/-- What no reaction of the main broom changes: settings, command and copies. -/
def MainRecord.still (b : MainRecord) : ArmSettings × BroomCommand × GrantCopy × Bool :=
  (b.settings, b.command, b.row, b.liftFailed)

theorem MainRecord.still_advance (b : MainRecord) (t : Moment) (d : Bool) : (b.advance t d).still = b.still := by
  unfold MainRecord.advance
  repeat' split
  all_goals rfl

theorem MainRecord.takeFailed_kept (b : MainRecord) (service f : Bool) :
    (b.takeFailed service f).val.still = { b with liftFailed := f }.still ∧ Notices (b.takeFailed service f).out := by
  unfold MainRecord.takeFailed MainRecord.toFault
  dsimp only
  split
  · split
    · exact ⟨rfl, .nil⟩
    · refine ⟨?_, .post _ _ _⟩
      dsimp only
      split <;> rfl
  · exact ⟨rfl, .nil⟩

theorem MainRecord.still_start (b : MainRecord) (t : Moment) : (b.start t).still = b.still := by
  unfold MainRecord.start
  dsimp only
  repeat' split
  all_goals rfl

/-! ### The implement sequencer -/

/-- What no reaction of the sequencer changes: copies, commands and settings. -/
def Sequencer.still (q : Sequencer) : SequencerCopies × (ArmCommand × ArmCommand × BroomCommand) ×
    (ArmSettings × ArmSettings × ArmSettings) :=
  (q.copies, (q.left.command, q.right.command, q.main.command), q.record)

/-- At most three outcomes of each arm are kept. -/
def Sequencer.fewOutcomes (q : Sequencer) : Prop := ∀ x, (q.arm x).outcomes.length ≤ 3

theorem Sequencer.fewOutcomes_iff (q : Sequencer) :
    q.fewOutcomes ↔ q.left.outcomes.length ≤ 3 ∧ q.right.outcomes.length ≤ 3 :=
  ⟨fun h => ⟨h .left, h .right⟩, fun h x => by cases x <;> [exact h.1; exact h.2]⟩

/-- The sequencer with reacting records in place of its own. -/
theorem Sequencer.still_of_records {q : Sequencer} {l r : ArmRecord} {m : MainRecord} {x : Option Time}
    (hl : l.still = q.left.still) (hr : r.still = q.right.still) (hm : m.still = q.main.still) :
    { q with left := l, right := r, main := m, regTimer := x }.still = q.still := by
  simp only [ArmRecord.still, MainRecord.still, Prod.mk.injEq] at hl hr hm
  simp only [Sequencer.still, Sequencer.copies, Sequencer.record, hl, hr, hm]

/-- A reaction of the records, before the end of the event: nothing but notices is offered. -/
structure Sequencer.Reacts (q : Sequencer) (e : Emit Sequencer) : Prop where
  still : e.val.still = q.still
  outcomes : q.fewOutcomes → e.val.fewOutcomes
  notices : Notices e.out

theorem Sequencer.Reacts.pure {q p : Sequencer} (hs : p.still = q.still) (ho : q.fewOutcomes → p.fewOutcomes) :
    q.Reacts (.pure p) := ⟨hs, ho, .nil⟩

/-- Both arms react, then the main broom follows. -/
theorem Sequencer.reacts_arms {q : Sequencer} {l r : Emit ArmRecord} {m : MainRecord} {x : Option Time}
    (hl : q.left.Runs l) (hr : q.right.Runs r) (hm : m.still = q.main.still) :
    q.Reacts (l.andThen fun a => r.andThen fun b =>
      .pure { q with left := a, right := b, main := m, regTimer := x }) := by
  refine ⟨Sequencer.still_of_records hl.still hr.still hm, fun h => ?_, hl.notices.append (hr.notices.append .nil)⟩
  obtain ⟨h1, h2⟩ := q.fewOutcomes_iff.1 h
  exact (Sequencer.fewOutcomes_iff _).2 ⟨hl.outcomes h1, hr.outcomes h2⟩

theorem Sequencer.reacts_react (old q : Sequencer) (t : Moment) : q.Reacts (old.react q t) := by
  unfold Sequencer.react
  split
  · exact Sequencer.reacts_arms (old.runs_reactArm q .left t) (old.runs_reactArm q .right t)
      (q.main.still_advance t _)
  · exact .pure rfl id

/-- An event of the sequencer that began with the record `old`, has the copies and commands of `q` and ends as `e`. -/
structure Sequencer.Runs (old q : Sequencer) (e : Emit Sequencer) : Prop where
  still : e.val.still = q.still
  outcomes : old.fewOutcomes → e.val.fewOutcomes
  made : MadeBy .sequencer e.out
  tells : ∀ h, (old.tells h).takeAll e.out = e.val.tells h

/-- The end of an event changes coils and demands. -/
theorem Sequencer.finish_kept (old q : Sequencer) (all : Bool) :
    (old.finish q all).val.still = q.still ∧ (q.fewOutcomes → (old.finish q all).val.fewOutcomes) := by
  show q.drive.takeDemands.still = q.still ∧ (q.fewOutcomes → q.drive.takeDemands.fewOutcomes)
  unfold Sequencer.drive
  split
  · exact ⟨rfl, fun h => (Sequencer.fewOutcomes_iff _).2 (q.fewOutcomes_iff.1 h)⟩
  · exact ⟨rfl, fun h => (Sequencer.fewOutcomes_iff _).2 (q.fewOutcomes_iff.1 h)⟩

theorem Sequencer.madeBy_stateOffers (old q : Sequencer) (all : Bool) : MadeBy .sequencer (old.stateOffers q all) :=
  .append (.append (.append (.offerIf (.inr rfl) _) (.offerIf (.inr rfl) _)) (.offerIf (.inr rfl) _))
    (.offerIf (.inr rfl) _)

theorem Sequencer.madeBy_demandOffers (old q : Sequencer) : MadeBy .sequencer (old.demandOffers q) :=
  .append (.append (.offerIf (.inr rfl) _) (.offerIf (.inr rfl) _)) (.offerIf (.inr rfl) _)

theorem Sequencer.tells_demandOffers (old q : Sequencer) (h : Held) : h.takeAll (old.demandOffers q) = h := by
  simp only [Sequencer.demandOffers, Held.takeAll_append, Held.takeAll_offerIf, Held.take, ite_self]

/-- Changed states and a changed report are told. -/
theorem Sequencer.tells_stateOffers (old q : Sequencer) (all : Bool) (h : Held) :
    (old.tells h).takeAll (old.stateOffers q all) = q.tells h := by
  simp only [Sequencer.stateOffers, Held.takeAll_append, Held.takeAll_offerIf, Held.take, ite_self]
  have hs : old.statesDiffer q = false ↔
      old.left.state = q.left.state ∧ old.right.state = q.right.state ∧ old.main.state = q.main.state := by
    simp [Sequencer.statesDiffer, and_assoc]
  cases all with
  | true => rfl
  | false =>
    by_cases hr : old.report = q.report
    · cases hd : old.statesDiffer q with
      | true => simp [Sequencer.tells, hr]
      | false =>
        obtain ⟨h1, h2, h3⟩ := hs.1 hd
        simp [Sequencer.tells, hr, h1, h2, h3]
    · cases hd : old.statesDiffer q with
      | true => simp [Sequencer.tells, hr]
      | false =>
        obtain ⟨h1, h2, h3⟩ := hs.1 hd
        simp [Sequencer.tells, hr, h1, h2, h3]

/-- The records have reacted and the event ends. -/
theorem Sequencer.Reacts.finish {q : Sequencer} {e : Emit Sequencer} (h : q.Reacts e) {old : Sequencer}
    (ho : old.fewOutcomes → q.fewOutcomes) {f : Sequencer → Sequencer} (hf : (f e.val).still = e.val.still)
    (hfo : e.val.fewOutcomes → (f e.val).fewOutcomes) {all : Bool} :
    old.Runs q (e.andThen fun p => old.finish (f p) all) := by
  obtain ⟨hs, hk⟩ := old.finish_kept (f e.val) all
  refine ⟨hs.trans (hf.trans h.still), fun hold => hk (hfo (h.outcomes (ho hold))),
    (h.notices.madeBy _).append ((old.madeBy_stateOffers _ _).append (old.madeBy_demandOffers _)), fun x => ?_⟩
  show (old.tells x).takeAll (e.out ++ (old.stateOffers _ all ++ old.demandOffers _)) = _
  rw [Held.takeAll_append, Held.takeAll_append, Held.takeAll_of_notices h.notices, Sequencer.tells_stateOffers,
    Sequencer.tells_demandOffers]
  rfl

theorem Sequencer.runs_finish {old p q : Sequencer} (hs : p.still = q.still) (ho : old.fewOutcomes → p.fewOutcomes)
    {all : Bool} : old.Runs q (old.finish p all) := by
  have h := (Sequencer.Reacts.pure (q := p) (p := p) rfl id).finish ho (f := id) rfl id (all := all)
  exact ⟨h.still.trans hs, h.outcomes, h.made, h.tells⟩

theorem Sequencer.runs_pure {old q p : Sequencer} (hs : p.still = q.still) (ho : old.fewOutcomes → p.fewOutcomes)
    (ht : ∀ h, old.tells h = p.tells h) : old.Runs q (.pure p) :=
  ⟨hs, ho, .nil _, ht⟩

theorem Sequencer.runs_event {old q : Sequencer} {t : Moment} (ho : old.fewOutcomes → q.fewOutcomes) :
    old.Runs q (old.event q t) :=
  (old.reacts_react q t).finish ho (f := id) rfl id (all := false)

/-- Outcomes stand in the two side arms. -/
theorem Sequencer.fewOutcomes_of {q p : Sequencer} (hl : p.left.outcomes = q.left.outcomes)
    (hr : p.right.outcomes = q.right.outcomes) (h : q.fewOutcomes) : p.fewOutcomes := by
  rw [Sequencer.fewOutcomes_iff, hl, hr]
  exact q.fewOutcomes_iff.1 h

theorem Sequencer.runs_takeMeasures (q : Sequencer) (t : Moment) (a b c d : Option Int) :
    q.Runs q (q.takeMeasures t a b c d) := by
  unfold Sequencer.takeMeasures
  dsimp only
  split
  · have hr := Sequencer.reacts_arms
      (q := { q with left := { q.left with position := a, pressure := c }
                     right := { q.right with position := b, pressure := d } })
      (m := q.main) (x := q.regTimer) (ArmRecord.runs_published _ .left t) (ArmRecord.runs_published _ .right t) rfl
    have hf := hr.finish (old := q) (Sequencer.fewOutcomes_of (by rfl) (by rfl)) (f := id) rfl id (all := false)
    exact ⟨hf.still, hf.outcomes, hf.made, hf.tells⟩
  · exact Sequencer.runs_finish (by rfl) (Sequencer.fewOutcomes_of (by rfl) (by rfl))

/-- The record with a profile row taken. -/
def Sequencer.profiled (q : Sequencer) (r : Profile) : Sequencer :=
  { q with
    left := { q.left with reach := r.reachL }, right := { q.right with reach := r.reachR }
    pressTarget := r.pressTarget, mainRpm := r.mainRpm, sideRpm := r.sideRpm, armsUsed := r.armsUsed }

/-- The arms whose reach has changed test it (09 R146). -/
def Sequencer.newReaches (q : Sequencer) (t : Moment) (l r : Nat) (p : Sequencer) : Sequencer :=
  if p.mode.working then
    { p with
      left := if l = q.left.reach then p.left else p.left.newReach t
      right := if r = q.right.reach then p.right else p.right.newReach t }
  else p

theorem Sequencer.newReaches_kept (q : Sequencer) (t : Moment) (l r : Nat) (p : Sequencer) :
    (q.newReaches t l r p).still = p.still ∧ (p.fewOutcomes → (q.newReaches t l r p).fewOutcomes) := by
  unfold Sequencer.newReaches
  split
  · have hl : ∀ a : ArmRecord, ∀ n k : Nat, (if n = k then a else a.newReach t).still = a.still ∧
        (if n = k then a else a.newReach t).outcomes = a.outcomes := by
      intro a n k
      split
      · exact ⟨rfl, rfl⟩
      · exact a.newReach_kept t
    exact ⟨Sequencer.still_of_records (hl _ _ _).1 (hl _ _ _).1 rfl,
      Sequencer.fewOutcomes_of (hl _ _ _).2 (hl _ _ _).2⟩
  · exact ⟨rfl, id⟩

theorem Sequencer.runs_takeProfile (q : Sequencer) (t : Moment) (r : Profile) :
    q.Runs (q.profiled r) (q.takeProfile t r) := by
  obtain ⟨hs, ho⟩ := q.newReaches_kept t r.reachL r.reachR (q.react (q.profiled r) t).val
  exact (q.reacts_react (q.profiled r) t).finish (old := q) (Sequencer.fewOutcomes_of rfl rfl)
    (f := q.newReaches t r.reachL r.reachR) hs ho

theorem Sequencer.runs_takeFailed (q : Sequencer) (t : Moment) (l r m : Bool) :
    q.Runs { q with left := { q.left with liftFailed := l }, right := { q.right with liftFailed := r },
                    main := { q.main with liftFailed := m } } (q.takeFailed t l r m) := by
  have hl := q.left.runs_takeFailed .left t (q.mode == .service) l
  have hr := q.right.runs_takeFailed .right t (q.mode == .service) r
  obtain ⟨hs, hn⟩ := q.main.takeFailed_kept (q.mode == .service) m
  have hreact := Sequencer.reacts_arms
    (q := { q with left := { q.left with liftFailed := l }, right := { q.right with liftFailed := r },
                   main := { q.main with liftFailed := m } }) (x := q.regTimer) hl hr hs
  have hall : Sequencer.Reacts _ (⟨_, _ ++ (_ ++ (_ ++ []))⟩ : Emit Sequencer) :=
    ⟨hreact.still, hreact.outcomes, hl.notices.append (hr.notices.append (hn.append .nil))⟩
  have hf := hall.finish (old := q) (Sequencer.fewOutcomes_of (by rfl) (by rfl)) (f := id) rfl id (all := false)
  refine ⟨hf.still, hf.outcomes, ?_, fun h => ?_⟩
  · have := hf.made
    simpa [Sequencer.takeFailed] using this
  · have := hf.tells h
    simpa [Sequencer.takeFailed] using this

theorem Sequencer.runs_halt (q : Sequencer) (t : Moment) (m : Mode) : q.Runs { q with mode := m } (q.halt t m) := by
  have hreact := Sequencer.reacts_arms (q := { q with mode := m }) (m := q.main.halt) (x := none)
    (q.left.runs_halt .left t) (q.right.runs_halt .right t) rfl
  have hf := hreact.finish (old := q) (Sequencer.fewOutcomes_of (by rfl) (by rfl)) (f := id) rfl id (all := false)
  refine ⟨hf.still, hf.outcomes, ?_, fun h => ?_⟩
  · have := hf.made
    simpa [Sequencer.halt] using this
  · have := hf.tells h
    simpa [Sequencer.halt] using this

theorem Sequencer.runs_takeMode (q : Sequencer) (t : Moment) (m : Mode) :
    q.Runs { q with mode := m } (q.takeMode t m) := by
  unfold Sequencer.takeMode
  split
  · exact Sequencer.runs_event (Sequencer.fewOutcomes_of (by rfl) (by rfl))
  · exact q.runs_halt t m

theorem Sequencer.runs_start (q : Sequencer) (t : Moment) : q.Runs { q with mode := .transport } (q.start t) := by
  have hreact := Sequencer.reacts_arms (q := { q with mode := .transport }) (m := q.main.start t)
    (x := some (after t.now regulationInterval)) (q.left.runs_start .left t) (q.right.runs_start .right t)
    (q.main.still_start t)
  have hf := hreact.finish (old := q) (Sequencer.fewOutcomes_of (by rfl) (by rfl)) (f := id) rfl id (all := true)
  refine ⟨hf.still, hf.outcomes, ?_, fun h => ?_⟩
  · have := hf.made
    simpa [Sequencer.start] using this
  · have := hf.tells h
    simpa [Sequencer.start] using this

theorem Sequencer.runs_restart (q : Sequencer) : q.Runs q.autoCommands q.restart := by
  refine Sequencer.runs_finish (by rfl) fun _ => ?_
  exact (Sequencer.fewOutcomes_iff _).2 ⟨Nat.zero_le 3, Nat.zero_le 3⟩

theorem Sequencer.runs_holderChanged (q : Sequencer) (t : Moment) : q.Runs q.autoCommands (q.holderChanged t) :=
  Sequencer.runs_event (Sequencer.fewOutcomes_of (by rfl) (by rfl))

theorem Sequencer.runs_armCommand (q : Sequencer) (t : Moment) (x : Side) (c : ArmCommand) :
    q.Runs (q.setArm x { q.arm x with command := c }) (q.armCommand t x c) := by
  cases x <;> exact Sequencer.runs_event (Sequencer.fewOutcomes_of (by rfl) (by rfl))

theorem Sequencer.runs_broomCommand (q : Sequencer) (t : Moment) (c : BroomCommand) :
    q.Runs { q with main := { q.main with command := c } } (q.broomCommand t c) :=
  Sequencer.runs_event (Sequencer.fewOutcomes_of (by rfl) (by rfl))

/-- An arm's own event. -/
theorem Sequencer.runs_armEvent (q : Sequencer) (x : Side) {e : Emit ArmRecord} (h : (q.arm x).Runs e) :
    q.Runs q (q.armEvent x e) := by
  have hreact : q.Reacts ⟨q.setArm x e.val, e.out⟩ := by
    refine ⟨?_, fun ho => ?_, h.notices⟩
    · cases x
      · exact Sequencer.still_of_records (x := q.regTimer) h.still rfl rfl
      · exact Sequencer.still_of_records (x := q.regTimer) rfl h.still rfl
    · intro y
      rw [Sequencer.arm_setArm]
      split
      · exact h.outcomes (ho x)
      · exact ho y
  have hf := hreact.finish (old := q) id (f := id) rfl id (all := false)
  exact ⟨hf.still, hf.outcomes, hf.made, hf.tells⟩

theorem Sequencer.runs_refl (q : Sequencer) : q.Runs q (.pure q) := Sequencer.runs_pure rfl id fun _ => rfl

theorem Sequencer.runs_swingExpiry (q : Sequencer) (t : Moment) (x : Side) : q.Runs q (q.swingExpiry t x) := by
  unfold Sequencer.swingExpiry
  split
  · split
    · exact q.runs_armEvent x (ArmRecord.runs_failAttempt _ x t (fun _ => rfl) fun _ => rfl)
    · exact q.runs_armEvent x (ArmRecord.runs_failAttempt _ x t (fun _ => rfl) fun _ => rfl)
    all_goals exact q.runs_refl
  · exact q.runs_refl

theorem Sequencer.runs_retryExpiry (q : Sequencer) (t : Moment) (x : Side) : q.Runs q (q.retryExpiry t x) := by
  unfold Sequencer.retryExpiry
  split
  · refine q.runs_armEvent x ?_
    split <;> exact .pure rfl rfl
  · exact q.runs_refl

theorem Sequencer.runs_lowerExpiry (q : Sequencer) (t : Moment) (x : Side) : q.Runs q (q.lowerExpiry t x) := by
  unfold Sequencer.lowerExpiry
  split
  · exact q.runs_armEvent x (.pure rfl rfl)
  · exact q.runs_refl

theorem Sequencer.runs_yieldExpiry (q : Sequencer) (t : Moment) (x : Side) : q.Runs q (q.yieldExpiry t x) := by
  unfold Sequencer.yieldExpiry
  split
  · exact q.runs_armEvent x (ArmRecord.runs_failAttempt _ x t (fun _ => rfl) fun _ => rfl)
  · exact q.runs_refl

theorem Sequencer.runs_liftExpiry (q : Sequencer) (t : Moment) (x : Side) : q.Runs q (q.liftExpiry t x) := by
  unfold Sequencer.liftExpiry
  split
  · refine q.runs_armEvent x ?_
    split
    · exact .pure rfl rfl
    · split
      · exact .pure rfl rfl
      · obtain ⟨hs, ho⟩ := ((q.arm x).enter .raised none).advance_kept t (q.free x)
        exact .pure hs ho
  · exact q.runs_refl

theorem Sequencer.runs_mainLowerExpiry (q : Sequencer) (t : Moment) : q.Runs q (q.mainLowerExpiry t) := by
  unfold Sequencer.mainLowerExpiry
  split
  · exact Sequencer.runs_finish (by rfl) (Sequencer.fewOutcomes_of (by rfl) (by rfl))
  · exact q.runs_refl

theorem Sequencer.runs_mainLiftExpiry (q : Sequencer) (t : Moment) : q.Runs q (q.mainLiftExpiry t) := by
  unfold Sequencer.mainLiftExpiry
  split
  · exact Sequencer.runs_finish (Sequencer.still_of_records (x := q.regTimer) (by rfl) (by rfl)
      ((q.main.enter .up none).still_advance t q.wantedDown)) (Sequencer.fewOutcomes_of (by rfl) (by rfl))
  · exact q.runs_refl

theorem Sequencer.runs_output (q : Sequencer) (x : OutputTarget) (v : Int) : q.Runs q (q.output x v) := by
  unfold Sequencer.output
  cases x
  case broomArm y | swing y | press y | lift y =>
    cases y <;> exact Sequencer.runs_finish (by rfl) (Sequencer.fewOutcomes_of (by rfl) (by rfl))
  all_goals exact Sequencer.runs_finish (by rfl) (Sequencer.fewOutcomes_of (by rfl) (by rfl))

/-- A regulation step moves pressures alone. -/
theorem Sequencer.regulationStep_kept (q : Sequencer) (now : Time) :
    (q.regulationStep now).still = q.still ∧ (q.fewOutcomes → (q.regulationStep now).fewOutcomes) ∧
      ∀ h, (q.regulationStep now).tells h = q.tells h := by
  have harm : ∀ (a : ArmRecord) n b, (a.regulated n b).still = a.still ∧ (a.regulated n b).outcomes = a.outcomes ∧
      (a.regulated n b).state = a.state ∧ (a.regulated n b).inStow = a.inStow ∧
      (a.regulated n b).liftFailed = a.liftFailed := by
    intro a n b
    unfold ArmRecord.regulated
    split
    · split <;> exact ⟨rfl, rfl, rfl, rfl, rfl⟩
    · exact ⟨rfl, rfl, rfl, rfl, rfl⟩
  unfold Sequencer.regulationStep
  split
  · exact ⟨rfl, id, fun _ => rfl⟩
  · split
    · obtain ⟨ls, lo, lst, li, lf⟩ := harm q.left (min q.pressTarget q.armPressMax) q.stale
      obtain ⟨rs, ro, rst, ri, rf⟩ := harm q.right (min q.pressTarget q.armPressMax) q.stale
      exact ⟨Sequencer.still_of_records ls rs rfl, Sequencer.fewOutcomes_of lo ro,
        fun h => by simp only [Sequencer.tells, Sequencer.report, lst, li, lf, rst, ri, rf]⟩
    · exact ⟨rfl, id, fun _ => rfl⟩

/-- A WRITE changes settings alone. -/
theorem Sequencer.writeSettings_kept (q : Sequencer) (m : Mode) (i : Nat) (x : ArmSettings) :
    (q.writeSettings m i x).1.val.copies = q.copies ∧ (q.fewOutcomes → (q.writeSettings m i x).1.val.fewOutcomes) ∧
      (q.writeSettings m i x).1.out = [] ∧ ∀ h, (q.writeSettings m i x).1.val.tells h = q.tells h := by
  unfold Sequencer.writeSettings
  split
  · exact ⟨rfl, id, rfl, fun _ => rfl⟩
  · split
    · exact ⟨rfl, id, rfl, fun _ => rfl⟩
    · split <;> exact ⟨rfl, Sequencer.fewOutcomes_of (by rfl) (by rfl), rfl, fun _ => rfl⟩

end Sys2Proof.Machine
end

section
/-! The copies are what the offers on their way make of them: how the copies of a block follow the offers it takes, and
how what an owner holds goes with the offers it makes (00 section 3.1). -/

namespace Sys2Proof.Machine

/-! ### Mode and path counter on their way -/

/-- The budget table's mode once an offer is taken. -/
def Mode.afterBudget (m : Mode) : Offer → Mode
  | .budgetMode x => x
  | .budgetStart _ => .transport
  | _ => m

/-- The chain driver's mode once an offer is taken. -/
def Mode.afterChain (m : Mode) : Offer → Mode
  | .chainMode x => x
  | _ => m

/-- The path counter once an offer is taken. -/
def pathAfter (n : Nat) : Offer → Nat
  | .pulseStart | .pulseRestart => 0
  | _ => n

/-- The selector's path copy once an offer is taken. -/
def selectorPathAfter (n : Nat) : Offer → Nat
  | .selectorPath p _ => p
  | .selectorStart | .selectorRestart => 0
  | _ => n

/-- The water controller's path copy once an offer is taken. -/
def waterPathAfter (n : Nat) : Offer → Nat
  | .waterPath p _ => p
  | .waterStart | .waterRestart => 0
  | _ => n

/-- The offer moves the path counter or a copy of it. -/
def Offer.movesPath : Offer → Bool
  | .selectorPath .. | .waterPath .. | .pulseStart | .pulseRestart | .selectorStart | .selectorRestart | .waterStart
  | .waterRestart => true
  | _ => false

/-- The offer carries the machine mode to the budget table or the chain driver. -/
def Offer.movesMode : Offer → Bool
  | .budgetMode _ | .budgetStart _ | .chainMode _ => true
  | _ => false

/-- Offers that move neither the path counter nor the mode of budget table and chain driver. -/
def Plain (out : List Offer) : Prop := ∀ o ∈ out, o.movesPath = false ∧ o.movesMode = false

/-- An accumulation that no member of a list changes. -/
theorem foldl_of_fixed {α β : Type} {f : α → β → α} {l : List β} (h : ∀ o ∈ l, ∀ a, f a o = a) (a : α) :
    l.foldl f a = a := by
  induction l with
  | nil => rfl
  | cons o l ih =>
    rw [List.foldl_cons, h o List.mem_cons_self]
    exact ih fun x hx => h x (List.mem_cons_of_mem _ hx)

section
variable {out : List Offer}

theorem foldl_pathAfter (h : ∀ o ∈ out, o.movesPath = false) (n : Nat) : out.foldl pathAfter n = n :=
  foldl_of_fixed (fun o ho _ => by have := h o ho; cases o <;> first | rfl | cases this) n

theorem foldl_selectorPathAfter (h : ∀ o ∈ out, o.movesPath = false) (n : Nat) :
    out.foldl selectorPathAfter n = n :=
  foldl_of_fixed (fun o ho _ => by have := h o ho; cases o <;> first | rfl | cases this) n

theorem foldl_waterPathAfter (h : ∀ o ∈ out, o.movesPath = false) (n : Nat) : out.foldl waterPathAfter n = n :=
  foldl_of_fixed (fun o ho _ => by have := h o ho; cases o <;> first | rfl | cases this) n

theorem Plain.budget (h : Plain out) (m : Mode) : out.foldl Mode.afterBudget m = m :=
  foldl_of_fixed (fun o ho _ => by have := (h o ho).2; cases o <;> first | rfl | cases this) m

theorem Plain.chain (h : Plain out) (m : Mode) : out.foldl Mode.afterChain m = m :=
  foldl_of_fixed (fun o ho _ => by have := (h o ho).2; cases o <;> first | rfl | cases this) m

end

theorem Notices.plain {out : List Offer} (h : Notices out) : Plain out := by
  intro o ho
  have := h o ho
  cases o
  case post | postTo => exact ⟨rfl, rfl⟩
  case demand c _ => cases c <;> cases this
  all_goals cases this

/-- The makers whose offers are plain, whatever they are. -/
def Maker.plain : Maker → Bool
  | .scanner | .monitor | .budget | .governor | .sequencer | .water | .chain => true
  | .modeController | .pulse | .selector => false

theorem MadeBy.plain {b : Maker} {out : List Offer} (h : MadeBy b out) (hb : b.plain = true) : Plain out := by
  intro o ho
  obtain hn | hm := h o ho
  · exact Notices.plain (out := [o]) (by simpa [Notices] using hn) o List.mem_cons_self
  · cases o
    case demand => exact ⟨rfl, rfl⟩
    all_goals
      first
      | exact ⟨rfl, rfl⟩
      | (cases hm; cases hb)

/-- Of the pulse unit's offers those are plain that do not set the path copies. -/
theorem MadeBy.plain_of_pulse {out : List Offer} (h : MadeBy .pulse out) (hp : ∀ o ∈ out, o.setsPath = false) :
    Plain out := by
  intro o ho
  obtain hn | hm := h o ho
  · exact Notices.plain (out := [o]) (by simpa [Notices] using hn) o List.mem_cons_self
  · have hpo := hp o ho
    cases o
    case selectorPath | waterPath => cases hpo
    case demand c _ => cases c <;> cases hm
    all_goals first | exact ⟨rfl, rfl⟩ | cases hm

/-! ### The mode controller -/

/-- An event of the mode controller: mode and limits are told when they change. -/
structure ModeController.Runs (c : ModeController) (e : Emit ModeController) : Prop where
  pathless : ∀ o ∈ e.out, o.movesPath = false
  tells : ∀ h, (c.tells h).takeAll e.out = e.val.tells h
  budget : e.out.foldl Mode.afterBudget c.mode = e.val.mode
  chain : e.out.foldl Mode.afterChain c.mode = e.val.mode

/-- An event after which mode and limits are as before, and which offers nothing but notices and changes of holder. -/
theorem ModeController.Runs.of_same {c : ModeController} {e : Emit ModeController} (hm : e.val.mode = c.mode)
    (hl : e.val.limits = c.limits) (h : ∀ o ∈ e.out, o.maker = none ∨ ∃ d, o = .holderChanged d) : c.Runs e := by
  have hp : Plain e.out := by
    intro o ho
    obtain hn | ⟨d, rfl⟩ := h o ho
    · exact Notices.plain (out := [o]) (by simpa [Notices] using hn) o List.mem_cons_self
    · exact ⟨rfl, rfl⟩
  have ht : ∀ x : Held, x.takeAll e.out = x :=
    foldl_of_fixed fun o ho x => by
      obtain hn | ⟨d, rfl⟩ := h o ho
      · exact Held.take_of_notice hn x
      · rfl
  exact ⟨fun o ho => (hp o ho).1, fun x => by rw [ht]; simp [ModeController.tells, hm, hl],
    (hp.budget _).trans hm.symm, (hp.chain _).trans hm.symm⟩

theorem ModeController.runs_enterMode (c : ModeController) (m : Mode) (x : Cause) : c.Runs (c.enterMode m x) := by
  cases m <;> exact ⟨by simp [ModeController.enterMode, offerIf, Offer.movesPath], fun _ => rfl, rfl, rfl⟩

/-- Another record of the same mode and limits. -/
theorem ModeController.Runs.of {c d : ModeController} {e : Emit ModeController} (h : d.Runs e) (hm : d.mode = c.mode)
    (hl : d.limits = c.limits) : c.Runs e :=
  ⟨h.pathless, fun x => by rw [← h.tells]; simp [ModeController.tells, hm, hl], hm ▸ h.budget, hm ▸ h.chain⟩

theorem ModeController.runs_pure {c d : ModeController} (hm : d.mode = c.mode) (hl : d.limits = c.limits) :
    c.Runs (.pure d) :=
  .of_same hm hl fun _ ho => absurd ho List.not_mem_nil

theorem ModeController.runs_takeHalt (c : ModeController) (b : Bool) : c.Runs (c.takeHalt b) := by
  unfold ModeController.takeHalt
  dsimp only
  split
  · exact (ModeController.runs_enterMode _ _ _).of rfl rfl
  · exact ModeController.runs_pure rfl rfl

theorem ModeController.runs_stowTest (c : ModeController) : c.Runs c.stowTest := by
  unfold ModeController.stowTest
  split
  · exact c.runs_enterMode _ _
  · exact ModeController.runs_pure rfl rfl

theorem ModeController.runs_takeImplements (c : ModeController) (l r : ArmState) (m : BroomState) :
    c.Runs (c.takeImplements l r m) :=
  (ModeController.runs_stowTest _).of rfl rfl

/-! ### What is told -/

/-- From `s` to `t` the offers `out` are made, and what they tell is what the owners have changed. -/
structure State.Tells (s t : State) (out : List Offer) : Prop where
  offers : t.offers = s.offers ++ out
  told : s.told.takeAll out = t.told
  pathless : ∀ o ∈ out, o.movesPath = false
  budget : out.foldl Mode.afterBudget s.mc.mode = t.mc.mode
  chain : out.foldl Mode.afterChain s.mc.mode = t.mc.mode

theorem State.Tells.of_plain {s t : State} {out : List Offer} (ho : t.offers = s.offers ++ out)
    (ht : s.told.takeAll out = t.told) (hp : Plain out) (hm : t.mc.mode = s.mc.mode) : s.Tells t out :=
  ⟨ho, ht, fun o h => (hp o h).1, (hp.budget _).trans hm.symm, (hp.chain _).trans hm.symm⟩

section
variable (s : State)

theorem State.tells_withMc {e : Emit ModeController} (h : s.mc.Runs e) : s.Tells (s.withMc e) e.out :=
  ⟨rfl, h.tells _, h.pathless, h.budget, h.chain⟩

theorem State.tells_withScanner {e : Emit Scanner} (hm : MadeBy .scanner e.out)
    (h : ∀ x, (s.scanner.tells x).takeAll e.out = e.val.tells x) : s.Tells (s.withScanner e) e.out :=
  .of_plain rfl (h (s.mc.tells (s.monitor.tells (s.pulse.tells (s.selector.activeRow.tells (s.budget.tells
    (s.governor.tells (s.sequencer.tells (s.chain.tells State.reset.held))))))))) (hm.plain rfl) rfl

theorem State.tells_withMonitor {e : Emit Monitor} (h : s.monitor.Runs e) : s.Tells (s.withMonitor e) e.out :=
  .of_plain rfl (h.tells (s.mc.tells (s.scanner.tells (s.pulse.tells (s.selector.activeRow.tells (s.budget.tells
    (s.governor.tells (s.sequencer.tells (s.chain.tells State.reset.held))))))))) (h.made.plain rfl) rfl

theorem State.tells_withPulse {e : Emit Pulse} (hm : Plain e.out)
    (h : ∀ x, (s.pulse.tells x).takeAll e.out = e.val.tells x) : s.Tells (s.withPulse e) e.out :=
  .of_plain rfl (h (s.mc.tells (s.scanner.tells (s.monitor.tells (s.selector.activeRow.tells (s.budget.tells
    (s.governor.tells (s.sequencer.tells (s.chain.tells State.reset.held))))))))) hm rfl

theorem State.tells_withSelector {e : Emit Selector} (h : s.selector.Runs e) : s.Tells (s.withSelector e) e.out := by
  refine .of_plain rfl (h.tells (s.mc.tells (s.scanner.tells (s.monitor.tells (s.pulse.tells (s.budget.tells
    (s.governor.tells (s.sequencer.tells (s.chain.tells State.reset.held))))))))) (fun o ho => ?_) rfl
  obtain hn | hm := h.made o ho
  · exact Notices.plain (out := [o]) (by simpa [Notices] using hn) o List.mem_cons_self
  · cases o
    case budgetStart l => exact absurd ho (h.noStart l)
    case demand c _ => exact ⟨rfl, rfl⟩
    all_goals first | exact ⟨rfl, rfl⟩ | cases hm

theorem State.tells_withBudget {e : Emit Budget} (hm : MadeBy .budget e.out)
    (h : ∀ x, (s.budget.tells x).takeAll e.out = e.val.tells x) : s.Tells (s.withBudget e) e.out :=
  .of_plain rfl (h (s.mc.tells (s.scanner.tells (s.monitor.tells (s.pulse.tells (s.selector.activeRow.tells
    (s.governor.tells (s.sequencer.tells (s.chain.tells State.reset.held))))))))) (hm.plain rfl) rfl

theorem State.tells_withGovernor {e : Emit Governor} (hm : MadeBy .governor e.out)
    (h : ∀ x, (s.governor.tells x).takeAll e.out = e.val.tells x) : s.Tells (s.withGovernor e) e.out :=
  .of_plain rfl (h (s.mc.tells (s.scanner.tells (s.monitor.tells (s.pulse.tells (s.selector.activeRow.tells
    (s.budget.tells (s.sequencer.tells (s.chain.tells State.reset.held))))))))) (hm.plain rfl) rfl

theorem State.tells_withSequencer {e : Emit Sequencer} (hm : MadeBy .sequencer e.out)
    (h : ∀ x, (s.sequencer.tells x).takeAll e.out = e.val.tells x) : s.Tells (s.withSequencer e) e.out :=
  .of_plain rfl (h (s.mc.tells (s.scanner.tells (s.monitor.tells (s.pulse.tells (s.selector.activeRow.tells
    (s.budget.tells (s.governor.tells (s.chain.tells State.reset.held))))))))) (hm.plain rfl) rfl

theorem State.tells_withWater {e : Emit Water} (hm : MadeBy .water e.out) : s.Tells (s.withWater e) e.out := by
  refine .of_plain rfl (foldl_of_fixed (fun o ho x => ?_) _) (hm.plain rfl) rfl
  obtain hn | hw := hm o ho
  · exact Held.take_of_notice hn x
  · cases o
    case demand | chainWater => rfl
    all_goals cases hw

theorem State.tells_withChain {e : Emit Chain} (h : s.chain.Runs e) : s.Tells (s.withChain e) e.out :=
  .of_plain rfl (h.tells (s.mc.tells (s.scanner.tells (s.monitor.tells (s.pulse.tells (s.selector.activeRow.tells
    (s.budget.tells (s.governor.tells (s.sequencer.tells State.reset.held))))))))) (h.made.plain rfl) rfl

end

/-- A state in which no owner differs and no offer is made. -/
theorem State.Tells.of_told {s t : State} (ho : t.offers = s.offers) (ht : t.told = s.told)
    (hm : t.mc.mode = s.mc.mode) : s.Tells t [] :=
  ⟨by simp [ho], ht.symm, fun _ h => absurd h List.not_mem_nil, hm.symm, hm.symm⟩

end Sys2Proof.Machine
end

section
/-! What an offer makes of its receiver's copies and what the receiver then tells; the agreement of copies and owners but
for the offers on their way, which every offer keeps. -/

namespace Sys2Proof.Machine

/-! ### Copies after an event -/

theorem Governor.Runs.copies {g : Governor} {e : Emit Governor} (h : g.Runs e) : e.val.copies = g.copies :=
  congrArg (·.2.2.2.2.2) h.still

theorem Water.Runs.copies {w : Water} {e : Emit Water} (h : w.Runs e) : e.val.copies = w.copies :=
  congrArg (·.2.2.2.2.2) h.still

theorem Water.Runs.path {w : Water} {e : Emit Water} (h : w.Runs e) : e.val.copies.path = w.copies.path :=
  congrArg WaterCopies.path h.copies

theorem Sequencer.Runs.copies {old q : Sequencer} {e : Emit Sequencer} (h : old.Runs q e) : e.val.copies = q.copies :=
  congrArg (·.1) h.still

theorem Budget.Runs.kept {old : BudgetRows} {b : Budget} {e : Emit Budget} (h : Budget.Runs old b e) :
    e.val.mode = b.mode ∧ e.val.derate = b.derate ∧ (fun c => (e.val.rows.get c).rank) = fun c => (b.rows.get c).rank :=
  ⟨congrArg (·.2.1) h.still, congrArg (·.2.2.1) h.still,
    funext fun c => congrArg (fun x => (x.2.2.2 c).2.2) h.still⟩

theorem Selector.path_applyChange (x : Selector) (r : Fin 8) (c : ZoneCode) : (x.applyChange r c).val.path = x.path := by
  unfold Selector.applyChange
  dsimp only
  split <;> rfl

theorem Selector.path_pathAdvance (x : Selector) (n k : Nat) : (x.pathAdvance n k).val.path = n := by
  unfold Selector.pathAdvance
  dsimp only
  split
  · rfl
  · exact Selector.path_applyChange _ _ _

theorem Selector.path_restart (x : Selector) : x.restart.val.path = 0 := by
  unfold Selector.restart
  dsimp only
  split <;> rfl

theorem ModeController.takeHalt_copies (c : ModeController) (b : Bool) :
    (c.takeHalt b).val.haltTrip = b ∧ (c.takeHalt b).val.armL = c.armL ∧ (c.takeHalt b).val.armR = c.armR ∧
      (c.takeHalt b).val.main = c.main := by
  unfold ModeController.takeHalt
  dsimp only
  split <;> exact ⟨rfl, rfl, rfl, rfl⟩

theorem ModeController.stowTest_copies (c : ModeController) :
    c.stowTest.val.haltTrip = c.haltTrip ∧ c.stowTest.val.armL = c.armL ∧ c.stowTest.val.armR = c.armR ∧
      c.stowTest.val.main = c.main := by
  unfold ModeController.stowTest
  split <;> exact ⟨rfl, rfl, rfl, rfl⟩

/-! ### The copies when an offer is taken -/

/-- From `s` to `t` the copies become what the offer `o` makes of them. -/
structure State.Takes (s : State) (o : Offer) (t : State) : Prop where
  held : t.held = s.held.take o
  budget : t.budget.mode = s.budget.mode.afterBudget o
  chain : t.chain.mode = s.chain.mode.afterChain o
  path : t.pulse.path = pathAfter s.pulse.path o
  selectorPath : t.selector.path = selectorPathAfter s.selector.path o
  waterPath : t.water.copies.path = waterPathAfter s.water.copies.path o

section
variable {s : State}

theorem State.held_withGovernor {e : Emit Governor} {c : TravelCopies} (h : e.val.copies = c) :
    (s.withGovernor e).held = { s.held with governor := c.offered } := by
  subst h; rfl

theorem State.held_withSequencer {e : Emit Sequencer} {c : SequencerCopies} (h : e.val.copies = c) :
    (s.withSequencer e).held = { s.held with sequencer := c } := by
  subst h; rfl

theorem State.held_withWater {e : Emit Water} {c : WaterCopies} (h : e.val.copies = c) :
    (s.withWater e).held = { s.held with water := c.offered } := by
  subst h; rfl

theorem State.held_withBudget {e : Emit Budget} {n : Nat} {f : Consumer → Nat} (hd : e.val.derate = n)
    (hr : (fun c => (e.val.rows.get c).rank) = f) :
    (s.withBudget e).held = { s.held with derate := n, ranks := f } := by
  subst hd hr; rfl

end

/-- The ranks of the rows are no part of what a mode or a demand changes. -/
theorem Budget.rank_offered (b : Budget) (c : Consumer) (n : Nat) :
    (fun k => ((b.offered c n).rows.get k).rank) = fun k => (b.rows.get k).rank := by
  funext k
  cases c <;> cases k <;> rfl

theorem BudgetRows.rank_forMode (r : BudgetRows) (m : Mode) :
    (fun k => ((r.forMode m).get k).rank) = fun k => (r.get k).rank := by
  funext k
  cases k <;> rfl

theorem BudgetRows.rank_ranked (r : BudgetRows) (l : List Consumer) :
    (fun k => ((r.ranked l).get k).rank) = rankIn l := by
  funext k
  cases k <;> rfl

theorem BudgetRows.rank_cleared (r : BudgetRows) : (fun k => (r.cleared.get k).rank) = fun k => (r.get k).rank := by
  funext k
  cases k <;> rfl

/-- RESTART of the window monitor reaches no copy. -/
theorem State.takes_monitorRestart (s : State) (e : Emit Monitor) : s.Takes .monitorRestart (s.withMonitor e) :=
  ⟨rfl, rfl, rfl, rfl, rfl, rfl⟩

/-- Every offer makes of the copies what it says. -/
theorem deliver_takes (o : Offer) (s : State) : s.Takes o (deliver o s) := by
  have go : ∀ {e : Emit Governor} {g : Governor} (_ : g.Runs e) {p} (_ : s.held.take p =
      { s.held with governor := g.copies.offered }), (s.withGovernor e).held = s.held.take p :=
    fun h _ hp => (State.held_withGovernor h.copies).trans hp.symm
  have se : ∀ {e : Emit Sequencer} {q : Sequencer} (_ : s.sequencer.Runs q e) {p} (_ : s.held.take p =
      { s.held with sequencer := q.copies }), (s.withSequencer e).held = s.held.take p :=
    fun h _ hp => (State.held_withSequencer h.copies).trans hp.symm
  have wa : ∀ {e : Emit Water} {w : Water} (_ : w.Runs e) {p} (_ : s.held.take p =
      { s.held with water := w.copies.offered }), (s.withWater e).held = s.held.take p :=
    fun h _ hp => (State.held_withWater h.copies).trans hp.symm
  have bu : ∀ {e : Emit Budget} {r : BudgetRows} {b : Budget} (_ : Budget.Runs r b e) {f} (_ :
      (fun c => (b.rows.get c).rank) = f) {p} (_ : s.held.take p =
      { s.held with derate := b.derate, ranks := f }), (s.withBudget e).held = s.held.take p :=
    fun h _ hf _ hp => (State.held_withBudget h.kept.2.1 (h.kept.2.2.trans hf)).trans hp.symm
  cases o
  case post | postTo => exact ⟨rfl, rfl, rfl, rfl, rfl, rfl⟩
  case monitorRestart => exact s.takes_monitorRestart _
  case scannerHalted | scannerStart | scannerRestart | pulseStart | pulseRestart | selectorStart =>
    exact ⟨rfl, rfl, rfl, rfl, rfl, rfl⟩
  case selectorRestart => exact ⟨rfl, rfl, rfl, rfl, Selector.path_restart _, rfl⟩
  case selectorPath n k => exact ⟨rfl, rfl, rfl, rfl, Selector.path_pathAdvance _ n k, rfl⟩
  case haltOutput b =>
    obtain ⟨hh, hl, hr, hm⟩ := s.mc.takeHalt_copies b
    exact ⟨by simp only [State.held, deliver, State.withMc, State.emit_mc, State.setMc_mc, hh, hl, hr, hm]; rfl,
      rfl, rfl, rfl, rfl, rfl⟩
  case modeImplements l r m =>
    obtain ⟨hh, hl, hr, hm⟩ := ModeController.stowTest_copies { s.mc with armL := l, armR := r, main := m }
    exact ⟨by simp only [State.held, deliver, State.withMc, State.emit_mc, State.setMc_mc,
      ModeController.takeImplements, hh, hl, hr, hm]; rfl, rfl, rfl, rfl, rfl, rfl⟩
  case budgetMode m =>
    have h := s.budget.runs_takeMode s.mc.time m
    exact ⟨bu h (BudgetRows.rank_forMode _ m) rfl, h.kept.1, rfl, rfl, rfl, rfl⟩
  case budgetStart l =>
    have h := s.budget.runs_start s.mc.time l
    exact ⟨bu h (BudgetRows.rank_ranked _ l) rfl, h.kept.1, rfl, rfl, rfl, rfl⟩
  case budgetRestart =>
    have h := s.budget.runs_restart s.mc.time
    exact ⟨bu h (BudgetRows.rank_cleared _) rfl, h.kept.1, rfl, rfl, rfl, rfl⟩
  case budgetDerate n =>
    have h := s.budget.runs_takeDerate s.mc.time n
    exact ⟨bu h rfl rfl, h.kept.1, rfl, rfl, rfl, rfl⟩
  case budgetRanks l =>
    have h := s.budget.runs_takeRanks s.mc.time l
    exact ⟨bu h (BudgetRows.rank_ranked _ l) rfl, h.kept.1, rfl, rfl, rfl, rfl⟩
  case demand c n =>
    have h := s.budget.runs_takeDemand s.mc.time c n
    exact ⟨bu h (s.budget.rank_offered c n) rfl, h.kept.1, rfl, rfl, rfl, rfl⟩
  case governorMode m =>
    exact ⟨State.held_withGovernor (s.governor.takeMode_told s.mc.time m).1, rfl, rfl, rfl, rfl, rfl⟩
  case governorStart => exact ⟨go (s.governor.runs_start _) rfl, rfl, rfl, rfl, rfl, rfl⟩
  case governorLimits | governorStale | governorGrade | governorStop | governorCap | governorCoefficients
      | governorGrant =>
    exact ⟨go (s.governor.runs_takeCopies _ _) rfl, rfl, rfl, rfl, rfl, rfl⟩
  case governorMotor => exact ⟨go (s.governor.runs_takeMotor _ _ _ _ _ _) rfl, rfl, rfl, rfl, rfl, rfl⟩
  case governorGround => exact ⟨go (s.governor.runs_takeGround _ _ _ _) rfl, rfl, rfl, rfl, rfl, rfl⟩
  case governorImplements => exact ⟨go (s.governor.runs_takeImplements _ _) rfl, rfl, rfl, rfl, rfl, rfl⟩
  case sequencerMode => exact ⟨se (s.sequencer.runs_takeMode _ _) rfl, rfl, rfl, rfl, rfl, rfl⟩
  case sequencerStart => exact ⟨se (s.sequencer.runs_start _) rfl, rfl, rfl, rfl, rfl, rfl⟩
  case sequencerRestart => exact ⟨se s.sequencer.runs_restart rfl, rfl, rfl, rfl, rfl, rfl⟩
  case sequencerStale => exact ⟨rfl, rfl, rfl, rfl, rfl, rfl⟩
  case sequencerMeasures => exact ⟨se (s.sequencer.runs_takeMeasures _ _ _ _ _) rfl, rfl, rfl, rfl, rfl, rfl⟩
  case sequencerProfile => exact ⟨se (s.sequencer.runs_takeProfile _ _) rfl, rfl, rfl, rfl, rfl, rfl⟩
  case sequencerLiftFailed => exact ⟨se (s.sequencer.runs_takeFailed _ _ _ _) rfl, rfl, rfl, rfl, rfl, rfl⟩
  case sequencerLimits | sequencerLift | sequencerCoefficients | sequencerGrants | liftForReverse =>
    exact ⟨se (Sequencer.runs_event (Sequencer.fewOutcomes_of (by rfl) (by rfl))) rfl, rfl, rfl, rfl, rfl, rfl⟩
  case waterMode | waterStart | waterRestart | waterPath | waterFailed =>
    have h := fun w => s.water.runs_reevaluate w s.mc.time
    exact ⟨wa (h _) rfl, rfl, rfl, rfl, rfl, (h _).path.trans rfl⟩
  case waterTank l =>
    have h := s.water.runs_takeTank s.mc.time l
    exact ⟨wa h rfl, rfl, rfl, rfl, rfl, h.path.trans rfl⟩
  case waterGround x n =>
    have h := s.water.runs_takeGround s.mc.time x n
    exact ⟨wa h rfl, rfl, rfl, rfl, rfl, h.path.trans rfl⟩
  case waterCut | waterProfile | waterCoefficient | waterGrant | waterImplements =>
    have h := s.water.runs_takeCopies s.mc.time
    exact ⟨wa (h _) rfl, rfl, rfl, rfl, rfl, (h _).path.trans rfl⟩
  case chainMode m =>
    obtain ⟨hm, -⟩ := Chain.recompose_kept
      { s.chain with mode := m, requested := if (m == .service) != (s.chain.mode == .service) then 0
        else s.chain.requested }
    exact ⟨rfl, rfl, hm, rfl, rfl, rfl⟩
  case chainLifts l r m =>
    exact ⟨rfl, rfl, (Chain.recompose_kept _).1, rfl, rfl, rfl⟩
  case chainWater n p =>
    exact ⟨rfl, rfl, (Chain.recompose_kept _).1, rfl, rfl, rfl⟩
  case chainRestart => exact ⟨rfl, rfl, s.chain.runs_restart.mode, rfl, rfl, rfl⟩
  case holderChanged d =>
    cases d
    · exact ⟨go (s.governor.runs_holderChanged _) rfl, rfl, rfl, rfl, rfl, rfl⟩
    · exact ⟨se (s.sequencer.runs_holderChanged _) rfl, rfl, rfl, rfl, rfl, rfl⟩
    · have h := s.water.runs_reevaluate s.water.defaults s.mc.time
      exact ⟨wa h rfl, rfl, rfl, rfl, rfl, h.path.trans rfl⟩

/-! ### What the receivers of offers tell -/

/-- A chain driver that keeps its failed set has nothing to tell. -/
theorem State.tells_setChain {s : State} {c : Chain} (h : c.failed = s.chain.failed) : s.Tells (s.setChain c) [] := by
  refine .of_told rfl ?_ rfl
  simp only [State.told, State.setChain_chain, Chain.tells, h]
  rfl

/-- What the receiver of an offer changes of what it owns, it tells; the offer at which the profile selector STARTs
carries no mode, but brings one to the budget table. -/
theorem deliver_tells {o : Offer} (ho : o ≠ .selectorStart) (s : State) : ∃ out, s.Tells (deliver o s) out := by
  have go : ∀ {e : Emit Governor} {g : Governor} (_ : g.Runs e) (_ : g.liftForReverse = s.governor.liftForReverse),
      ∃ out, s.Tells (s.withGovernor e) out := fun {e g} h hl => ⟨_, s.tells_withGovernor h.made fun x => by
    rw [← h.tells]; simp only [Governor.tells, hl]⟩
  have se : ∀ {e : Emit Sequencer} {q : Sequencer} (_ : s.sequencer.Runs q e), ∃ out, s.Tells (s.withSequencer e) out :=
    fun h => ⟨_, s.tells_withSequencer h.made h.tells⟩
  have wa : ∀ {e : Emit Water} {w : Water} (_ : w.Runs e), ∃ out, s.Tells (s.withWater e) out :=
    fun h => ⟨_, s.tells_withWater h.made⟩
  have bu : ∀ {e : Emit Budget} {b : Budget} (_ : Budget.Runs s.budget.rows b e)
      (_ : b.coefficients = s.budget.coefficients), ∃ out, s.Tells (s.withBudget e) out := fun {e b} h hc =>
    ⟨_, s.tells_withBudget h.made fun x => by rw [← h.tells]; simp only [Budget.tells, hc]⟩
  cases o
  case post | postTo => exact ⟨_, .of_told rfl rfl rfl⟩
  case scannerHalted => exact ⟨_, .of_told rfl rfl rfl⟩
  case scannerStart =>
    refine ⟨_, .of_told rfl ?_ rfl⟩
    simp only [State.told, deliver, State.setScanner_scanner, Scanner.tells, Scanner.stale_start]
    rfl
  case scannerRestart => exact ⟨_, s.tells_withScanner s.scanner.runs_restart.made s.scanner.runs_restart.tells⟩
  case monitorRestart => exact ⟨_, s.tells_withMonitor s.monitor.runs_restart⟩
  case pulseStart => exact ⟨_, .of_told rfl rfl rfl⟩
  case pulseRestart =>
    obtain ⟨hm, hp, ht⟩ := s.pulse.restart_told s.mc.time
    exact ⟨_, s.tells_withPulse (hm.plain_of_pulse hp) ht⟩
  case selectorStart => exact absurd rfl ho
  case selectorRestart => exact ⟨_, s.tells_withSelector s.selector.runs_restart⟩
  case selectorPath n k => exact ⟨_, s.tells_withSelector (s.selector.runs_pathAdvance n k)⟩
  case haltOutput b => exact ⟨_, s.tells_withMc (s.mc.runs_takeHalt b)⟩
  case modeImplements l r m => exact ⟨_, s.tells_withMc (s.mc.runs_takeImplements l r m)⟩
  case budgetMode m => exact bu (s.budget.runs_takeMode s.mc.time m) rfl
  case budgetStart l => exact bu (s.budget.runs_start s.mc.time l) rfl
  case budgetRestart => exact bu (s.budget.runs_restart s.mc.time) rfl
  case budgetDerate n => exact bu (s.budget.runs_takeDerate s.mc.time n) rfl
  case budgetRanks l => exact bu (s.budget.runs_takeRanks s.mc.time l) rfl
  case demand c n => exact bu (s.budget.runs_takeDemand s.mc.time c n) rfl
  case governorMode m =>
    obtain ⟨-, hm, ht⟩ := s.governor.takeMode_told s.mc.time m
    exact ⟨_, s.tells_withGovernor hm ht⟩
  case governorStart => exact go (s.governor.runs_start _) rfl
  case governorLimits | governorStale | governorGrade | governorStop | governorCap | governorCoefficients
      | governorGrant =>
    exact go (s.governor.runs_takeCopies _ _) rfl
  case governorMotor => exact go (s.governor.runs_takeMotor _ _ _ _ _ _) rfl
  case governorGround => exact go (s.governor.runs_takeGround _ _ _ _) rfl
  case governorImplements => exact go (s.governor.runs_takeImplements _ _) rfl
  case sequencerMode => exact se (s.sequencer.runs_takeMode _ _)
  case sequencerStart => exact se (s.sequencer.runs_start _)
  case sequencerRestart => exact se s.sequencer.runs_restart
  case sequencerStale => exact ⟨_, .of_told rfl rfl rfl⟩
  case sequencerMeasures => exact se (s.sequencer.runs_takeMeasures _ _ _ _ _)
  case sequencerProfile => exact se (s.sequencer.runs_takeProfile _ _)
  case sequencerLiftFailed => exact se (s.sequencer.runs_takeFailed _ _ _ _)
  case sequencerLimits | sequencerLift | sequencerCoefficients | sequencerGrants | liftForReverse =>
    exact se (Sequencer.runs_event (Sequencer.fewOutcomes_of (by rfl) (by rfl)))
  case waterMode | waterStart | waterRestart | waterPath | waterFailed => exact wa (s.water.runs_reevaluate _ _)
  case waterTank l => exact wa (s.water.runs_takeTank _ l)
  case waterGround x n => exact wa (s.water.runs_takeGround _ x n)
  case waterCut | waterProfile | waterCoefficient | waterGrant | waterImplements =>
    exact wa (s.water.runs_takeCopies _ _)
  case chainMode | chainLifts | chainWater => exact ⟨_, State.tells_setChain (Chain.recompose_kept _).2.1⟩
  case chainRestart => exact ⟨_, s.tells_withChain s.chain.runs_restart⟩
  case holderChanged d =>
    cases d
    · exact go (s.governor.runs_holderChanged _) rfl
    · exact se (s.sequencer.runs_holderChanged _)
    · exact wa (s.water.runs_reevaluate _ _)

end Sys2Proof.Machine
end

section
/-! The copies agree with their owners but for the offers on their way: every offer keeps this, and with no offer waiting
it is the agreement of the copies. -/

namespace Sys2Proof.Machine

/-! ### Agreement but for the offers on their way -/

/-- The waiting offers make of the copies what their owners hold. -/
structure State.Coherent (s : State) : Prop where
  held : s.held.takeAll s.offers = s.told
  budget : s.offers.foldl Mode.afterBudget s.budget.mode = s.mc.mode
  selectorPath : s.offers.foldl selectorPathAfter s.selector.path = s.offers.foldl pathAfter s.pulse.path
  waterPath : s.offers.foldl waterPathAfter s.water.copies.path = s.offers.foldl pathAfter s.pulse.path
  noStart : .selectorStart ∉ s.offers

/-- The waiting offers make the machine mode of a mode. -/
def State.ChainFollows (s : State) (m : Mode) : Prop := s.offers.foldl Mode.afterChain m = s.mc.mode

/-- The copies stay from `s` to `t`. -/
structure State.SameCopies (s t : State) : Prop where
  held : t.held = s.held
  budget : t.budget.mode = s.budget.mode
  chain : t.chain.mode = s.chain.mode
  path : t.pulse.path = s.pulse.path
  selectorPath : t.selector.path = s.selector.path
  waterPath : t.water.copies.path = s.water.copies.path

theorem not_mem_of_pathless {out : List Offer} (h : ∀ o ∈ out, o.movesPath = false) : .selectorStart ∉ out :=
  fun hm => by cases h _ hm

/-- An event that leaves the copies keeps the agreement if it tells what it changes. -/
theorem State.Coherent.event {s t : State} (h : s.Coherent) {out : List Offer} (ht : s.Tells t out)
    (hc : s.SameCopies t) : t.Coherent where
  held := by rw [hc.held, ht.offers, Held.takeAll_append, h.held, ht.told]
  budget := by rw [hc.budget, ht.offers, List.foldl_append, h.budget, ht.budget]
  selectorPath := by
    rw [hc.selectorPath, hc.path, ht.offers, List.foldl_append, List.foldl_append, h.selectorPath,
      foldl_selectorPathAfter ht.pathless, foldl_pathAfter ht.pathless]
  waterPath := by
    rw [hc.waterPath, hc.path, ht.offers, List.foldl_append, List.foldl_append, h.waterPath,
      foldl_waterPathAfter ht.pathless, foldl_pathAfter ht.pathless]
  noStart := by
    rw [ht.offers, List.mem_append]
    exact not_or.2 ⟨h.noStart, not_mem_of_pathless ht.pathless⟩

theorem State.ChainFollows.event {s t : State} {m : Mode} (h : s.ChainFollows m) {out : List Offer}
    (ht : s.Tells t out) : t.ChainFollows m := by
  unfold State.ChainFollows
  rw [ht.offers, List.foldl_append, h, ht.chain]

section
variable {s : State} {o : Offer} {os : List Offer}

/-- The first waiting offer is taken. -/
theorem State.Coherent.deliver (h : s.Coherent) (he : s.offers = o :: os) :
    (Machine.deliver o (s.setOffers os)).Coherent := by
  obtain ⟨hheld, hbudget, hsel, hwater, hstart⟩ := h
  rw [he] at hheld hbudget hsel hwater hstart
  obtain ⟨out, ht⟩ := deliver_tells (fun e => hstart (e ▸ List.mem_cons_self)) (s.setOffers os)
  have hc := deliver_takes o (s.setOffers os)
  refine ⟨?_, ?_, ?_, ?_, ?_⟩
  · rw [hc.held, ht.offers, Held.takeAll_append, ← ht.told]
    exact congrArg (Held.takeAll · out) hheld
  · rw [hc.budget, ht.offers, List.foldl_append, ← ht.budget]
    exact congrArg (out.foldl Mode.afterBudget ·) hbudget
  · rw [hc.selectorPath, hc.path, ht.offers, List.foldl_append, List.foldl_append,
      foldl_selectorPathAfter ht.pathless, foldl_pathAfter ht.pathless]
    exact hsel
  · rw [hc.waterPath, hc.path, ht.offers, List.foldl_append, List.foldl_append, foldl_waterPathAfter ht.pathless,
      foldl_pathAfter ht.pathless]
    exact hwater
  · rw [ht.offers, List.mem_append]
    exact not_or.2 ⟨fun hm => hstart (List.mem_cons_of_mem _ hm), not_mem_of_pathless ht.pathless⟩

theorem State.ChainFollows.deliver (hs : s.Coherent) (h : s.ChainFollows s.chain.mode) (he : s.offers = o :: os) :
    (Machine.deliver o (s.setOffers os)).ChainFollows (Machine.deliver o (s.setOffers os)).chain.mode := by
  have hstart := hs.noStart
  unfold State.ChainFollows at h ⊢
  rw [he] at h hstart
  obtain ⟨out, ht⟩ := deliver_tells (fun e => hstart (e ▸ List.mem_cons_self)) (s.setOffers os)
  rw [(deliver_takes o _).chain, ht.offers, List.foldl_append, ← ht.chain]
  exact congrArg (out.foldl Mode.afterChain ·) h

/-- A list of offers brings the chain driver a mode, or leaves its mode. -/
theorem foldl_afterChain (l : List Offer) :
    (∀ m, l.foldl Mode.afterChain m = m) ∨ ∃ k, ∀ m, l.foldl Mode.afterChain m = k := by
  induction l with
  | nil => exact .inl fun _ => rfl
  | cons o l ih =>
    obtain hid | ⟨k, hk⟩ := ih
    · cases o
      case chainMode k => exact .inr ⟨k, fun _ => hid k⟩
      all_goals exact .inl fun m => hid m
    · exact .inr ⟨k, fun m => hk _⟩

/-- Where the chain driver is to take the machine mode at the end anyhow, what it holds meanwhile is of no weight. -/
theorem State.ChainFollows.deliver_own (hs : s.Coherent) (h : s.ChainFollows s.mc.mode) (he : s.offers = o :: os) :
    (Machine.deliver o (s.setOffers os)).ChainFollows (Machine.deliver o (s.setOffers os)).mc.mode := by
  have hstart := hs.noStart
  unfold State.ChainFollows at h ⊢
  rw [he] at h hstart
  obtain ⟨out, ht⟩ := deliver_tells (fun e => hstart (e ▸ List.mem_cons_self)) (s.setOffers os)
  have hout : out.foldl Mode.afterChain s.mc.mode = (Machine.deliver o (s.setOffers os)).mc.mode := ht.chain
  rw [ht.offers, List.foldl_append]
  obtain hid | ⟨k, hk⟩ := foldl_afterChain os
  · rw [show (s.setOffers os).offers = os from rfl, hid]
    obtain hid' | ⟨k, hk⟩ := foldl_afterChain out
    · exact hid' _
    · rw [hk] at hout ⊢
      exact hout
  · rw [show (s.setOffers os).offers = os from rfl, hk, ← hout]
    exact congrArg (out.foldl Mode.afterChain ·) ((hk _).symm.trans h)

end

/-- A property that each waiting offer, when taken, keeps survives settling. -/
theorem settleN_keeps_taken {P : State → Prop}
    (hd : ∀ s o os, s.offers = o :: os → P s → P (deliver o (s.setOffers os))) (n : Nat) (s : State) (h : P s) :
    P (settleN n s) := by
  induction n generalizing s with
  | zero => exact h
  | succ n ih =>
    cases he : s.offers with
    | nil => rwa [settleN_of_offers_nil _ _ he]
    | cons o os =>
      rw [settleN_succ n s o os he]
      exact ih _ (hd s o os he h)

/-- Agreement but for the offers on their way, the chain driver's mode included. -/
def State.AllCoherent (s : State) : Prop := s.Coherent ∧ s.ChainFollows s.chain.mode

theorem State.AllCoherent.settle {s : State} (h : s.AllCoherent) : s.settle.AllCoherent :=
  settleN_keeps_taken (fun _ _ _ he h => ⟨h.1.deliver he, h.2.deliver h.1 he⟩) _ s h

theorem State.Coherent.settle_own {s : State} (h : s.Coherent) (hc : s.ChainFollows s.mc.mode) (n : Nat) :
    (settleN n s).Coherent ∧ (settleN n s).ChainFollows (settleN n s).mc.mode :=
  settleN_keeps_taken (P := fun s => s.Coherent ∧ s.ChainFollows s.mc.mode)
    (fun _ _ _ he h => ⟨h.1.deliver he, h.2.deliver_own h.1 he⟩) n s ⟨h, hc⟩

theorem State.AllCoherent.event {s t : State} (h : s.AllCoherent) {out : List Offer} (ht : s.Tells t out)
    (hc : s.SameCopies t) : t.AllCoherent :=
  ⟨h.1.event ht hc, by rw [hc.chain]; exact h.2.event ht⟩

/-! ### Agreement -/

/-- With no offer waiting, agreement but for the offers on their way is agreement. -/
theorem State.copiesAgree_iff (s : State) :
    s.copiesAgree ↔ s.offers = [] ∧ s.held = s.told ∧ s.budget.mode = s.mc.mode ∧ s.chain.mode = s.mc.mode ∧
      s.selector.path = s.pulse.path ∧ s.water.copies.path = s.pulse.path := by
  simp only [State.copiesAgree, State.inStep, State.held, State.told, ModeController.tells, Scanner.tells,
    Monitor.tells, Pulse.tells, Profile.tells, Budget.tells, Governor.tells, Sequencer.tells, Chain.tells,
    TravelCopies.offered, WaterCopies.offered, Sequencer.copies, Held.mk.injEq, TravelCopies.mk.injEq,
    WaterCopies.mk.injEq, SequencerCopies.mk.injEq, BudgetRow.copy, funext_iff, rankIn, nozzlesOf, Selector.activeRow]
  constructor <;> intro h <;> simp only [h, and_self, implies_true]

end Sys2Proof.Machine
end

section
/-! What the events of commands keep of the records' invariants (03, 06, 09), and what they tell where they are no
offer's. -/

namespace Sys2Proof.Machine

/-! ### Measurement scanner -/

/-- The scanner is sound, but that the live set may hold `k` results more than there are entries to convert: one while
the last result of a pass is evaluated (03 R50). -/
def Scanner.soundWith (k : Nat) (c : Scanner) : Prop :=
  1 ≤ c.scanList.length ∧ c.scanList.length ≤ 16 ∧ (c.scanList.map ScanEntry.channel).Nodup ∧
    (c.state = .converting → c.live.length < c.scanList.length + k) ∧ (c.state = .paused → c.hold.isSome = true) ∧
    (c.periodTimer.isSome = true ↔ c.continuous = true) ∧ (c.state = .waiting → c.continuous = true)

section
variable {c : Scanner} {k : Nat}

theorem Scanner.soundWith_start (h : c.soundWith k) (now : Time) : (c.start now).soundWith k := by
  obtain ⟨h1, h2, h3, h4, h5, h6, h7⟩ := h
  unfold Scanner.start
  split
  · exact ⟨h1, h2, h3, h4, h5, h6, h7⟩
  · dsimp only
    split
    · exact ⟨h1, h2, h3, fun _ => Nat.lt_of_lt_of_le h1 (Nat.le_add_right _ _), nofun, by simp [Scanner.beginPass],
        nofun⟩
    · exact ⟨h1, h2, h3, h4, h5, by simp, fun _ => rfl⟩

theorem Scanner.soundWith_halted (h : c.soundWith k) : c.halted.soundWith k := by
  obtain ⟨h1, h2, h3, -⟩ := h
  exact ⟨h1, h2, h3, nofun, nofun, by simp [Scanner.halted], nofun⟩

theorem Scanner.soundWith_becomeStale (h : c.soundWith k) : c.becomeStale.val.soundWith k := by
  unfold Scanner.becomeStale
  split <;> exact h

theorem Scanner.soundWith_restart (h : c.soundWith k) : c.restart.val.soundWith k :=
  Scanner.soundWith_becomeStale (c := { c.halted with hold := none, published := [], scanNumber := 0, staleTimer := none })
    (by
      obtain ⟨h1, h2, h3, -⟩ := h
      exact ⟨h1, h2, h3, nofun, nofun, by simp [Scanner.halted], nofun⟩)

/-- A published set leaves the scanner at rest, whatever it was doing. -/
theorem Scanner.sound_publish (h1 : 1 ≤ c.scanList.length) (h2 : c.scanList.length ≤ 16)
    (h3 : (c.scanList.map ScanEntry.channel).Nodup) (h6 : c.periodTimer.isSome = true ↔ c.continuous = true)
    (now : Time) : (c.publish now).val.sound := by
  unfold Scanner.publish Scanner.restState
  cases hc : c.continuous
  · exact ⟨h1, h2, h3, nofun, nofun, by simpa [hc] using h6, nofun⟩
  · exact ⟨h1, h2, h3, nofun, nofun, by simpa [hc] using h6, fun _ => rfl⟩

theorem Scanner.sound_passEnds (h : c.soundWith k) (now : Time) : (c.passEnds now).val.sound := by
  unfold Scanner.passEnds
  dsimp only
  obtain ⟨h1, h2, h3, -, -, h6, -⟩ := h
  split
  · exact Scanner.sound_publish h1 h2 h3 h6 now
  · rename_i x hx
    exact ⟨h1, h2, h3, nofun, fun _ => by simp [hx], h6, nofun⟩

theorem Scanner.sound_beginPass (h : c.sound) : c.beginPass.sound := by
  obtain ⟨h1, h2, h3, -, -, h6, -⟩ := h
  exact ⟨h1, h2, h3, fun _ => h1, nofun, h6, nofun⟩

theorem Scanner.sound_periodExpiry (h : c.sound) (now : Time) : (c.periodExpiry now).sound := by
  unfold Scanner.periodExpiry
  split
  · exact h
  · rename_i e he
    split
    · have hs : Scanner.sound { c with periodTimer := some (after e c.period) } := by
        obtain ⟨h1, h2, h3, h4, h5, h6, h7⟩ := h
        exact ⟨h1, h2, h3, h4, h5, by simpa [he] using h6, h7⟩
      dsimp only
      split
      · exact Scanner.sound_beginPass hs
      · exact hs
    · exact h

theorem Scanner.sound_staleExpiry (h : c.sound) (now : Time) : (c.staleExpiry now).val.sound := by
  unfold Scanner.staleExpiry
  split <;> exact h

theorem Scanner.sound_endHold (h : c.sound) (now : Time) : (c.endHold now).val.sound := by
  obtain ⟨h1, h2, h3, h4, h5, h6, h7⟩ := h
  unfold Scanner.endHold
  dsimp only
  split
  · exact Scanner.sound_publish (c := { c with hold := none }) h1 h2 h3 h6 now
  · rename_i hp
    exact ⟨h1, h2, h3, h4, fun hc => absurd hc hp, h6, h7⟩

theorem Scanner.sound_leaseExpiry (h : c.sound) (now : Time) : (c.leaseExpiry now).val.sound := by
  unfold Scanner.leaseExpiry
  split
  · exact h
  · split
    · exact Scanner.sound_endHold h now
    · exact h

theorem Scanner.sound_holdSet (h : c.sound) (now : Time) (p : Port) (n : Nat) : (c.holdSet now p n).1.val.sound := by
  have hg : ∀ x : Hold, Scanner.sound { c with hold := some x } := fun x => by
    obtain ⟨h1, h2, h3, h4, -, h6, h7⟩ := h
    exact ⟨h1, h2, h3, h4, fun _ => rfl, h6, h7⟩
  unfold Scanner.holdSet
  split
  · exact h
  · dsimp only
    split
    · exact hg _
    · split
      · exact hg _
      · exact h

theorem Scanner.sound_releaseSet (h : c.sound) (now : Time) (p : Port) : (c.releaseSet now p).1.val.sound := by
  unfold Scanner.releaseSet
  split
  · exact h
  · split
    · exact Scanner.sound_endHold h now
    · exact h

theorem Scanner.sound_writeRole (h : c.sound) (m : Mode) (i : Fin 12) (e : RoleEntry) :
    (c.writeRole m i e).1.val.sound := by
  unfold Scanner.writeRole
  split
  · exact h
  · split <;> exact h

/-- The scan list after a WRITE still has 1 to 16 entries of different channels (03 R49). -/
theorem newScanList_sound {l m : List ScanEntry} {i : Nat} {w : ScanListWrite} (h : newScanList l i w = some m)
    (h1 : 1 ≤ l.length) (h2 : l.length ≤ 16) (h3 : (l.map ScanEntry.channel).Nodup) :
    1 ≤ m.length ∧ m.length ≤ 16 ∧ (m.map ScanEntry.channel).Nodup := by
  unfold newScanList at h
  cases hw : w.channel with
  | none =>
    simp only [hw] at h
    split at h
    · rename_i hi
      cases h
      simp only [List.length_take, List.map_take]
      exact ⟨by omega, by omega, h3.sublist (List.take_sublist _ _)⟩
    · cases h
  | some ch =>
    simp only [hw] at h
    split at h
    · cases h
    · rename_i hch
      have hnot : ∀ e ∈ l.eraseIdx i, e.channel ≠ ch := by
        intro e he hc
        exact hch (List.any_eq_true.2 ⟨e, he, by simpa using hc⟩)
      split at h
      · rename_i hi
        cases h
        refine ⟨by simpa using h1, by simpa using h2, ?_⟩
        have hperm : (l.set i ⟨ch, w.sample⟩).Perm (⟨ch, w.sample⟩ :: l.eraseIdx i) := by
          rw [List.set_eq_take_append_cons_drop, if_pos hi, List.eraseIdx_eq_take_drop_succ]
          exact List.perm_middle
        rw [(hperm.map ScanEntry.channel).nodup_iff, List.map_cons, List.nodup_cons]
        refine ⟨fun hm => ?_, h3.sublist ((List.eraseIdx_sublist l i).map _)⟩
        obtain ⟨e, he, hc⟩ := List.mem_map.1 hm
        exact hnot e he hc
      · rename_i hi
        split at h
        · rename_i hi'
          cases h
          have hl : l.eraseIdx i = l := List.eraseIdx_of_length_le (by omega)
          rw [hl] at hnot
          refine ⟨by simp, by simp; omega, ?_⟩
          rw [List.map_append, List.map_cons, List.map_nil, List.nodup_append]
          refine ⟨h3, by simp, fun a ha b hb hab => ?_⟩
          obtain ⟨e, he, hc⟩ := List.mem_map.1 ha
          rw [List.mem_singleton.1 hb] at hab
          exact hnot e he (hc.trans hab)
        · cases h

theorem Scanner.sound_writeList (h : c.sound) (m : Mode) (i : Nat) (w : ScanListWrite) :
    (c.writeList m i w).1.val.sound := by
  unfold Scanner.writeList
  split
  · exact h
  · split
    · exact h
    · rename_i hbusy
      split
      · exact h
      · rename_i l hl
        obtain ⟨h1, h2, h3, h4, h5, h6, h7⟩ := h
        obtain ⟨k1, k2, k3⟩ := newScanList_sound hl h1 h2 h3
        refine Scanner.soundWith_becomeStale (k := 0) ⟨k1, k2, k3, fun hc => ?_, h5, h6, h7⟩
        have hc : c.state = .converting := hc
        simp [Scanner.busy, hc] at hbusy

theorem Scanner.sound_writeControl (h : c.sound) (now : Time) (m : Mode) (w : ScanControlWrite) :
    (c.writeControl now m w).1.val.sound := by
  unfold Scanner.writeControl
  split
  · exact h
  · split
    · exact h
    · have hp : (c.newPeriod now w.period).sound := by
        unfold Scanner.newPeriod
        split
        · exact h
        · obtain ⟨h1, h2, h3, h4, h5, h6, h7⟩ := h
          refine ⟨h1, h2, h3, h4, h5, ?_, h7⟩
          dsimp only
          split
          · rename_i hc
            simp [hc]
          · exact h6
      have hs : ((c.newPeriod now w.period).newStaleLimit now w.staleLimit).val.sound := by
        unfold Scanner.newStaleLimit
        dsimp only
        split
        · exact hp
        · split
          · exact Scanner.soundWith_becomeStale (k := 0) hp
          · exact hp
      dsimp only
      rw [Emit.andThen_val, Emit.pure_val]
      split
      · exact Scanner.sound_beginPass hs
      · exact hs

end

/-! ### Profile selector -/

/-- What holds of the profile selector in every run, under a forward cap: the part of `State.recordsSound` that speaks of
its records. -/
def Selector.sound (x : Selector) (cap : Nat) : Prop :=
  x.queue.length ≤ 4 ∧ (x.queue.map QueuedChange.mark).Pairwise (· ≤ ·) ∧ (∀ e ∈ x.queue, x.path < e.mark) ∧
    ∀ i, (x.rows.get i).valid = true → (x.rows.get i).speedCap ≤ cap

section
variable {x : Selector} {cap : Nat}

/-- The queue emptied. -/
theorem Selector.sound_of_empty {y : Selector} (h : x.sound cap) (hq : y.queue = []) (hr : y.rows = x.rows) :
    y.sound cap := by
  obtain ⟨-, -, -, h4⟩ := h
  exact ⟨by simp [hq], by simp [hq], by simp [hq], by rwa [hr]⟩

/-- Queue, path and rows kept. -/
theorem Selector.sound_of_kept {y : Selector} (h : x.sound cap) (hq : y.queue = x.queue) (hp : y.path = x.path)
    (hr : y.rows = x.rows) : y.sound cap := by
  unfold Selector.sound
  rw [hq, hp, hr]
  exact h

theorem Selector.applyChange_kept (x : Selector) (r : Fin 8) (c : ZoneCode) :
    (x.applyChange r c).val.queue = x.queue ∧ (x.applyChange r c).val.path = x.path ∧
      (x.applyChange r c).val.rows = x.rows := by
  unfold Selector.applyChange
  dsimp only
  split <;> exact ⟨rfl, rfl, rfl⟩

theorem Selector.sound_start (h : x.sound cap) : x.start.val.sound cap := Selector.sound_of_empty h rfl rfl

theorem Selector.sound_restart (h : x.sound cap) : x.restart.val.sound cap := by
  unfold Selector.restart
  dsimp only
  split <;> exact Selector.sound_of_empty h rfl rfl

/-- In a queue in mark order the entries that a path reaches come first. -/
theorem lt_mark_of_drop_takeWhile {l : List QueuedChange} (hs : (l.map QueuedChange.mark).Pairwise (· ≤ ·)) (n : Nat)
    {e : QueuedChange} (he : e ∈ l.drop (l.takeWhile fun e => e.mark ≤ n).length) : n < e.mark := by
  induction l with
  | nil => cases he
  | cons a l ih =>
    rw [List.map_cons, List.pairwise_cons] at hs
    by_cases ha : a.mark ≤ n
    · simp only [List.takeWhile_cons, ha, decide_true, if_true, List.length_cons, List.drop_succ_cons] at he
      exact ih hs.2 he
    · simp only [List.takeWhile_cons, ha, decide_false, Bool.false_eq_true, if_false, List.length_nil,
        List.drop_zero] at he
      obtain rfl | he := List.mem_cons.1 he
      · omega
      · have := hs.1 e.mark (List.mem_map_of_mem he)
        omega

theorem Selector.sound_pathAdvance (h : x.sound cap) (n k : Nat) : (x.pathAdvance n k).val.sound cap := by
  obtain ⟨h1, h2, -, h4⟩ := h
  have hdrop : Selector.sound
      { x with path := n, advance := k, queue := x.queue.drop (x.queue.takeWhile fun e => e.mark ≤ n).length } cap := by
    refine ⟨(List.drop_sublist _ _).length_le.trans h1, ?_, fun e he => lt_mark_of_drop_takeWhile h2 n he, h4⟩
    exact h2.sublist ((List.drop_sublist _ _).map _)
  unfold Selector.pathAdvance
  dsimp only
  cases hl : (x.queue.takeWhile fun e => decide (e.mark ≤ n)).getLast? with
  | none =>
    rw [List.getLast?_eq_none_iff.1 hl] at hdrop
    exact hdrop
  | some e =>
    obtain ⟨hq, hp, hr⟩ := Selector.applyChange_kept
      { x with path := n, advance := k, queue := x.queue.drop (x.queue.takeWhile fun e => e.mark ≤ n).length }
      e.profile e.code
    exact Selector.sound_of_kept hdrop hq hp hr

/-- An entry goes in where the marks stay in order. -/
theorem insertChange_kept (e : QueuedChange) (l : List QueuedChange) :
    (insertChange e l).Perm (e :: l) ∧ ((l.map QueuedChange.mark).Pairwise (· ≤ ·) →
      ((insertChange e l).map QueuedChange.mark).Pairwise (· ≤ ·)) := by
  induction l with
  | nil => exact ⟨.refl _, fun _ => by simp [insertChange]⟩
  | cons a l ih =>
    obtain ⟨hp, hs⟩ := ih
    unfold insertChange
    split
    · rename_i ha
      refine ⟨(hp.cons a).trans (.swap e a l), fun h => ?_⟩
      rw [List.map_cons, List.pairwise_cons] at h ⊢
      refine ⟨fun n hn => ?_, hs h.2⟩
      obtain ⟨b, hb, rfl⟩ := List.mem_map.1 hn
      obtain rfl | hb := List.mem_cons.1 (hp.mem_iff.1 hb)
      · exact ha
      · exact h.1 _ (List.mem_map_of_mem hb)
    · rename_i ha
      refine ⟨.refl _, fun h => ?_⟩
      rw [List.map_cons, List.pairwise_cons]
      refine ⟨fun n hn => ?_, h⟩
      rw [List.map_cons, List.pairwise_cons] at h
      obtain rfl | hn := List.mem_cons.1 hn
      · omega
      · have := h.1 n hn
        omega

theorem Selector.zoneAhead_kept (m : Mode) (c : ZoneCode) (n : Nat) :
    (x.sound cap → (x.zoneAhead m c n).1.val.sound cap) ∧ (x.zoneAhead m c n).1.val.path = x.path := by
  unfold Selector.zoneAhead
  split
  · exact ⟨id, rfl⟩
  · split
    · exact ⟨id, rfl⟩
    · dsimp only
      split
      · exact ⟨id, rfl⟩
      · split
        · obtain ⟨hq, hp, hr⟩ := x.applyChange_kept (x.resolve c).2 c
          exact ⟨fun h => Selector.sound_of_kept h hq hp hr, hp⟩
        · rename_i hmark
          split
          · exact ⟨id, rfl⟩
          · rename_i hroom
            refine ⟨fun h => ?_, rfl⟩
            obtain ⟨h1, h2, h3, h4⟩ := h
            obtain ⟨hp, hs⟩ := insertChange_kept ⟨min max32 (x.path + n), (x.resolve c).2, c⟩ x.queue
            refine ⟨?_, hs h2, fun e he => ?_, h4⟩
            · have := hp.length_eq
              simp only [queueCapacity, List.length_cons, Emit.pure_val] at hroom this ⊢
              omega
            · obtain rfl | he := List.mem_cons.1 (hp.mem_iff.1 he)
              · exact Nat.lt_of_not_le fun hle => hmark (.inr hle)
              · exact h3 e he

theorem Selector.pin_kept (m : Mode) (b : Bool) (n : Nat) :
    (x.sound cap → (x.pin m b n).1.val.sound cap) ∧ (x.pin m b n).1.val.path = x.path := by
  unfold Selector.pin
  repeat' split
  all_goals exact ⟨id, rfl⟩

theorem Selector.unpin_kept (m : Mode) (b : Bool) :
    (x.sound cap → (x.unpin m b).1.val.sound cap) ∧ (x.unpin m b).1.val.path = x.path := by
  unfold Selector.unpin
  repeat' split
  all_goals exact ⟨id, rfl⟩

/-- A WRITE of PROFILES takes no valid row above the forward cap (06 R87). -/
theorem Selector.writeRow_kept (m : Mode) (i : Fin 8) (r : Profile) :
    (x.sound cap → (x.writeRow m cap i r).1.val.sound cap) ∧ (x.writeRow m cap i r).1.val.path = x.path := by
  unfold Selector.writeRow
  split
  · exact ⟨id, rfl⟩
  · split
    · exact ⟨id, rfl⟩
    · rename_i hcap
      split
      · exact ⟨id, rfl⟩
      · split
        · exact ⟨id, rfl⟩
        · have hs : x.sound cap → Selector.sound { x with rows := setAt x.rows i r } cap := by
            intro h
            obtain ⟨h1, h2, h3, h4⟩ := h
            refine ⟨h1, h2, h3, fun j hj => ?_⟩
            rw [get_setAt] at hj ⊢
            split at hj
            · rename_i hij
              rw [if_pos hij]
              simp only [hj, Bool.true_and, decide_eq_true_eq, not_lt] at hcap
              exact hcap
            · rename_i hij
              rw [if_neg hij]
              exact h4 j hj
          dsimp only
          split <;> exact ⟨hs, rfl⟩

theorem Selector.writeZone_kept (i : Fin 16) (z : Zone) :
    (x.sound cap → (x.writeZone i z).1.val.sound cap) ∧ (x.writeZone i z).1.val.path = x.path := by
  unfold Selector.writeZone
  split <;> exact ⟨id, rfl⟩

end

/-- No valid row's speed cap is above a forward cap that `capsAbove` passes (02 R43). -/
theorem Selector.capsAbove_eq_false {x : Selector} {cap : Nat} :
    x.capsAbove cap = false ↔ ∀ i, (x.rows.get i).valid = true → (x.rows.get i).speedCap ≤ cap := by
  simp [Selector.capsAbove, eightRows_eq]

end Sys2Proof.Machine
end

section
/-! The stages of the commands: each is a change of the ports, the taking of the offers, or an event of one block that
tells what it changes of what it owns (00 section 3.1). -/

namespace Sys2Proof.Machine

/-! ### The mode controller's own events -/

/-- An event of the mode controller that no offer brings: it leaves the mode controller's copies and the hard lock, and
the soft lock unless `u`, and takes no forward cap below a valid row's speed cap. -/
structure ModeController.Own (u : Prop) (x : Selector) (c : ModeController) (e : Emit ModeController) : Prop
    extends c.Runs e where
  copies : (e.val.haltTrip, e.val.armL, e.val.armR, e.val.main) = (c.haltTrip, c.armL, c.armR, c.main)
  hardLock : c.hardLock = true → e.val.hardLock = true
  softLock : ¬ u → c.softLock = true → e.val.softLock = true
  limits : x.sound c.limits.fwdCap → x.sound e.val.limits.fwdCap

section
variable {u : Prop} {x : Selector} {c d : ModeController} {e : Emit ModeController}

/-- Another record is taken, with nothing told. -/
theorem ModeController.Own.pure (hc : (d.mode, d.limits) = (c.mode, c.limits))
    (hk : (d.haltTrip, d.armL, d.armR, d.main) = (c.haltTrip, c.armL, c.armR, c.main))
    (hh : c.hardLock = true → d.hardLock = true) (hs : ¬ u → c.softLock = true → d.softLock = true) :
    c.Own u x (.pure d) := by
  obtain ⟨hm, hl⟩ := Prod.mk.inj hc
  exact ⟨ModeController.runs_pure hm hl, hk, hh, hs, fun h => (congrArg (fun l => x.sound l.fwdCap) hl).mpr h⟩

theorem ModeController.own_enterMode (c : ModeController) (m : Mode) (k : Cause) : c.Own u x (c.enterMode m k) :=
  ⟨c.runs_enterMode m k, rfl, id, fun _ => id, id⟩

/-- Nothing but the claims changes, and nothing is offered but notices and changes of holder. -/
def ModeController.ClaimsOnly (c : ModeController) (e : Emit ModeController) : Prop :=
  (∃ cl, e.val = { c with claims := cl }) ∧ ∀ o ∈ e.out, o.maker = none ∨ ∃ d, o = .holderChanged d

theorem ModeController.ClaimsOnly.own (h : c.ClaimsOnly e) : c.Own u x e := by
  obtain ⟨⟨cl, hv⟩, ho⟩ := h
  refine ⟨.of_same (by rw [hv]) (by rw [hv]) ho, by rw [hv], ?_, fun _ => ?_, ?_⟩ <;> rw [hv] <;> exact id

theorem ModeController.claimsOnly_pure (c : ModeController) : c.ClaimsOnly (.pure c) :=
  ⟨⟨_, rfl⟩, fun _ h => absurd h List.not_mem_nil⟩

theorem ModeController.ClaimsOnly.andThen {f : ModeController → Emit ModeController} (h : c.ClaimsOnly e)
    (hf : e.val.ClaimsOnly (f e.val)) : c.ClaimsOnly (e.andThen f) := by
  obtain ⟨⟨cl, hv⟩, ho⟩ := h
  obtain ⟨⟨cl', hv'⟩, ho'⟩ := hf
  exact ⟨⟨cl', by rw [Emit.andThen_val, hv', hv]⟩, fun o hm => (List.mem_append.1 hm).elim (ho o) (ho' o)⟩

/-- The holder of one domain changes. -/
theorem ModeController.claimsOnly_changed (c : ModeController) (cl : Claims) (d : Domain) :
    c.ClaimsOnly ⟨{ c with claims := cl }, [.holderChanged d]⟩ :=
  ⟨⟨_, rfl⟩, fun _ ho => .inr ⟨d, List.mem_singleton.1 ho⟩⟩

/-- The holder of one domain changes, which the one who loses it is told. -/
theorem ModeController.claimsOnly_lost (c : ModeController) (cl : Claims) (d : Domain) (p : Port) (n : Nat) (v : Int) :
    c.ClaimsOnly ⟨{ c with claims := cl }, [.postTo p .claimLost n v, .holderChanged d]⟩ := by
  refine ⟨⟨_, rfl⟩, fun o ho => ?_⟩
  obtain rfl | ho := List.mem_cons.1 ho
  · exact .inl rfl
  · exact .inr ⟨d, List.mem_singleton.1 ho⟩

theorem ModeController.claimsOnly_claim (c : ModeController) (f : Port → AuthorityClass) (p : Port) (n : Nat) :
    c.ClaimsOnly (c.claim f p n).1 := by
  unfold ModeController.claim
  split
  · exact c.claimsOnly_pure
  · split
    · exact c.claimsOnly_pure
    · split
      · exact c.claimsOnly_changed _ _
      · split
        · exact c.claimsOnly_pure
        · split
          · exact c.claimsOnly_lost _ _ _ _ _
          · exact c.claimsOnly_pure

theorem ModeController.claimsOnly_release (c : ModeController) (p : Port) (n : Nat) :
    c.ClaimsOnly (c.release p n).1 := by
  unfold ModeController.release
  split
  · exact c.claimsOnly_pure
  · split
    · exact c.claimsOnly_changed _ _
    · exact c.claimsOnly_pure

theorem ModeController.claimsOnly_withdrawFrom (p : Port) (d : Domain) (c : ModeController) :
    c.ClaimsOnly (c.withdrawFrom p d) := by
  unfold ModeController.withdrawFrom
  split
  · exact c.claimsOnly_changed _ _
  · exact c.claimsOnly_pure

theorem ModeController.claimsOnly_withdrawPort (c : ModeController) (p : Port) : c.ClaimsOnly (c.withdrawPort p) :=
  ((c.claimsOnly_withdrawFrom p .travel).andThen (ModeController.claimsOnly_withdrawFrom p .implements _)).andThen
    (ModeController.claimsOnly_withdrawFrom p .water _)

theorem ModeController.claimsOnly_withdraw (d : Domain) (c : ModeController) : c.ClaimsOnly (c.withdraw d) := by
  unfold ModeController.withdraw
  split
  · exact c.claimsOnly_pure
  · exact c.claimsOnly_lost _ _ _ _ _

theorem ModeController.claimsOnly_withdrawAll (c : ModeController) : c.ClaimsOnly c.withdrawAll :=
  ((c.claimsOnly_withdraw .travel).andThen (ModeController.claimsOnly_withdraw .implements _)).andThen
    (ModeController.claimsOnly_withdraw .water _)

theorem ModeController.own_stowTest (c : ModeController) : c.Own u x c.stowTest := by
  unfold ModeController.stowTest
  split
  · exact c.own_enterMode _ _
  · exact .pure rfl rfl id fun _ => id

theorem ModeController.own_estopActive (c : ModeController) : c.Own u x c.estopActive := by
  unfold ModeController.estopActive
  dsimp only
  split
  · exact .pure rfl rfl id fun _ => id
  · exact ⟨(ModeController.runs_enterMode _ _ _).of rfl rfl, rfl, id, fun _ => id, id⟩

theorem ModeController.own_estopInactive (c : ModeController) : c.Own u x (.pure c.estopInactive) := by
  unfold ModeController.estopInactive
  split <;> exact .pure rfl rfl id fun _ => id

theorem ModeController.own_estopReleased (c : ModeController) : c.Own u x (.pure c.estopReleased) := by
  unfold ModeController.estopReleased
  split <;> exact .pure rfl rfl id fun _ => id

theorem ModeController.own_lock (c : ModeController) (b : Bool) : c.Own u x (.pure (c.lock b)) := by
  cases b
  · exact .pure rfl rfl id fun _ _ => rfl
  · exact .pure rfl rfl (fun _ => rfl) fun _ => id

/-- UNLOCK alone clears the soft lock. -/
theorem ModeController.own_unlock (hu : u) (c : ModeController) : c.Own u x (.pure c.unlock.1) := by
  unfold ModeController.unlock
  repeat' split
  all_goals exact .pure rfl rfl id fun h => absurd hu h

/-- A WRITE of LIMITS takes no forward cap below a valid row's speed cap (02 R43). -/
theorem ModeController.own_writeLimits (c : ModeController) (l : Limits) :
    c.Own u x (c.writeLimits (x.capsAbove l.fwdCap) l).1 := by
  unfold ModeController.writeLimits
  split
  · exact .pure rfl rfl id fun _ => id
  · split
    · exact .pure rfl rfl id fun _ => id
    · rename_i hlow
      refine ⟨⟨by simp [Offer.movesPath], fun _ => rfl, rfl, rfl⟩, rfl, id, fun _ => id, fun h => ?_⟩
      obtain ⟨h1, h2, h3, -⟩ := h
      exact ⟨h1, h2, h3, Selector.capsAbove_eq_false.1 (by simpa using hlow)⟩

end

/-! ### The other blocks' own events -/

/-- An event of the scanner that no offer brings. -/
structure Scanner.Own (c : Scanner) (e : Emit Scanner) : Prop extends c.Runs e where
  sound : c.sound → e.val.sound

/-- An event of the profile selector that no offer brings: the path copy stays. -/
structure Selector.Own (cap : Nat) (x : Selector) (e : Emit Selector) : Prop extends x.Runs e where
  kept : (x.sound cap → e.val.sound cap) ∧ e.val.path = x.path

/-- An event of the budget table that no offer brings: mode, derate and ranks stay. -/
structure Budget.Own (b : Budget) (e : Emit Budget) : Prop where
  made : MadeBy .budget e.out
  tells : ∀ h, (b.tells h).takeAll e.out = e.val.tells h
  mode : e.val.mode = b.mode
  derate : e.val.derate = b.derate
  ranks : (fun k => (e.val.rows.get k).rank) = fun k => (b.rows.get k).rank

theorem Budget.Runs.own {b d : Budget} {e : Emit Budget} (h : Budget.Runs b.rows d e)
    (hc : d.coefficients = b.coefficients) (hm : d.mode = b.mode) (hd : d.derate = b.derate)
    (hr : (fun k => (d.rows.get k).rank) = fun k => (b.rows.get k).rank) : b.Own e := by
  obtain ⟨km, kd, kr⟩ := h.kept
  exact ⟨h.made, fun x => by rw [← h.tells]; simp only [Budget.tells, hc], km.trans hm, kd.trans hd, kr.trans hr⟩

theorem Budget.own_leaseEnds (b : Budget) (now : Time) : b.Own (b.leaseEnds now) := by
  obtain ⟨c, hk, hm, hd, hr, h⟩ := b.runs_leaseEnds now
  exact h.own hk hm hd (by rw [hr])

theorem Budget.own_holdEnds (b : Budget) (now : Time) (k : Consumer) : b.Own (b.holdEnds now k) := by
  obtain ⟨r, -, hr, h⟩ := b.runs_holdEnds now k
  exact h.own rfl rfl rfl (funext hr)

theorem Budget.own_writeFloor (b : Budget) (k : Consumer) (n : Option Nat) : b.Own (b.writeFloor k n).1 := by
  unfold Budget.writeFloor
  split
  · exact Budget.Runs.own (.pure rfl) rfl rfl rfl rfl
  · exact Budget.Runs.own (.pure rfl) rfl rfl rfl rfl
  · refine ⟨.nil _, fun _ => ?_, rfl, rfl, funext fun j => ?_⟩
    · cases k <;> rfl
    · cases k <;> cases j <;> rfl

/-- A WRITE of COEFFICIENTS tells the coefficients first. -/
theorem Budget.own_writeCoefficients (b : Budget) (now : Time) (m : Mode) (k : Coefficients) :
    b.Own (b.writeCoefficients now m k).1 := by
  have told : ∀ {d : Budget} {e : Emit Budget} (_ : Budget.Runs b.rows d e) (_ : d.coefficients = k)
      (_ : d.mode = b.mode) (_ : d.derate = b.derate) (_ : d.rows = b.rows),
      b.Own ⟨e.val, [.governorCoefficients k.ct k.cg, .sequencerCoefficients k.cm k.cb, .waterCoefficient k.cw] ++
        e.out⟩ := by
    intro d e h hk hm hd hr
    obtain ⟨km, kd, kr⟩ := h.kept
    refine ⟨.append (.cons (.inr rfl) (.cons (.inr rfl) (.cons (.inr rfl) (.nil _)))) h.made, fun x => ?_,
      km.trans hm, kd.trans hd, kr.trans (by rw [hr])⟩
    rw [← h.tells]
    simp [Budget.tells, Held.take, hk]
  unfold Budget.writeCoefficients
  split
  · exact Budget.Runs.own (.pure rfl) rfl rfl rfl rfl
  · dsimp only
    split
    · exact told (Budget.runs_rederive { b with coefficients := k, reserve := k.fallback } now) rfl rfl rfl rfl
    · exact told (d := { b with coefficients := k }) (.pure rfl) rfl rfl rfl rfl

/-- An event of the travel governor that no offer brings. -/
structure Governor.Own (g : Governor) (e : Emit Governor) : Prop where
  made : MadeBy .governor e.out
  tells : ∀ h, (g.tells h).takeAll e.out = e.val.tells h
  copies : e.val.copies = g.copies

theorem Governor.Runs.own {g d : Governor} {e : Emit Governor} (h : d.Runs e)
    (hd : d.liftForReverse = g.liftForReverse) (hc : d.copies = g.copies) : g.Own e :=
  ⟨h.made, fun x => by rw [← h.tells]; simp only [Governor.tells, hd], h.copies.trans hc⟩

theorem Governor.own_leaseEnds (g : Governor) (now : Time) (p : Option Port) : g.Own (g.leaseEnds now p) := by
  obtain ⟨hc, hm, ht⟩ := g.leaseEnds_told now p
  exact ⟨hm, ht, hc⟩

theorem Governor.own_rampStep (g : Governor) (now : Time) : g.Own (g.rampStep now) := by
  obtain ⟨x, h⟩ := g.runs_rampStep now
  exact h.own rfl rfl

theorem Governor.own_writeSettings (g : Governor) (m : Mode) (x : TravelSettings) : g.Own (g.writeSettings m x).1 := by
  unfold Governor.writeSettings
  split <;> exact ⟨.nil _, fun _ => rfl, rfl⟩

theorem Governor.own_writeMap (g : Governor) (m : Mode) (x : DriveMap) : g.Own (g.writeMap m x).1 := by
  unfold Governor.writeMap
  split <;> exact ⟨.nil _, fun _ => rfl, rfl⟩

/-- An event of the implement sequencer that no offer brings. -/
structure Sequencer.Own (q : Sequencer) (e : Emit Sequencer) : Prop where
  made : MadeBy .sequencer e.out
  tells : ∀ h, (q.tells h).takeAll e.out = e.val.tells h
  copies : e.val.copies = q.copies
  outcomes : q.fewOutcomes → e.val.fewOutcomes

theorem Sequencer.Runs.own {q d : Sequencer} {e : Emit Sequencer} (h : q.Runs d e) (hc : d.copies = q.copies) :
    q.Own e :=
  ⟨h.made, h.tells, h.copies.trans hc, h.outcomes⟩

theorem Sequencer.own_armCommand (q : Sequencer) (t : Moment) (x : Side) (c : ArmCommand) :
    q.Own (q.armCommand t x c) :=
  (q.runs_armCommand t x c).own (by cases x <;> rfl)

theorem Sequencer.own_broomCommand (q : Sequencer) (t : Moment) (c : BroomCommand) : q.Own (q.broomCommand t c) :=
  (q.runs_broomCommand t c).own rfl

theorem Sequencer.own_output (q : Sequencer) (x : OutputTarget) (v : Int) : q.Own (q.output x v) :=
  (q.runs_output x v).own rfl

theorem Sequencer.own_regulationStep (q : Sequencer) (now : Time) : q.Own (.pure (q.regulationStep now)) := by
  obtain ⟨hs, ho, ht⟩ := q.regulationStep_kept now
  exact ⟨.nil _, fun x => (ht x).symm, congrArg (·.1) hs, ho⟩

theorem Sequencer.own_writeSettings (q : Sequencer) (m : Mode) (i : Nat) (x : ArmSettings) :
    q.Own (q.writeSettings m i x).1 := by
  obtain ⟨hc, ho, hn, ht⟩ := q.writeSettings_kept m i x
  exact ⟨hn ▸ .nil _, fun y => by rw [hn]; exact (ht y).symm, hc, ho⟩

/-- An event of the water controller that no offer brings. -/
structure Water.Own (w : Water) (e : Emit Water) : Prop where
  made : MadeBy .water e.out
  copies : e.val.copies = w.copies

theorem Water.Runs.own {w d : Water} {e : Emit Water} (h : d.Runs e) (hc : d.copies = w.copies) : w.Own e :=
  ⟨h.made, h.copies.trans hc⟩

theorem Water.own_request (w : Water) (now : Time) (b : Bool) (x : GroupSet) : w.Own (w.request now b x) :=
  (w.runs_reevaluate { w with enable := b, exclusion := x } now).own rfl

theorem Water.own_outputPrime (w : Water) (b : Bool) : w.Own (w.outputPrime b) :=
  (w.runs_finish { w with prime := b }).own rfl

theorem Water.own_tick (w : Water) (now : Time) : w.Own (.pure (w.tick now)) := by
  unfold Water.tick
  split <;> exact ⟨.nil _, rfl⟩

theorem Water.own_writeSettings (w : Water) (m : Mode) (x : WaterSettings) : w.Own (w.writeSettings m x).1 := by
  unfold Water.writeSettings
  repeat' split
  all_goals exact ⟨.nil _, rfl⟩

theorem Water.own_writeAssociation (w : Water) (m : Mode) (i : Fin 12) (x : Association) :
    w.Own (w.writeAssociation m i x).1 := by
  unfold Water.writeAssociation
  split <;> exact ⟨.nil _, rfl⟩

/-- The chain driver's own events that offer nothing. -/
theorem Chain.runs_kept {c d : Chain} (hm : d.mode = c.mode) (hf : d.failed = c.failed) : c.Runs (.pure d) :=
  ⟨hm, .nil _, fun x => by simp [Chain.tells, hf]⟩

theorem Chain.runs_timerExpiry (c : Chain) (now : Time) : c.Runs (.pure (c.timerExpiry now)) := by
  unfold Chain.timerExpiry Chain.wantRefresh
  repeat' split
  all_goals exact Chain.runs_kept rfl rfl

theorem Chain.runs_afterCompletion (c : Chain) : c.Runs (.pure c.afterCompletion) := by
  unfold Chain.afterCompletion
  split <;> exact Chain.runs_kept rfl rfl

theorem Pulse.runs_motorEdge (u : Pulse) (b : Bool) : u.Runs (.pure (u.motorEdge b)) := by
  unfold Pulse.motorEdge
  split <;> exact .pure rfl rfl

/-! ### The stages of a command -/

/-- One stage of a command, `u` where the command may clear the soft lock. The offers of RESTART come as they are. -/
inductive Stage (u : Prop) (s : State) : State → Prop
  | ports (x : Ports) : Stage u s (s.setPorts x)
  | notices {out : List Offer} (h : Notices out) : Stage u s (s.emit out)
  | restarts : Stage u s (s.emit restartOffers)
  | settle : Stage u s s.settle
  | mc {e : Emit ModeController} (h : s.mc.Own u s.selector e) : Stage u s (s.withMc e)
  | scanner {e : Emit Scanner} (h : s.scanner.Own e) : Stage u s (s.withScanner e)
  | converted {x : ScanEntry} (h : s.scanner.converting? = some x) (raw : Nat) :
    Stage u s (s.convert x.channel raw).endPass
  | monitor {e : Emit Monitor} (h : s.monitor.Runs e) : Stage u s (s.withMonitor e)
  | pulse {e : Emit Pulse} (h : s.pulse.Runs e) : Stage u s (s.withPulse e)
  | selector {e : Emit Selector} (h : s.selector.Own s.mc.limits.fwdCap e) : Stage u s (s.withSelector e)
  | budget {e : Emit Budget} (h : s.budget.Own e) : Stage u s (s.withBudget e)
  | governor {e : Emit Governor} (h : s.governor.Own e) : Stage u s (s.withGovernor e)
  | sequencer {e : Emit Sequencer} (h : s.sequencer.Own e) : Stage u s (s.withSequencer e)
  | water {e : Emit Water} (h : s.water.Own e) : Stage u s (s.withWater e)
  | chain {e : Emit Chain} (h : s.chain.Runs e) : Stage u s (s.withChain e)

/-- Stages one after the other. -/
def Stages (u : Prop) : State → State → Prop := Relation.ReflTransGen (Stage u)

theorem Stages.keeps {u : Prop} {P : State → Prop} (hk : ∀ s t, Stage u s t → P s → P t) {s t : State}
    (h : Stages u s t) (hs : P s) : P t := by
  induction h with
  | refl => exact hs
  | tail _ h ih => exact hk _ _ h ih

/-- A command that may clear the soft lock may also leave it. -/
theorem Stage.mono {u v : Prop} (huv : u → v) {s t : State} (h : Stage u s t) : Stage v s t := by
  cases h with
  | ports x => exact .ports x
  | notices h => exact .notices h
  | restarts => exact .restarts
  | settle => exact .settle
  | mc h => exact .mc ⟨h.toRuns, h.copies, h.hardLock, fun hv => h.softLock fun hu => hv (huv hu), h.limits⟩
  | scanner h => exact .scanner h
  | converted h raw => exact .converted h raw
  | monitor h => exact .monitor h
  | pulse h => exact .pulse h
  | selector h => exact .selector h
  | budget h => exact .budget h
  | governor h => exact .governor h
  | sequencer h => exact .sequencer h
  | water h => exact .water h
  | chain h => exact .chain h

theorem Stages.mono {u v : Prop} (huv : u → v) {s t : State} (h : Stages u s t) : Stages v s t :=
  Relation.ReflTransGen.mono (fun _ _ => Stage.mono huv) _ _ h

theorem Stage.stages {u : Prop} {s t : State} (h : Stage u s t) : Stages u s t := .single h

/-- A stage, and the offers are taken. -/
theorem Stage.thenSettle {u : Prop} {s t : State} (h : Stage u s t) : Stages u s t.settle :=
  Relation.ReflTransGen.tail (.single h) .settle

theorem Stages.refl (u : Prop) (s : State) : Stages u s s := Relation.ReflTransGen.refl

theorem Stages.trans {u : Prop} {s t v : State} (h : Stages u s t) (k : Stages u t v) : Stages u s v :=
  Relation.ReflTransGen.trans h k

/-- An event that offers nothing replaces the block's record. -/
theorem State.withMc_pure (s : State) (c : ModeController) : s.withMc (.pure c) = s.setMc c := State.emit_nil _
theorem State.withScanner_pure (s : State) (c : Scanner) : s.withScanner (.pure c) = s.setScanner c := State.emit_nil _
theorem State.withPulse_pure (s : State) (c : Pulse) : s.withPulse (.pure c) = s.setPulse c := State.emit_nil _
theorem State.withSequencer_pure (s : State) (c : Sequencer) : s.withSequencer (.pure c) = s.setSequencer c :=
  State.emit_nil _
theorem State.withWater_pure (s : State) (c : Water) : s.withWater (.pure c) = s.setWater c := State.emit_nil _
theorem State.withChain_pure (s : State) (c : Chain) : s.withChain (.pure c) = s.setChain c := State.emit_nil _

end Sys2Proof.Machine
end

section
/-! Every command is stages, but for START and the end of a speed window (01 R12; 02 R31; 05 R78). -/

namespace Sys2Proof.Machine

/-! ### The owning blocks' parts of the requests -/

section
variable {u : Prop}

theorem travelBody_stages (p : Port) (v : Int) (s : State) : Stages u s (travelBody p v s).1 := by
  unfold travelBody
  split
  · exact .refl u s
  · split
    · exact .refl u s
    · split
      · exact .refl u s
      · exact (Stage.governor ((s.governor.runs_travel _ _).own rfl rfl)).thenSettle

theorem State.changeMode_stages (s : State) (m : Mode) : Stages u s (s.changeMode m) :=
  (Stage.mc (s.mc.own_enterMode m .mode)).thenSettle

theorem modeHaltBody_stages (p : Port) (s : State) : Stages u s (modeHaltBody p s).1 := by
  unfold modeHaltBody
  split
  · exact .refl u s
  · split
    · exact .refl u s
    · exact s.changeMode_stages .halted

theorem modeTransportBody_stages (p : Port) (s : State) : Stages u s (modeTransportBody p s).1 := by
  unfold modeTransportBody
  split
  · exact .refl u s
  · split
    all_goals try exact .refl u s
    split
    · exact (s.changeMode_stages .stowing).trans (Stage.mc (ModeController.own_stowTest _)).thenSettle
    · exact .refl u s

theorem modeSweepBody_stages (p : Port) (s : State) : Stages u s (modeSweepBody p s).1 := by
  unfold modeSweepBody
  split
  · exact .refl u s
  · split
    all_goals try exact .refl u s
    all_goals
      split
      · exact .refl u s
      · split
        · exact .refl u s
        · exact s.changeMode_stages .sweep

theorem modeServiceBody_stages (p : Port) (s : State) : Stages u s (modeServiceBody p s).1 := by
  unfold modeServiceBody
  split
  · exact .refl u s
  · split
    all_goals try exact .refl u s
    all_goals
      split
      · exact s.changeMode_stages .service
      · exact .refl u s

theorem modeBody_stages (p : Port) (n : Nat) (s : State) : Stages u s (modeBody p n s).1 := by
  unfold modeBody
  split
  · exact modeHaltBody_stages p s
  · exact modeTransportBody_stages p s
  · exact modeSweepBody_stages p s
  · exact modeServiceBody_stages p s
  · exact .refl u s

theorem restartBody_stages (s : State) : Stages u s (restartBody s).1 :=
  ((Stage.mc s.mc.claimsOnly_withdrawAll.own).thenSettle.trans
    (Stage.mc (ModeController.own_enterMode _ .halted .restart)).thenSettle).trans Stage.restarts.thenSettle

theorem claimBody_stages (p : Port) (n : Nat) (s : State) : Stages u s (claimBody p n s).1 :=
  (Stage.mc (s.mc.claimsOnly_claim s.classOf p n).own).thenSettle

theorem releaseBody_stages (p : Port) (n : Nat) (s : State) : Stages u s (releaseBody p n s).1 :=
  (Stage.mc (s.mc.claimsOnly_release p n).own).thenSettle

theorem pinBody_stages (p : Port) (n : Nat) (s : State) : Stages u s (pinBody p n s).1 :=
  (Stage.selector ⟨s.selector.runs_pin _ _ _, Selector.pin_kept _ _ _⟩).thenSettle

theorem unpinBody_stages (p : Port) (s : State) : Stages u s (unpinBody p s).1 :=
  (Stage.selector ⟨s.selector.runs_unpin _ _, Selector.unpin_kept _ _⟩).thenSettle

theorem zoneAheadBody_stages (z : ZoneCode) (n : Nat) (s : State) : Stages u s (zoneAheadBody z n s).1 :=
  (Stage.selector ⟨s.selector.runs_zoneAhead _ _ _, Selector.zoneAhead_kept _ _ _⟩).thenSettle

theorem reserveBody_stages (p : Port) (n : Nat) (s : State) : Stages u s (reserveBody p n s).1 := by
  unfold reserveBody
  split
  · exact .refl u s
  · exact (Stage.budget ((s.budget.runs_report _ _ _).own rfl rfl rfl rfl)).thenSettle

theorem armBody_stages (p : Port) (x c : Nat) (s : State) : Stages u s (armBody p x c s).1 := by
  unfold armBody
  split
  · split
    · exact (Stage.sequencer (s.sequencer.own_armCommand _ _ _)).thenSettle
    · exact .refl u s
  · exact .refl u s

theorem broomBody_stages (p : Port) (c : Nat) (s : State) : Stages u s (broomBody p c s).1 := by
  unfold broomBody
  split
  · split
    · exact (Stage.sequencer (s.sequencer.own_broomCommand _ _)).thenSettle
    · exact .refl u s
  · exact .refl u s

theorem waterBody_stages (p : Port) (e x : Nat) (s : State) : Stages u s (waterBody p e x s).1 := by
  unfold waterBody
  split
  · exact .refl u s
  · split
    · exact .refl u s
    · exact (Stage.water (s.water.own_request _ _ _)).thenSettle

theorem holdSetBody_stages (p : Port) (n : Nat) (s : State) : Stages u s (holdSetBody p n s).1 :=
  (Stage.scanner ⟨s.scanner.runs_holdSet _ _ _, fun h => Scanner.sound_holdSet h _ _ _⟩).thenSettle

theorem releaseSetBody_stages (p : Port) (s : State) : Stages u s (releaseSetBody p s).1 :=
  (Stage.scanner ⟨s.scanner.runs_releaseSet _ _, fun h => Scanner.sound_releaseSet h _ _⟩).thenSettle

theorem clearLatchBody_stages (x : Mask) (s : State) : Stages u s (clearLatchBody x s).1 :=
  (Stage.monitor (s.monitor.runs_clearLatch x)).thenSettle

theorem clearFailedBody_stages (x : Mask) (s : State) : Stages u s (clearFailedBody x s).1 :=
  (Stage.chain (s.chain.runs_clearFailed _ x)).thenSettle

theorem State.setOutput_stages (s : State) (x : OutputTarget) (v : Int) : Stages u s (s.setOutput x v) := by
  unfold State.setOutput
  split
  · exact (Stage.water (s.water.own_outputPrime _)).thenSettle
  all_goals exact (Stage.sequencer (s.sequencer.own_output _ v)).thenSettle

theorem outputBody_stages (n : Nat) (v : Int) (s : State) : Stages u s (outputBody n v s).1 := by
  unfold outputBody
  split
  · exact .refl u s
  · split
    · exact .refl u s
    · split
      · exact .refl u s
      · split
        · exact .refl u s
        · split
          · exact .refl u s
          · exact s.setOutput_stages _ v

theorem subscribeBody_stages (p : Port) (c : Byte) (s : State) : Stages u s (subscribeBody p c s).1 := by
  unfold subscribeBody
  split
  · exact .refl u s
  · exact (Stage.ports _).stages

theorem lockKindBody_stages (b : Bool) (s : State) : Stages u s (lockKindBody b s).1 := by
  show Stages u s (s.setMc _)
  rw [← s.withMc_pure]
  exact (Stage.mc (s.mc.own_lock b)).stages

theorem lockBody_stages (n : Nat) (s : State) : Stages u s (lockBody n s).1 := by
  unfold lockBody
  split
  · exact lockKindBody_stages _ s
  · exact lockKindBody_stages _ s
  · exact .refl u s

theorem unlockBody_stages (hu : u) (s : State) : Stages u s (unlockBody s).1 := by
  show Stages u s (s.setMc _)
  rw [← s.withMc_pure]
  exact (Stage.mc (s.mc.own_unlock hu)).stages

/-! ### WRITE -/

theorem State.applyWrite_stages (s : State) (i : Nat) (w : RecordWrite) : Stages u s (s.applyWrite i w).1 := by
  cases w with
  | limits x => exact (Stage.mc (s.mc.own_writeLimits x)).thenSettle
  | roleMap x =>
    unfold State.applyWrite; dsimp only; split
    · exact .refl u s
    · exact (Stage.scanner ⟨s.scanner.runs_writeRole _ _ _, fun h => Scanner.sound_writeRole h _ _ _⟩).thenSettle
  | scanList x =>
    exact (Stage.scanner ⟨s.scanner.runs_writeList _ _ _, fun h => Scanner.sound_writeList h _ _ _⟩).thenSettle
  | scanControl x =>
    exact (Stage.scanner ⟨s.scanner.runs_writeControl _ _ _, fun h => Scanner.sound_writeControl h _ _ _⟩).thenSettle
  | windows x =>
    unfold State.applyWrite; dsimp only; split
    · exact .refl u s
    · exact (Stage.monitor (s.monitor.runs_writeWindow _ x)).thenSettle
  | assignments x =>
    unfold State.applyWrite; dsimp only; split
    · exact .refl u s
    · exact (Stage.monitor (s.monitor.runs_writeAssignment _ x)).thenSettle
  | pulse x => exact (Stage.pulse (s.pulse.runs_write _ _ x)).thenSettle
  | profiles x =>
    unfold State.applyWrite; dsimp only; split
    · exact .refl u s
    · exact (Stage.selector ⟨s.selector.runs_writeRow _ _ _ x, Selector.writeRow_kept _ _ x⟩).thenSettle
  | zones x =>
    unfold State.applyWrite; dsimp only; split
    · exact .refl u s
    · exact (Stage.selector ⟨s.selector.runs_writeZone _ x, Selector.writeZone_kept _ x⟩).thenSettle
  | zoneMask x =>
    exact (Stage.selector (e := (s.selector.writeMask x).1) ⟨.pure rfl, id, rfl⟩).thenSettle
  | budget x =>
    unfold State.applyWrite; dsimp only; split
    · exact .refl u s
    · exact (Stage.budget (s.budget.own_writeFloor _ x)).thenSettle
  | coefficients x => exact (Stage.budget (s.budget.own_writeCoefficients _ _ x)).thenSettle
  | travel x => exact (Stage.governor (s.governor.own_writeSettings _ x)).thenSettle
  | driveMap x => exact (Stage.governor (s.governor.own_writeMap _ x)).thenSettle
  | implements x => exact (Stage.sequencer (s.sequencer.own_writeSettings _ i x)).thenSettle
  | water x => exact (Stage.water (s.water.own_writeSettings _ x)).thenSettle
  | association x =>
    unfold State.applyWrite; dsimp only; split
    · exact .refl u s
    · exact (Stage.water (s.water.own_writeAssociation _ _ x)).thenSettle

theorem writeBody_stages (p : Port) (t : Table) (i : Nat) (r : List Byte) (s : State) :
    Stages u s (writeBody p t i r s).1 := by
  unfold writeBody State.writeTable
  split
  · exact .refl u s
  · split
    · exact .refl u s
    · split
      · exact .refl u s
      · split
        · exact s.applyWrite_stages i _
        · exact .refl u s

theorem writePayloadBody_stages (p : Port) (x : List Byte) (s : State) : Stages u s (writePayloadBody p x s).1 := by
  unfold writePayloadBody State.writePayload
  split
  · split
    · exact .refl u s
    · exact writeBody_stages p _ _ _ s
  · exact .refl u s

end

/-! ### Every command -/

/-- What the owning block's part of a request comes to: stages, or the parts of START. -/
def Parts (u : Prop) (s t : State) : Prop := Stages u s t ∨ t = s.started

theorem startBody_parts (u : Prop) (s : State) : Parts u s (startBody s).1 := by
  unfold startBody
  split
  all_goals try exact .inl (.refl u s)
  all_goals
    split
    · exact .inl (.refl u s)
    · exact .inr rfl

/-- The owning block's part of a request command. -/
theorem body_parts {c : Instr} {p : Port} {k : RequestKind} {tag : Byte} (h : c.request = some (p, k, tag))
    (s : State) : Parts (k = .unlock) s (c.body s).1 := by
  cases c
  case start => cases h; exact startBody_parts _ s
  case unlock => cases h; exact .inl (unlockBody_stages rfl s)
  case claim => cases h; exact .inl (claimBody_stages _ _ s)
  case release => cases h; exact .inl (releaseBody_stages _ _ s)
  case restart => cases h; exact .inl (restartBody_stages s)
  case travel => cases h; exact .inl (travelBody_stages _ _ s)
  case modeHalt => cases h; exact .inl (modeHaltBody_stages _ s)
  case modeTransport => cases h; exact .inl (modeTransportBody_stages _ s)
  case modeSweep => cases h; exact .inl (modeSweepBody_stages _ s)
  case modeService => cases h; exact .inl (modeServiceBody_stages _ s)
  case pin => cases h; exact .inl (pinBody_stages _ _ s)
  case unpin => cases h; exact .inl (unpinBody_stages _ s)
  case zoneAhead => cases h; exact .inl (zoneAheadBody_stages _ _ s)
  case reserve => cases h; exact .inl (reserveBody_stages _ _ s)
  case arm => cases h; exact .inl (armBody_stages _ _ _ s)
  case broom => cases h; exact .inl (broomBody_stages _ _ s)
  case water => cases h; exact .inl (waterBody_stages _ _ _ s)
  case holdSet => cases h; exact .inl (holdSetBody_stages _ _ s)
  case releaseSet => cases h; exact .inl (releaseSetBody_stages _ s)
  case clearLatch => cases h; exact .inl (clearLatchBody_stages _ s)
  case clearFailed => cases h; exact .inl (clearFailedBody_stages _ s)
  case output => cases h; exact .inl (outputBody_stages _ _ s)
  case read => cases h; exact .inl (.refl _ s)
  case subscribe => cases h; exact .inl (subscribeBody_stages _ _ s)
  case lockSoft => cases h; exact .inl (lockKindBody_stages _ s)
  case lockHard => cases h; exact .inl (lockKindBody_stages _ s)
  case write => cases h; exact .inl (writePayloadBody_stages _ _ s)
  all_goals cases h
  all_goals exact .inl (writeBody_stages _ _ _ _ s)

/-- The owning block's part of a frame's request, whatever its payload. -/
theorem RequestKind.body_parts (k : RequestKind) (p : Port) (x : List Byte) (s : State) :
    Parts (k = .unlock) s (k.body p x s).1 := by
  cases k with
  | start => exact startBody_parts _ s
  | unlock => exact .inl (unlockBody_stages rfl s)
  | claim => exact .inl (claimBody_stages _ _ s)
  | release => exact .inl (releaseBody_stages _ _ s)
  | restart => exact .inl (restartBody_stages s)
  | travel => exact .inl (travelBody_stages _ _ s)
  | mode => exact .inl (modeBody_stages _ _ s)
  | pin => exact .inl (pinBody_stages _ _ s)
  | unpin => exact .inl (unpinBody_stages _ s)
  | zoneAhead => exact .inl (zoneAheadBody_stages _ _ s)
  | reserve => exact .inl (reserveBody_stages _ _ s)
  | arm => exact .inl (armBody_stages _ _ _ s)
  | broom => exact .inl (broomBody_stages _ _ s)
  | water => exact .inl (waterBody_stages _ _ _ s)
  | holdSet => exact .inl (holdSetBody_stages _ _ s)
  | releaseSet => exact .inl (releaseSetBody_stages _ s)
  | clearLatch => exact .inl (clearLatchBody_stages _ s)
  | clearFailed => exact .inl (clearFailedBody_stages _ s)
  | output => exact .inl (outputBody_stages _ _ s)
  | read => exact .inl (.refl _ s)
  | write => exact .inl (writePayloadBody_stages _ _ s)
  | subscribe => exact .inl (subscribeBody_stages _ _ s)
  | lock => exact .inl (lockBody_stages _ s)

theorem RequestKind.checkedBody_parts (k : RequestKind) (p : Port) (x : List Byte) (s : State) :
    Parts (k = .unlock) s (k.checkedBody p x s).1 := by
  unfold RequestKind.checkedBody
  split
  · exact k.body_parts p x s
  · split
    · exact k.body_parts p x s
    · exact .inl (.refl _ s)

/-- What a command comes to: stages, or the parts of START between changes of the ports. -/
inductive Course (u : Prop) (s : State) : State → Prop
  | stages {t : State} (h : Stages u s t) : Course u s t
  | started {t : State} (h : Stages u s t) (hk : s.offers = [] → t = s.setPorts t.ports) (x : Ports) :
    Course u s (t.started.setPorts x)

theorem Course.of_stages {u : Prop} {s t v : State} (h : Stages u s t) (hk : s.offers = [] → t = s.setPorts t.ports)
    (hc : Course u t v) : Course u s v := by
  cases hc with
  | stages k => exact .stages (h.trans k)
  | @started w k hw x =>
    refine .started (h.trans k) (fun ho => ?_) x
    have ht := hk ho
    rw [hw (by rw [ht]; exact ho), ht]
    rfl

theorem State.answer_course {u : Prop} {s : State} {body : RequestBody} (h : Parts u s (body s).1) (p : Port)
    (k : RequestKind) (tag : Byte) : Course u s (s.answer p k tag body) := by
  unfold State.answer
  split
  · obtain h | h := h
    · exact .stages (h.trans (Stage.ports _).stages)
    · rw [h]
      exact .started (.refl u s) (fun _ => rfl) _
  · exact .stages (Stage.ports _).stages

theorem State.serve_course {u : Prop} {s : State} {body : RequestBody} (h : Parts u s (body s).1) (p : Port)
    (k : RequestKind) (tag : Byte) : Course u s (s.serve p k tag body) := by
  unfold State.serve
  split
  · exact .stages (.refl u s)
  · split
    · exact .stages (Stage.ports _).stages
    · exact State.answer_course h p k tag

/-- A frame whose kind byte is not that of UNLOCK does not clear the soft lock. -/
theorem State.handOver_course {u : Prop} (s : State) (p : Port) (bytes : List Byte)
    (hu : bytes.head? = some 0x17 → u) : Course u s (s.handOver p bytes) := by
  unfold State.handOver
  dsimp only
  split
  · exact .stages (Stage.ports _).stages
  · rename_i k hk
    have hb := k.checkedBody_parts p ((bytes.drop 3).take (lengthByte bytes)) s
    have hlift : k = .unlock → u := by
      rintro rfl
      refine hu ?_
      cases bytes with
      | nil => cases hk
      | cons b l =>
        have hn : RequestKind.unlock.number = b.toNat :=
            eq_of_beq (List.find?_some (p := fun k : RequestKind => k.number == b.toNat) hk)
        exact congrArg some (BitVec.eq_of_toNat_eq hn.symm)
    exact State.answer_course (hb.imp_left (Stages.mono hlift)) p k _

theorem State.linkChanged_stages {u : Prop} (s : State) (p : Port) (old : PortState) :
    Stages u s (s.linkChanged p old) := by
  have hn : Notices ((otherPorts p).map fun q => .postTo q .linkState (portNumber p) (s.port p).state.number) := by
    intro o ho
    obtain ⟨q, -, rfl⟩ := List.mem_map.1 ho
    rfl
  unfold State.linkChanged
  dsimp only
  split
  · exact .refl u s
  · split
    · exact (Stage.notices hn).thenSettle.trans
        (Stage.mc (ModeController.claimsOnly_withdrawPort _ p).own).thenSettle
    · exact (Stage.notices hn).thenSettle

/-- A port unit that has evaluated a frame, with what follows its change of state. -/
theorem State.frameTaken_stages {u : Prop} (s : State) (p : Port) (v : PortUnit) :
    Stages u s ((s.setPort p v).linkChanged p (s.port p).state) :=
  (Stage.ports _).stages.trans (State.linkChanged_stages _ p _)

theorem State.frameEnd_course {u : Prop} (s : State) (p : Port)
    (hu : (s.port p).receiver.bytes.head? = some 0x17 → u) : Course u s (s.frameEnd p) := by
  by_cases hr : (s.port p).receiver.state = .receiving
  · cases hslot : (s.port p).slot with
    | some r =>
      rw [State.frameEnd_of_occupied hr (by simp [hslot])]
      exact .stages (Stage.ports _).stages
    | none =>
      by_cases hgood : (s.port p).receiver.good = true
      · by_cases hcut : (s.port p).state = .cutOff
        · rw [State.frameEnd_of_good_cutOff hr hslot hgood hcut]
          exact .stages (s.frameTaken_stages p _)
        · rw [State.frameEnd_of_good hr hslot hgood hcut]
          refine .of_stages (s.frameTaken_stages p _) (fun ho => ?_) (State.handOver_course _ p _ hu)
          exact (State.takesGoodFrame_linkChanged hcut fun _ _ => ho).1
      · rw [State.frameEnd_of_bad hr hslot (by simpa using hgood)]
        exact .stages (s.frameTaken_stages p _)
  · rw [State.frameEnd_of_not_receiving hr]
    exact .stages (.refl u s)

/-- The commands of receivers, transmitters, lines and timers. -/
theorem exec_stages {u : Prop} {c : Instr} (hr : c.request = none) (hp : c.isPowerOn = false) (hw : c ≠ .speedWindowEnd)
    (hf : ∀ p, c ≠ .frameEnd p) {s t : State} (h : exec c s = .next t) : Stages u s t := by
  cases c
  case powerOn => cases hp
  case speedWindowEnd => exact absurd rfl hw
  case frameEnd p => exact absurd rfl (hf p)
  case receiverReady | startBit | transmitterFrameEnd | noticeRecordSent => cases h; exact (Stage.ports _).stages
  case timeCounterAdvance =>
    cases h
    have hmc : s.mc.Own u s.selector (.pure { s.mc with time := s.mc.time + 1 }) := .pure rfl rfl id fun _ => id
    rw [← State.withMc_pure, ← State.withWater_pure]
    exact (Stage.mc hmc).stages.trans (Stage.water (s := s.withMc _) (s.water.own_tick _)).stages
  case estopAssertion => cases h; exact (Stage.mc s.mc.own_estopActive).thenSettle
  case estopLineInactive =>
    cases h
    rw [← State.withMc_pure]
    exact (Stage.mc s.mc.own_estopInactive).stages
  case estopRelease =>
    cases h
    rw [← State.withMc_pure]
    exact (Stage.mc s.mc.own_estopReleased).stages
  case conversionComplete raw =>
    simp only [exec, execConversionComplete] at h
    split at h
    · cases h; exact .refl u s
    · cases h; exact (Stage.converted ‹_› _).stages
  case scanPeriodExpiry =>
    cases h
    rw [← State.withScanner_pure]
    exact (Stage.scanner ⟨.pure (s.scanner.stale_periodExpiry _), fun h => Scanner.sound_periodExpiry h _⟩).stages
  case holdLeaseExpiry =>
    cases h
    exact (Stage.scanner ⟨s.scanner.runs_leaseExpiry _, fun h => Scanner.sound_leaseExpiry h _⟩).thenSettle
  case staleTimerExpiry =>
    cases h
    exact (Stage.scanner ⟨s.scanner.runs_staleExpiry _, fun h => Scanner.sound_staleExpiry h _⟩).thenSettle
  case motorPulse b =>
    cases h
    rw [← State.withPulse_pure]
    exact (Stage.pulse (s.pulse.runs_motorEdge b)).stages
  case groundPulse => cases h; exact (Stage.pulse (s.pulse.runs_groundEdge _)).thenSettle
  case lossTimerExpiry => cases h; exact (Stage.pulse (s.pulse.runs_lossExpiry _)).thenSettle
  case reserveLeaseExpiry => cases h; exact (Stage.budget (s.budget.own_leaseEnds _)).thenSettle
  case holdExpiry row => cases h; exact (Stage.budget (s.budget.own_holdEnds _ row)).thenSettle
  case travelLeaseExpiry => cases h; exact (Stage.governor (s.governor.own_leaseEnds _ _)).thenSettle
  case rampStep => cases h; exact (Stage.governor (s.governor.own_rampStep _)).thenSettle
  case liftWaitExpiry => cases h; exact (Stage.governor ((s.governor.runs_liftWaitExpiry _).own rfl rfl)).thenSettle
  case regulationStep =>
    cases h
    rw [← State.withSequencer_pure]
    exact (Stage.sequencer (s.sequencer.own_regulationStep _)).stages
  case swingTimerExpiry x => cases h; exact (Stage.sequencer ((s.sequencer.runs_swingExpiry _ x).own rfl)).thenSettle
  case retryWaitExpiry x => cases h; exact (Stage.sequencer ((s.sequencer.runs_retryExpiry _ x).own rfl)).thenSettle
  case lowerTimeExpiry x => cases h; exact (Stage.sequencer ((s.sequencer.runs_lowerExpiry _ x).own rfl)).thenSettle
  case yieldTimeExpiry x => cases h; exact (Stage.sequencer ((s.sequencer.runs_yieldExpiry _ x).own rfl)).thenSettle
  case liftTimeExpiry x => cases h; exact (Stage.sequencer ((s.sequencer.runs_liftExpiry _ x).own rfl)).thenSettle
  case mainBroomLowerExpiry =>
    cases h; exact (Stage.sequencer ((s.sequencer.runs_mainLowerExpiry _).own rfl)).thenSettle
  case mainBroomLiftExpiry =>
    cases h; exact (Stage.sequencer ((s.sequencer.runs_mainLiftExpiry _).own rfl)).thenSettle
  case primeTimerExpiry => cases h; exact (Stage.water ((s.water.runs_primeExpiry _).own rfl)).thenSettle
  case refreshTimerExpiry =>
    cases h
    rw [← State.withChain_pure]
    exact (Stage.chain (s.chain.runs_timerExpiry _)).stages
  case refreshCompletion echo fault =>
    cases h
    split
    · unfold State.completeRefresh
      dsimp only
      rw [← State.withChain_pure]
      exact (Stage.chain (s.chain.runs_complete echo fault)).thenSettle.trans
        (Stage.chain (Chain.runs_afterCompletion _)).stages
    · exact .refl u s
  all_goals cases hr

/-- A command or frame of UNLOCK. -/
def MayUnlock (c : Instr) (s : State) : Prop :=
  (∃ p tag, c = .unlock p tag) ∨ ∃ p, c = .frameEnd p ∧ (s.port p).receiver.bytes.head? = some 0x17

/-- Every command but POWER_ON and the end of a speed window is stages, or the parts of START between changes of the
ports. -/
theorem exec_course {c : Instr} (hp : c.isPowerOn = false) (hw : c ≠ .speedWindowEnd) {s t : State}
    (h : exec c s = .next t) : Course (MayUnlock c s) s t := by
  cases hr : c.request with
  | some r =>
    obtain ⟨p, k, tag⟩ := r
    cases (exec_of_request hr s).symm.trans h
    refine State.serve_course ((body_parts hr s).imp_left (Stages.mono ?_)) p k tag
    rintro rfl
    cases c <;> cases hr
    exact .inl ⟨_, _, rfl⟩
  | none =>
    by_cases hf : ∃ p, c = .frameEnd p
    · obtain ⟨p, rfl⟩ := hf
      cases h
      exact s.frameEnd_course p fun hb => .inr ⟨p, rfl, hb⟩
    · exact .stages (exec_stages hr hp hw (fun p e => hf ⟨p, e⟩) h)

end Sys2Proof.Machine
end

section
/-! The records stay sound (03, 04, 06, 09): every offer and every stage keeps them so, but that the last result of a
pass may stand in the live set while the window monitor evaluates it. -/

namespace Sys2Proof.Machine

/-- The records are sound, but that the live set may hold `k` results more than there are entries to convert. -/
def State.soundWith (k : Nat) (s : State) : Prop :=
  s.scanner.soundWith k ∧ s.monitor.outputs = s.monitor.derive ∧ s.selector.sound s.mc.limits.fwdCap ∧
    s.sequencer.fewOutcomes

theorem State.recordsSound_iff (s : State) : s.recordsSound ↔ s.soundWith 0 := by
  constructor
  · rintro ⟨h1, h2, h3, h4, h5, h6, h7⟩
    exact ⟨h1, h2, ⟨h3, h4, h5, h6⟩, h7⟩
  · rintro ⟨h1, h2, ⟨h3, h4, h5, h6⟩, h7⟩
    exact ⟨h1, h2, h3, h4, h5, h6, h7⟩

/-- Scanner, monitor and selector stay, and the limits. -/
theorem State.soundWith_of_same {k : Nat} {s t : State} (hs : s.soundWith k)
    (h : (t.scanner, t.monitor, t.selector, t.mc.limits) = (s.scanner, s.monitor, s.selector, s.mc.limits))
    (hq : s.sequencer.fewOutcomes → t.sequencer.fewOutcomes) : t.soundWith k := by
  simp only [Prod.mk.injEq] at h
  obtain ⟨h1, h2, h3, h4⟩ := h
  unfold State.soundWith
  rw [h1, h2, h3, h4]
  exact hs.imp_right (.imp_right (.imp_right hq))

/-- An event of the mode controller that keeps the limits. -/
theorem State.soundWith_withMc {k : Nat} {s : State} (hs : s.soundWith k) {e : Emit ModeController}
    (h : e.val.limits = s.mc.limits) : (s.withMc e).soundWith k :=
  State.soundWith_of_same hs (by rw [State.withMc_mc, h]; rfl) id

theorem State.soundWith_withMonitor {k : Nat} {s : State} (hs : s.soundWith k) {e : Emit Monitor}
    (h : s.monitor.Runs e) : (s.withMonitor e).soundWith k := by
  obtain ⟨hs, hm, hx, hq⟩ := hs
  have hm' : e.val.outputs = e.val.derive := h.outputs hm
  exact ⟨hs, hm', hx, hq⟩

/-- Every offer keeps the records sound. -/
theorem deliver_soundWith {k : Nat} (o : Offer) {s : State} (h : s.soundWith k) : (deliver o s).soundWith k := by
  obtain ⟨hs, hm, hx, hq⟩ := id h
  have se : ∀ {q : Sequencer} {e : Emit Sequencer}, s.sequencer.Runs q e → (s.withSequencer e).soundWith k :=
    fun r => ⟨hs, hm, hx, r.outcomes hq⟩
  cases o
  case scannerHalted => exact ⟨Scanner.soundWith_halted hs, hm, hx, hq⟩
  case scannerStart => exact ⟨Scanner.soundWith_start hs _, hm, hx, hq⟩
  case scannerRestart => exact ⟨Scanner.soundWith_restart hs, hm, hx, hq⟩
  case monitorRestart => exact State.soundWith_withMonitor h s.monitor.runs_restart
  case selectorStart => exact ⟨hs, hm, Selector.sound_start hx, hq⟩
  case selectorRestart => exact ⟨hs, hm, Selector.sound_restart hx, hq⟩
  case selectorPath n j => exact ⟨hs, hm, Selector.sound_pathAdvance hx n j, hq⟩
  case haltOutput b =>
    refine State.soundWith_withMc h ?_
    unfold ModeController.takeHalt
    dsimp only
    split <;> rfl
  case modeImplements l r m =>
    exact State.soundWith_withMc h (ModeController.stowTest_kept { s.mc with armL := l, armR := r, main := m }).2.2
  case sequencerMode => exact se (s.sequencer.runs_takeMode _ _)
  case sequencerStart => exact se (s.sequencer.runs_start _)
  case sequencerRestart => exact se s.sequencer.runs_restart
  case sequencerStale => exact ⟨hs, hm, hx, Sequencer.fewOutcomes_of rfl rfl hq⟩
  case sequencerMeasures => exact se (s.sequencer.runs_takeMeasures _ _ _ _ _)
  case sequencerProfile => exact se (s.sequencer.runs_takeProfile _ _)
  case sequencerLiftFailed => exact se (s.sequencer.runs_takeFailed _ _ _ _)
  case sequencerLimits | sequencerLift | sequencerCoefficients | sequencerGrants | liftForReverse =>
    exact se (Sequencer.runs_event (Sequencer.fewOutcomes_of (by rfl) (by rfl)))
  case holderChanged d =>
    cases d
    case implements => exact se (s.sequencer.runs_holderChanged _)
    all_goals exact ⟨hs, hm, hx, hq⟩
  all_goals exact ⟨hs, hm, hx, hq⟩

theorem State.soundWith_settle {k : Nat} {s : State} (h : s.soundWith k) : s.settle.soundWith k :=
  s.settle_keeps (P := State.soundWith k) (fun _ _ h => h) (fun o _ h => deliver_soundWith o h) h

/-! ### A conversion (03 R50) -/

/-- The scanner converts an entry: there is one more to convert than the live set holds. -/
theorem Scanner.converting?_eq_some {c : Scanner} {x : ScanEntry} (h : c.converting? = some x) :
    c.state = .converting ∧ c.live.length < c.scanList.length := by
  unfold Scanner.converting? at h
  split at h
  · exact ⟨‹_›, (List.getElem?_eq_some_iff.1 h).1⟩
  all_goals cases h

/-- A conversion: the result enters the live set, and if it is the last one the pass ends. -/
theorem State.soundWith_converted {s : State} (h : s.soundWith 0) {x : ScanEntry}
    (hx : s.scanner.converting? = some x) (raw : Nat) : (s.convert x.channel raw).endPass.soundWith 0 := by
  obtain ⟨hs, hrest⟩ := id h
  have stored : (s.setScanner (s.scanner.store x.channel raw)).soundWith 1 := by
    refine ⟨?_, hrest⟩
    obtain ⟨h1, h2, h3, -, h5, h6, h7⟩ := hs
    refine ⟨h1, h2, h3, fun _ => ?_, h5, h6, h7⟩
    have := (Scanner.converting?_eq_some hx).2
    simp only [State.setScanner_scanner, Scanner.store, List.length_append, List.length_singleton]
    omega
  obtain ⟨ks, krest⟩ := State.soundWith_settle (State.soundWith_withMonitor stored (Monitor.runs_evaluate _ s.mc.time
    x.channel raw))
  unfold State.endPass
  split
  · exact State.soundWith_settle ⟨Scanner.sound_passEnds ks _, krest⟩
  · rename_i hc
    obtain ⟨h1, h2, h3, h4, h5⟩ := ks
    refine ⟨⟨h1, h2, h3, fun hstate => ?_, h5⟩, krest⟩
    have hstate : (s.convert x.channel raw).scanner.state = .converting := hstate
    by_contra hlen
    exact hc (by simp only [Scanner.passComplete, hstate]; simpa using hlen)

/-! ### Every command -/

theorem Stage.soundWith {u : Prop} {s t : State} (ht : Stage u s t) (h : s.soundWith 0) : t.soundWith 0 := by
  obtain ⟨hs, hm, hx, hq⟩ := id h
  cases ht with
  | ports | notices | restarts | pulse | budget | governor | water | chain => exact h
  | settle => exact State.soundWith_settle h
  | mc k => exact ⟨hs, hm, k.limits hx, hq⟩
  | scanner k => exact ⟨k.sound hs, hm, hx, hq⟩
  | converted k raw => exact State.soundWith_converted h k raw
  | monitor k => exact State.soundWith_withMonitor h k
  | selector k => exact ⟨hs, hm, k.kept.1 hx, hq⟩
  | sequencer k => exact ⟨hs, hm, hx, k.outcomes hq⟩

theorem State.soundWith_started {s : State} (h : s.soundWith 0) : s.started.soundWith 0 :=
  State.soundWith_settle (s := State.setChain _ _)
    (State.soundWith_settle (State.soundWith_withMc h (e := s.mc.enterStart) rfl))

theorem exec_soundWith {c : Instr} {s t : State} (h : exec c s = .next t) (hs : s.soundWith 0) : t.soundWith 0 := by
  by_cases hp : c.isPowerOn = true
  · cases c <;> try cases hp
    cases h
    exact (State.recordsSound_iff _).1 (State.powerOn_recordsSound _ _ _ _)
  · by_cases hw : c = .speedWindowEnd
    · subst hw
      cases h
      exact State.soundWith_settle (s := s.withPulse _) hs
    · cases exec_course (by simpa using hp) hw h with
      | stages k => exact k.keeps (fun _ _ ht => ht.soundWith) hs
      | started k _ x =>
        exact State.soundWith_started (Stages.keeps (P := State.soundWith 0) (fun _ _ ht => ht.soundWith) k hs)

end Sys2Proof.Machine

open Sys2Proof Sys2Proof.Machine

/-- Settles O58: each offer and each stage of a command keeps the records sound; a conversion takes the live set one
result too far and the end of the pass takes it back. -/
theorem recordsStaySound : Obligations.RecordsStaySound :=
  keptByStep_of_exec (fun _ _ h => h) fun _ _ _ h hs =>
    (State.recordsSound_iff _).2 (exec_soundWith h ((State.recordsSound_iff _).1 hs))
end

section
/-! The copies agree between commands (00 section 3.1): every stage keeps the agreement but for the offers on their way;
START and the end of a speed window, whose offers set path counters and modes by their own ways, restore it. -/

namespace Sys2Proof.Machine

/-! ### The stages -/

section
variable {s : State}

theorem State.AllCoherent.withMc {u : Prop} (h : s.AllCoherent) {e : Emit ModeController}
    (k : s.mc.Own u s.selector e) : (s.withMc e).AllCoherent := by
  have hk := k.copies
  simp only [Prod.mk.injEq] at hk
  obtain ⟨h1, h2, h3, h4⟩ := hk
  exact h.event (s.tells_withMc k.toRuns)
    ⟨by simp only [State.held, State.withMc_mc, h1, h2, h3, h4]; rfl, rfl, rfl, rfl, rfl, rfl⟩

theorem State.AllCoherent.withScanner (h : s.AllCoherent) {e : Emit Scanner} (k : s.scanner.Runs e) :
    (s.withScanner e).AllCoherent :=
  h.event (s.tells_withScanner k.made k.tells) ⟨rfl, rfl, rfl, rfl, rfl, rfl⟩

theorem State.AllCoherent.withMonitor (h : s.AllCoherent) {e : Emit Monitor} (k : s.monitor.Runs e) :
    (s.withMonitor e).AllCoherent :=
  h.event (s.tells_withMonitor k) ⟨rfl, rfl, rfl, rfl, rfl, rfl⟩

theorem State.AllCoherent.withPulse (h : s.AllCoherent) {e : Emit Pulse} (k : s.pulse.Runs e) :
    (s.withPulse e).AllCoherent :=
  h.event (s.tells_withPulse (k.made.plain_of_pulse k.noPath) k.tells) ⟨rfl, rfl, rfl, k.path, rfl, rfl⟩

theorem State.AllCoherent.withSelector (h : s.AllCoherent) {n : Nat} {e : Emit Selector} (k : s.selector.Own n e) :
    (s.withSelector e).AllCoherent :=
  h.event (s.tells_withSelector k.toRuns) ⟨rfl, rfl, rfl, rfl, k.kept.2, rfl⟩

theorem State.AllCoherent.withBudget (h : s.AllCoherent) {e : Emit Budget} (k : s.budget.Own e) :
    (s.withBudget e).AllCoherent :=
  h.event (s.tells_withBudget k.made k.tells) ⟨State.held_withBudget k.derate k.ranks, k.mode, rfl, rfl, rfl, rfl⟩

theorem State.AllCoherent.withGovernor (h : s.AllCoherent) {e : Emit Governor} (k : s.governor.Own e) :
    (s.withGovernor e).AllCoherent :=
  h.event (s.tells_withGovernor k.made k.tells) ⟨State.held_withGovernor k.copies, rfl, rfl, rfl, rfl, rfl⟩

theorem State.AllCoherent.withSequencer (h : s.AllCoherent) {e : Emit Sequencer} (k : s.sequencer.Own e) :
    (s.withSequencer e).AllCoherent :=
  h.event (s.tells_withSequencer k.made k.tells) ⟨State.held_withSequencer k.copies, rfl, rfl, rfl, rfl, rfl⟩

theorem State.AllCoherent.withWater (h : s.AllCoherent) {e : Emit Water} (k : s.water.Own e) :
    (s.withWater e).AllCoherent :=
  h.event (s.tells_withWater k.made)
    ⟨State.held_withWater k.copies, rfl, rfl, rfl, rfl, congrArg WaterCopies.path k.copies⟩

theorem State.AllCoherent.withChain (h : s.AllCoherent) {e : Emit Chain} (k : s.chain.Runs e) :
    (s.withChain e).AllCoherent :=
  h.event (s.tells_withChain k) ⟨rfl, rfl, k.mode, rfl, rfl, rfl⟩

theorem State.AllCoherent.notices (h : s.AllCoherent) {out : List Offer} (hn : Notices out) :
    (s.emit out).AllCoherent :=
  h.event (.of_plain rfl (Held.takeAll_of_notices hn _) hn.plain rfl) ⟨rfl, rfl, rfl, rfl, rfl, rfl⟩

/-- What RESTART offers leaves the modes, and sets the path counter and its copies to 0. -/
theorem State.AllCoherent.restarts (h : s.AllCoherent) : (s.emit restartOffers).AllCoherent := by
  obtain ⟨⟨hheld, hbudget, -, -, hstart⟩, hchain⟩ := h
  refine ⟨⟨?_, ?_, ?_, ?_, ?_⟩, ?_⟩
  · show s.held.takeAll (s.offers ++ restartOffers) = s.told
    rw [Held.takeAll_append, hheld]
    rfl
  · show (s.offers ++ restartOffers).foldl Mode.afterBudget s.budget.mode = s.mc.mode
    rw [List.foldl_append, hbudget]
    rfl
  · show (s.offers ++ restartOffers).foldl selectorPathAfter s.selector.path =
      (s.offers ++ restartOffers).foldl pathAfter s.pulse.path
    rw [List.foldl_append, List.foldl_append]
    rfl
  · show (s.offers ++ restartOffers).foldl waterPathAfter s.water.copies.path =
      (s.offers ++ restartOffers).foldl pathAfter s.pulse.path
    rw [List.foldl_append, List.foldl_append]
    rfl
  · show .selectorStart ∉ s.offers ++ restartOffers
    rw [List.mem_append]
    exact not_or.2 ⟨hstart, by simp [restartOffers]⟩
  · show (s.offers ++ restartOffers).foldl Mode.afterChain s.chain.mode = s.mc.mode
    rw [List.foldl_append, hchain]
    rfl

theorem State.AllCoherent.setPorts (h : s.AllCoherent) (x : Ports) : (s.setPorts x).AllCoherent :=
  h.event (.of_told rfl rfl rfl) ⟨rfl, rfl, rfl, rfl, rfl, rfl⟩

theorem State.AllCoherent.converted (h : s.AllCoherent) (ch : Fin 16) (raw : Nat) :
    (s.convert ch raw).endPass.AllCoherent := by
  have hc : (s.convert ch raw).AllCoherent := by
    have hs : (s.setScanner (s.scanner.store ch raw)).AllCoherent :=
      s.withScanner_pure _ ▸ h.withScanner (e := .pure (s.scanner.store ch raw)) (.pure rfl)
    exact (hs.withMonitor (Monitor.runs_evaluate _ s.mc.time ch raw)).settle
  unfold State.endPass
  split
  · exact (hc.withScanner (Scanner.runs_passEnds _ _)).settle
  · exact hc

end

theorem Stage.allCoherent {u : Prop} {s t : State} (ht : Stage u s t) (h : s.AllCoherent) : t.AllCoherent := by
  cases ht with
  | ports x => exact h.setPorts x
  | notices hn => exact h.notices hn
  | restarts => exact h.restarts
  | settle => exact h.settle
  | mc k => exact h.withMc k
  | scanner k => exact h.withScanner k.toRuns
  | converted _ raw => exact h.converted _ raw
  | monitor k => exact h.withMonitor k
  | pulse k => exact h.withPulse k
  | selector k => exact h.withSelector k
  | budget k => exact h.withBudget k
  | governor k => exact h.withGovernor k
  | sequencer k => exact h.withSequencer k
  | water k => exact h.withWater k
  | chain k => exact h.withChain k

/-! ### The end of a speed window (05 R78) -/

/-- With no offer waiting, agreement but for the offers on their way makes the path copies those of the counter. -/
theorem State.AllCoherent.of_nil {s : State} (ho : s.offers = []) :
    s.AllCoherent ↔ s.held = s.told ∧ s.budget.mode = s.mc.mode ∧ s.chain.mode = s.mc.mode ∧
      s.selector.path = s.pulse.path ∧ s.water.copies.path = s.pulse.path := by
  constructor
  · rintro ⟨⟨h1, h2, h3, h4, -⟩, h5⟩
    unfold State.ChainFollows at h5
    rw [ho] at h1 h2 h3 h4 h5
    exact ⟨h1, h2, h5, h3, h4⟩
  · rintro ⟨h1, h2, h3, h4, h5⟩
    refine ⟨⟨?_, ?_, ?_, ?_, by rw [ho]; exact List.not_mem_nil⟩, ?_⟩
    · rw [ho]; exact h1
    · rw [ho]; exact h2
    · rw [ho]; exact h4
    · rw [ho]; exact h5
    · unfold State.ChainFollows
      rw [ho]
      exact h3

/-- A new path counter offered to both its readers, then what else the pulse unit tells. -/
theorem State.AllCoherent.pathOffered {s : State} (h : s.AllCoherent) (ho : s.offers = []) {e : Emit Pulse}
    (hp : Plain e.out) (ht : ∀ x, (s.pulse.tells x).takeAll e.out = e.val.tells x) (n k : Nat)
    (hn : n = e.val.path) :
    (s.withPulse ⟨e.val, [.selectorPath n k, .waterPath n k] ++ e.out⟩).AllCoherent := by
  subst hn
  obtain ⟨hheld, hbudget, hchain, -, -⟩ := (State.AllCoherent.of_nil ho).1 h
  have hpath : ∀ o ∈ e.out, o.movesPath = false := fun o hm => (hp o hm).1
  have hout : (s.withPulse ⟨e.val, [.selectorPath e.val.path k, .waterPath e.val.path k] ++ e.out⟩).offers =
      .selectorPath e.val.path k :: .waterPath e.val.path k :: e.out := by
    show s.offers ++ _ = _
    rw [ho]
    rfl
  refine ⟨⟨?_, ?_, ?_, ?_, ?_⟩, ?_⟩
  · rw [hout]
    exact (congrArg (Held.takeAll · e.out) hheld).trans ((s.tells_withPulse hp ht).told)
  · rw [hout]
    exact (hp.budget _).trans hbudget
  · rw [hout]
    exact (foldl_selectorPathAfter hpath _).trans (foldl_pathAfter hpath _).symm
  · rw [hout]
    exact (foldl_waterPathAfter hpath _).trans (foldl_pathAfter hpath _).symm
  · rw [hout]
    simpa using not_mem_of_pathless hpath
  · unfold State.ChainFollows
    rw [hout]
    exact (hp.chain _).trans hchain

theorem Pulse.path_takeSpeeds (u : Pulse) : u.takeSpeeds.path = u.path := by
  have hkept : ∀ n d k, { u with motorSpeed := n, direction := d, groundSpeed := k }.path = u.path :=
    fun _ _ _ => rfl
  exact hkept _ _ _

/-- The path counter at the end of a speed window and its copies agree once their offers are taken. -/
theorem State.AllCoherent.windowEnd {s : State} (h : s.AllCoherent) (ho : s.offers = []) :
    (s.withPulse (s.pulse.windowEnd s.mc.time)).AllCoherent := by
  rw [Pulse.windowEnd_eq]
  split
  · obtain ⟨hmade, hpath⟩ := s.pulse.madeBy_windowClosed s.mc.time
    have hplain := hmade.plain_of_pulse hpath
    have hp := s.pulse.path_windowClosed s.mc.time
    have htells := s.pulse.tells_windowClosed s.mc.time
    generalize s.pulse.windowClosed s.mc.time = e at hplain hp htells
    obtain ⟨hsame, hout⟩ | ⟨k, hout⟩ := s.pulse.takeSpeeds.takePath_out
    · rw [hout]
      exact h.event (s.tells_withPulse hplain htells)
        ⟨rfl, rfl, rfl, hp.trans (hsame.trans s.pulse.path_takeSpeeds), rfl, rfl⟩
    · rw [hout]
      exact h.pathOffered ho hplain htells _ k hp.symm
  · exact h.withPulse (.pure rfl rfl)

/-! ### START (02 R31) -/

/-- START once its first three offers are taken: the scanner, the pulse unit and the selector have STARTed. -/
def State.begun (s : State) : State :=
  let t := s.withMc s.mc.enterStart
  ((((t.setScanner (t.scanner.start t.mc.time)).setPulse t.pulse.start).setSelector t.selector.start.val).setOffers
    (t.offers.drop 3 ++ t.selector.start.out))

theorem State.settle_enterStart {s : State} (ho : s.offers = []) :
    (s.withMc s.mc.enterStart).settle = settleN 997 s.begun := by
  show settleN (997 + 1 + 1 + 1) _ = _
  obtain ⟨_⟩ := s
  cases ho
  rw [settleN_succ _ _ .scannerStart _ rfl, settleN_succ _ _ .pulseStart _ rfl, settleN_succ _ _ .selectorStart _ rfl]
  rfl

/-- The offers after the first three of START. -/
theorem State.offers_begun {s : State} (ho : s.offers = []) :
    s.begun.offers = [.sequencerStart, .governorStart, .waterStart,
      .post .modeChanged Cause.start.number Mode.transport.number] ++ s.selector.start.out := by
  show (s.offers ++ _).drop 3 ++ _ = _
  rw [ho]
  rfl

/-- After the first three offers of START the waiting offers make of the copies what their owners hold; the chain driver,
which takes its mode last, is left out. -/
theorem State.coherent_begun {s : State} (h : s.AllCoherent) (ho : s.offers = []) :
    s.begun.Coherent ∧ s.begun.ChainFollows s.begun.mc.mode := by
  obtain ⟨hheld, -, -, -, -⟩ := (State.AllCoherent.of_nil ho).1 h
  have hout := State.offers_begun ho
  have hstale := Scanner.stale_start s.scanner s.mc.time
  refine ⟨⟨?_, ?_, ?_, ?_, ?_⟩, ?_⟩
  · rw [hout]
    have hb : s.begun.held = s.told := hheld
    have ht : s.begun.told = (s.told.takeAll [.sequencerStart, .governorStart, .waterStart,
        .post .modeChanged Cause.start.number Mode.transport.number]).takeAll s.selector.start.out := by
      have hscan : ∀ x, (s.scanner.start s.mc.time).tells x = s.scanner.tells x := fun x => by
        simp only [Scanner.tells, hstale]
      show s.mc.enterStart.val.tells ((s.scanner.start s.mc.time).tells _) = _
      rw [hscan]
      rfl
    rw [hb, ht, Held.takeAll_append]
  · rw [hout]; rfl
  · rw [hout]; rfl
  · rw [hout]; rfl
  · rw [hout]
    simp [Selector.start, Profile.jobOffers]
  · unfold State.ChainFollows
    rw [hout]
    rfl

/-- The valve chain driver takes the machine mode as its own event, at the end of START. -/
theorem State.Coherent.chainTakes {s : State} (h : s.Coherent) (hc : s.ChainFollows s.mc.mode) :
    (s.setChain (s.chain.takeMode s.mc.mode)).AllCoherent := by
  obtain ⟨hm, hf, -⟩ := Chain.recompose_kept
    { s.chain with mode := s.mc.mode, requested := if (s.mc.mode == .service) != (s.chain.mode == .service) then 0
      else s.chain.requested }
  obtain ⟨hheld, hbudget, hsel, hwater, hstart⟩ := h
  refine ⟨⟨?_, hbudget, hsel, hwater, hstart⟩, ?_⟩
  · exact hheld.trans (State.tells_setChain hf).told
  · exact (congrArg (s.offers.foldl Mode.afterChain) hm).trans hc

theorem State.AllCoherent.started {s : State} (h : s.AllCoherent) (ho : s.offers = []) : s.started.AllCoherent := by
  obtain ⟨hb, hc⟩ := State.coherent_begun h ho
  obtain ⟨ht, htc⟩ := hb.settle_own hc 997
  unfold State.started
  dsimp only
  rw [State.settle_enterStart ho]
  exact (ht.chainTakes htc).settle

/-! ### Every command -/

theorem State.copiesAgree_iff_allCoherent {s : State} (ho : s.offers = []) : s.copiesAgree ↔ s.AllCoherent := by
  rw [State.copiesAgree_iff, State.AllCoherent.of_nil ho]
  exact and_iff_right ho

theorem exec_copiesAgree {c : Instr} {s t : State} (h : exec c s = .next t) (hs : s.copiesAgree) (ht : t.offers = []) :
    t.copiesAgree := by
  have ho : s.offers = [] := (s.copiesAgree_iff.1 hs).1
  have hs := (State.copiesAgree_iff_allCoherent ho).1 hs
  by_cases hp : c.isPowerOn = true
  · cases c <;> try cases hp
    cases h
    exact State.powerOn_copiesAgree _ _ _ _
  · refine (State.copiesAgree_iff_allCoherent ht).2 ?_
    by_cases hw : c = .speedWindowEnd
    · subst hw
      cases h
      exact (hs.windowEnd ho).settle
    · cases exec_course (by simpa using hp) hw h with
      | stages k => exact k.keeps (fun _ _ hst => hst.allCoherent) hs
      | @started v k hk x =>
        have hv : v.AllCoherent := k.keeps (fun _ _ hst => hst.allCoherent) hs
        exact (hv.started (by rw [hk ho]; exact ho)).setPorts x

end Sys2Proof.Machine

open Sys2Proof Sys2Proof.Machine

/-- Settles O59: the offers waiting make of the copies what their owners hold, which every stage keeps; with no offer
waiting this is agreement. -/
theorem copiesAgreeBetweenCommands : Obligations.CopiesAgreeBetweenCommands := by
  intro s t hs _ h ht
  unfold StepsTo step at h
  split at h
  · cases h; exact hs
  · exact exec_copiesAgree h hs ht
end

section
/-! HALT_TRIP and stow completion, LOCK and UNLOCK (02 R35, R44, R45; 04 R73). -/

namespace Sys2Proof.Machine

/-! ### HALT_TRIP and stow completion -/

theorem ModeController.takeHalt_of_active {c : ModeController} (h : c.mode ≠ .halted) :
    c.takeHalt true = { c with haltTrip := true }.enterMode .halted .haltTrip := by
  simp [ModeController.takeHalt, h]

theorem ModeController.takeHalt_of_inactive {c : ModeController} {b : Bool} (h : b = false ∨ c.mode = .halted) :
    c.takeHalt b = .pure { c with haltTrip := b } := by
  obtain rfl | h := h <;> simp [ModeController.takeHalt, *]

theorem ArmState.stowDone_iff (x : ArmState) : x.stowDone = true ↔ x = .stowed ∨ x = .fault := by
  cases x <;> decide

theorem BroomState.stowDone_iff (x : BroomState) : x.stowDone = true ↔ x = .up ∨ x = .fault := by
  cases x <;> decide

/-- The stow-completion test holds (02 R35). -/
def ModeController.stowHolds (c : ModeController) : Prop :=
  c.mode = .stowing ∧ (c.armL = .stowed ∨ c.armL = .fault) ∧ (c.armR = .stowed ∨ c.armR = .fault) ∧
    (c.main = .up ∨ c.main = .fault)

theorem ModeController.stowTest_of_holds {c : ModeController} (h : c.stowHolds) :
    c.stowTest = c.enterMode .transport .stowDone := by
  obtain ⟨hmode, hl, hr, hm⟩ := h
  have hl := (ArmState.stowDone_iff _).2 hl
  have hr := (ArmState.stowDone_iff _).2 hr
  have hm := (BroomState.stowDone_iff _).2 hm
  simp [ModeController.stowTest, hmode, hl, hr, hm]

theorem ModeController.stowTest_of_not_holds {c : ModeController} (h : ¬ c.stowHolds) : c.stowTest = .pure c := by
  unfold ModeController.stowTest
  rw [if_neg]
  simp only [Bool.and_eq_true, beq_iff_eq, ArmState.stowDone_iff, BroomState.stowDone_iff, and_assoc]
  exact h

/-- The offer of a mode entry that announces it. -/
theorem ModeController.post_mem_enterMode (c : ModeController) (m : Mode) (k : Cause) :
    .post .modeChanged k.number m.number ∈ (c.enterMode m k).out := by
  simp [ModeController.enterMode]

theorem State.mem_emit {s : State} {o : Offer} {out : List Offer} (h : o ∈ out) : o ∈ (s.emit out).offers :=
  List.mem_append_right _ h

/-- The implement sequencer's states where they complete no stow. -/
theorem deliver_modeImplements {s : State} {l r : ArmState} {m : BroomState}
    (h : ¬ { s.mc with armL := l, armR := r, main := m }.stowHolds) :
    deliver (.modeImplements l r m) s = s.setMc { s.mc with armL := l, armR := r, main := m } := by
  have he : deliver (.modeImplements l r m) s = s.withMc { s.mc with armL := l, armR := r, main := m }.stowTest := rfl
  rw [he, ModeController.stowTest_of_not_holds h, State.withMc_pure]

end Sys2Proof.Machine

open Sys2Proof Sys2Proof.Machine

/-- Settles O18: HALT by its two cases; the stow-completion test by whether it holds of the states offered. -/
theorem haltTripAndStowCompletion : Obligations.HaltTripAndStowCompletion := by
  intro s active l r m
  refine ⟨(s.mc.takeHalt_copies active).1, ?_, fun h => ?_, fun hmode hl hr hm => ?_, fun h => ?_⟩
  · rintro rfl hmode
    have he : deliver (.haltOutput true) s = s.withMc (s.mc.takeHalt true) := rfl
    rw [he, ModeController.takeHalt_of_active hmode]
    exact ⟨rfl, State.mem_emit (ModeController.post_mem_enterMode _ .halted .haltTrip)⟩
  · have he : deliver (.haltOutput active) s = s.withMc (s.mc.takeHalt active) := rfl
    rw [he, ModeController.takeHalt_of_inactive h, State.withMc_pure]
  · have he : deliver (.modeImplements l r m) s =
        s.withMc { s.mc with armL := l, armR := r, main := m }.stowTest := rfl
    have holds : { s.mc with armL := l, armR := r, main := m }.stowHolds := ⟨hmode, hl, hr, hm⟩
    rw [he, ModeController.stowTest_of_holds holds]
    exact ⟨rfl, State.mem_emit (ModeController.post_mem_enterMode _ .transport .stowDone)⟩
  · refine deliver_modeImplements ?_
    rintro ⟨hmode, hl, hr, hm⟩
    simp only at hmode hl hr hm
    tauto

namespace Sys2Proof.Machine

/-! ### UNLOCK and LOCK -/

/-- A request that comes in on a port that may not make it. -/
theorem exec_of_not_permitted (k : RequestKind) {c : Instr} {p : Port} {tag : Byte} (hc : c.request = some (p, k, tag))
    {s : State} (hcut : (s.port p).state ≠ .cutOff) (hslot : (s.port p).slot = none)
    (hclass : (s.port p).authority ∉ k.classes) :
    exec c s = .next (s.respond p (byte k.number) tag ⟨.notPermitted, []⟩) := by
  rw [exec_of_request hc, State.serve_of_free hcut hslot, State.answer_of_not_allowed hclass]

/-- The owning block's part of a request that is heard, once it is known. -/
theorem exec_of_body (k : RequestKind) {c : Instr} {p : Port} {tag : Byte} (hc : c.request = some (p, k, tag))
    {s t : State} {r : Reply} (h : s.hears p k) (hb : c.body s = (t, r)) :
    exec c s = .next (t.respond p (byte k.number) tag r) := by
  rw [exec_of_hears hc h, hb]

theorem unlockBody_of_hard {s : State} (h : s.mc.hardLock = true) : unlockBody s = (s, ⟨.locked, []⟩) := by
  simp [unlockBody, ModeController.unlock, h, Reply.no]

theorem unlockBody_of_mode {s : State} (h : s.mc.hardLock = false) (hm : s.mc.mode ≠ .service) :
    unlockBody s = (s, ⟨.wrongMode, []⟩) := by
  simp [unlockBody, ModeController.unlock, h, hm, Reply.no]

theorem unlockBody_of_service {s : State} (h : s.mc.hardLock = false) (hm : s.mc.mode = .service) :
    unlockBody s = (s.setMc { s.mc with softLock := false }, ⟨.ok, [0]⟩) := by
  simp [unlockBody, ModeController.unlock, h, hm, Reply.okWith]

end Sys2Proof.Machine

/-- Settles O14: UNLOCK by its three cases. -/
theorem unlockClearsTheSoftLock : Obligations.UnlockClearsTheSoftLock := by
  refine ⟨fun p tag s hcut hslot hclass => ?_, fun p tag s h => ⟨fun hh => ?_, fun hh hm => ?_, fun hh hm => ?_⟩⟩
  · exact exec_of_not_permitted .unlock rfl hcut hslot (by simpa [RequestKind.classes] using hclass)
  · exact exec_of_body .unlock rfl h (unlockBody_of_hard hh)
  · exact exec_of_body .unlock rfl h (unlockBody_of_mode hh hm)
  · exact exec_of_body .unlock rfl h (unlockBody_of_service hh hm)

namespace Sys2Proof.Machine

/-! ### What keeps the locks -/

/-- From `s` to `t` the hard lock stays set, and the soft lock unless `u`. -/
def LocksKept (u : Prop) (s t : State) : Prop :=
  (s.mc.hardLock = true → t.mc.hardLock = true) ∧ (¬ u → s.mc.softLock = true → t.mc.softLock = true)

theorem LocksKept.trans {u : Prop} {s t v : State} (h : LocksKept u s t) (k : LocksKept u t v) : LocksKept u s v :=
  ⟨k.1 ∘ h.1, fun hu => k.2 hu ∘ h.2 hu⟩

theorem LocksKept.of_eq {u : Prop} {s t : State} (h : (t.mc.softLock, t.mc.hardLock) = (s.mc.softLock, s.mc.hardLock)) :
    LocksKept u s t := by
  obtain ⟨hs, hh⟩ := Prod.mk.inj h
  exact ⟨fun e => hh.trans e, fun _ e => hs.trans e⟩

theorem Kept.locksKept {u : Prop} {s t : State} (h : Kept s t) : LocksKept u s t :=
  .of_eq (congrArg Standing.locks h.2)

/-- The taking of offers after an event that keeps the locks. -/
theorem LocksKept.thenSettle {u : Prop} {s t : State} (h : LocksKept u s t) : LocksKept u s t.settle :=
  h.trans t.settle_kept.locksKept

theorem State.convert_locks {u : Prop} (s : State) (ch : Fin 16) (raw : Nat) : LocksKept u s (s.convert ch raw) :=
  LocksKept.thenSettle (s := s)
    (t := (s.setScanner (s.scanner.store ch raw)).withMonitor (s.monitor.evaluate s.mc.time ch raw)) (.of_eq rfl)

theorem State.endPass_locks {u : Prop} (s : State) : LocksKept u s s.endPass := by
  unfold State.endPass
  split
  · exact LocksKept.thenSettle (t := s.withScanner _) (.of_eq rfl)
  · exact .of_eq rfl

theorem Stage.locksKept {u : Prop} {s t : State} (h : Stage u s t) : LocksKept u s t := by
  cases h with
  | settle => exact s.settle_kept.locksKept
  | mc k => exact ⟨k.hardLock, k.softLock⟩
  | converted _ raw =>
    exact (s.convert_locks _ raw).trans (State.endPass_locks _)
  | ports | notices | restarts | scanner | monitor | pulse | selector | budget | governor | sequencer | water
      | chain => exact .of_eq rfl

theorem Stages.locksKept {u : Prop} {s t : State} (h : Stages u s t) : LocksKept u s t := by
  induction h with
  | refl => exact .of_eq rfl
  | tail _ h ih => exact ih.trans h.locksKept

theorem State.started_locks {u : Prop} (s : State) : LocksKept u s s.started :=
  (LocksKept.thenSettle (t := s.withMc s.mc.enterStart) (.of_eq rfl)).trans
    (LocksKept.thenSettle (t := State.setChain _ _) (.of_eq rfl))

/-- No command but POWER_ON clears the hard lock, and none but UNLOCK and its frame the soft lock. -/
theorem exec_locksKept {c : Instr} (hp : c.isPowerOn = false) {s t : State} (h : exec c s = .next t) :
    LocksKept (MayUnlock c s) s t := by
  by_cases hw : c = .speedWindowEnd
  · subst hw
    cases h
    exact LocksKept.thenSettle (t := s.withPulse _) (.of_eq rfl)
  · cases exec_course hp hw h with
    | stages k => exact k.locksKept
    | @started v k _ x => exact k.locksKept.trans (v.started_locks.trans (.of_eq rfl))

/-! ### LOCK -/

theorem lockSoftBody_eq (s : State) :
    lockKindBody false s =
      (s.setMc { s.mc with softLock := true }, ⟨.ok, [if s.mc.hardLock then 3 else 1]⟩) := by
  cases h : s.mc.hardLock <;> simp [lockKindBody, ModeController.lock, ModeController.lockByte, h, Reply.okWith, byte]

theorem lockHardBody_eq (s : State) :
    lockKindBody true s =
      (s.setMc { s.mc with hardLock := true }, ⟨.ok, [if s.mc.softLock then 3 else 2]⟩) := by
  cases h : s.mc.softLock <;> simp [lockKindBody, ModeController.lock, ModeController.lockByte, h, Reply.okWith, byte]

/-- The unit of a HEALTHY port once a good frame has been evaluated. -/
def PortUnit.afterFrame (u : PortUnit) : PortUnit :=
  { u with receiver := ⟨.ready, [], 0, false⟩, errorCount := u.errorCount - 1 }

/-- The frame of a request on a HEALTHY port: nothing but the error count and the receiver changes before it is
answered. -/
theorem exec_frameEnd_of_healthy {s : State} {p : Port} {k : RequestKind} {tag : Byte} {payload : List Byte}
    (hlen : payload.length ≤ 32)
    (hrec : (s.port p).receiver = ⟨.receiving, frame (byte k.number) tag payload, payload.length + 5, false⟩)
    (hslot : (s.port p).slot = none) (hstate : (s.port p).state = .healthy) :
    exec (.frameEnd p) s =
      .next ((s.setPort p (s.port p).afterFrame).answer p k tag (k.checkedBody p payload)) := by
  have hcut : (s.port p).state ≠ .cutOff := by simp [hstate]
  have hu : (s.port p).frameOver.goodFrame = (s.port p).afterFrame := by
    rw [PortUnit.goodFrame_of_not_cutOff (by exact hcut)]
    simp [PortUnit.frameOver, PortUnit.afterFrame, hstate]
    rfl
  refine exec_frameEnd_of ?_
  rw [State.frameEnd_of_good (by rw [hrec]) hslot (by rw [hrec]; exact Receiver.good_frame _ _ hlen) hcut, hrec,
    State.handOver_frame _ _ _ _ hlen, hu, State.linkChanged_of_same (by rfl)]

/-- A frame of a request that its owning block refuses without doing anything. -/
theorem exec_frameEnd_of_refused {s : State} {p : Port} {k : RequestKind} {tag : Byte} {payload : List Byte}
    {r : Reply} (hlen : payload.length ≤ 32)
    (hrec : (s.port p).receiver = ⟨.receiving, frame (byte k.number) tag payload, payload.length + 5, false⟩)
    (h : s.hears p k) (hstate : (s.port p).state = .healthy) (hb : ∀ t, k.checkedBody p payload t = (t, r)) :
    exec (.frameEnd p) s =
      .next ((s.setPort p (s.port p).afterFrame).respond p (byte k.number) tag r) := by
  rw [exec_frameEnd_of_healthy hlen hrec h.2.1 hstate, State.answer_of_allowed, hb]
  rw [State.setPort_port_same]
  exact h.2.2

theorem lockBody_of_ge {n : Nat} (h : 2 ≤ n) (s : State) : lockBody n s = (s, ⟨.badValue, []⟩) := by
  obtain ⟨n, rfl⟩ := Nat.exists_eq_add_of_le' h
  rfl

end Sys2Proof.Machine

/-- Settles O13: LOCK by its kinds; what keeps the locks by the stages of the commands. -/
theorem lockSetsItsLock : Obligations.LockSetsItsLock := by
  refine ⟨fun p tag s h => ⟨exec_of_body .lock rfl h (lockSoftBody_eq s), exec_of_body .lock rfl h (lockHardBody_eq s),
    fun kind hk hstate hrec => ?_⟩, fun p tag s hcut hslot hclass c hc => ?_, fun c s t h hp => ?_⟩
  · exact exec_frameEnd_of_refused (k := .lock) (payload := [kind]) (by simp) hrec h hstate (lockBody_of_ge hk)
  · have hclass : (s.port p).authority ∉ RequestKind.lock.classes := by simpa [RequestKind.classes] using hclass
    simp only [List.mem_cons, List.not_mem_nil, or_false] at hc
    obtain rfl | rfl := hc
    · exact exec_of_not_permitted .lock rfl hcut hslot hclass
    · exact exec_of_not_permitted .lock rfl hcut hslot hclass
  · obtain ⟨hhard, hsoft⟩ := exec_locksKept hp h
    refine ⟨hhard, fun hs hu hf => hsoft ?_ hs⟩
    rintro (⟨p, tag, rfl⟩ | ⟨p, rfl, hb⟩)
    · exact hu p tag rfl
    · exact hf p rfl hb
end

section
/-! Where the offers of a command lead: a property that the offers of a class keep, and one that a certain offer brings
about (log 5). -/

namespace Sys2Proof.Machine

/-! ### Receivers -/

/-- The block that an offer is made to; none for the notices, which the port units take. -/
def Offer.receiver : Offer → Option Maker
  | .post .. | .postTo .. => none
  | .scannerHalted | .scannerStart | .scannerRestart => some .scanner
  | .monitorRestart => some .monitor
  | .pulseStart | .pulseRestart => some .pulse
  | .selectorStart | .selectorRestart | .selectorPath .. => some .selector
  | .budgetMode _ | .budgetStart _ | .budgetRestart | .budgetDerate _ | .budgetRanks _ | .demand .. => some .budget
  | .governorMode _ | .governorStart | .holderChanged .travel | .governorLimits _ | .governorStale _ | .governorGrade _
  | .governorStop _ | .governorMotor .. | .governorGround .. | .governorCap _ | .governorCoefficients ..
  | .governorGrant _ | .governorImplements _ => some .governor
  | .sequencerMode _ | .sequencerStart | .sequencerRestart | .holderChanged .implements | .sequencerLimits _
  | .sequencerStale _ | .sequencerMeasures .. | .sequencerLift _ | .sequencerProfile _ | .sequencerCoefficients ..
  | .sequencerGrants .. | .liftForReverse _ | .sequencerLiftFailed .. => some .sequencer
  | .waterMode _ | .waterStart | .waterRestart | .holderChanged .water | .waterTank _ | .waterCut _ | .waterPath ..
  | .waterGround .. | .waterProfile .. | .waterCoefficient _ | .waterGrant _ | .waterImplements .. | .waterFailed .. =>
    some .water
  | .chainMode _ | .chainRestart | .chainLifts .. | .chainWater .. => some .chain
  | .haltOutput _ | .modeImplements .. => some .modeController

/-! ### What an offer does not reach

An event of the window monitor is spelt out, since its outputs are long to evaluate. -/

section
variable (s : State) (e : Emit Monitor)

theorem State.withMonitor_mc : (s.withMonitor e).mc = s.mc := rfl
theorem State.withMonitor_scanner : (s.withMonitor e).scanner = s.scanner := rfl
theorem State.withMonitor_pulse : (s.withMonitor e).pulse = s.pulse := rfl
theorem State.withMonitor_selector : (s.withMonitor e).selector = s.selector := rfl
theorem State.withMonitor_budget : (s.withMonitor e).budget = s.budget := rfl
theorem State.withMonitor_governor : (s.withMonitor e).governor = s.governor := rfl
theorem State.withMonitor_sequencer : (s.withMonitor e).sequencer = s.sequencer := rfl
theorem State.withMonitor_water : (s.withMonitor e).water = s.water := rfl
theorem State.withMonitor_chain : (s.withMonitor e).chain = s.chain := rfl

end

section
variable {o : Offer} {s : State}

theorem deliver_mc (h : o.receiver ≠ some .modeController) : (deliver o s).mc = s.mc := by
  cases o
  case monitorRestart => exact s.withMonitor_mc _
  case holderChanged d => cases d <;> first | exact absurd rfl h | rfl
  all_goals first | exact absurd rfl h | rfl

theorem deliver_scanner (h : o.receiver ≠ some .scanner) : (deliver o s).scanner = s.scanner := by
  cases o
  case monitorRestart => exact s.withMonitor_scanner _
  case holderChanged d => cases d <;> first | exact absurd rfl h | rfl
  all_goals first | exact absurd rfl h | rfl

theorem deliver_monitor (h : o.receiver ≠ some .monitor) : (deliver o s).monitor = s.monitor := by
  cases o
  case holderChanged d => cases d <;> first | exact absurd rfl h | rfl
  all_goals first | exact absurd rfl h | rfl

theorem deliver_pulse (h : o.receiver ≠ some .pulse) : (deliver o s).pulse = s.pulse := by
  cases o
  case monitorRestart => exact s.withMonitor_pulse _
  case holderChanged d => cases d <;> first | exact absurd rfl h | rfl
  all_goals first | exact absurd rfl h | rfl

theorem deliver_selector (h : o.receiver ≠ some .selector) : (deliver o s).selector = s.selector := by
  cases o
  case monitorRestart => exact s.withMonitor_selector _
  case holderChanged d => cases d <;> first | exact absurd rfl h | rfl
  all_goals first | exact absurd rfl h | rfl

theorem deliver_budget (h : o.receiver ≠ some .budget) : (deliver o s).budget = s.budget := by
  cases o
  case monitorRestart => exact s.withMonitor_budget _
  case holderChanged d => cases d <;> first | exact absurd rfl h | rfl
  all_goals first | exact absurd rfl h | rfl

theorem deliver_governor (h : o.receiver ≠ some .governor) : (deliver o s).governor = s.governor := by
  cases o
  case monitorRestart => exact s.withMonitor_governor _
  case holderChanged d => cases d <;> first | exact absurd rfl h | rfl
  all_goals first | exact absurd rfl h | rfl

theorem deliver_sequencer (h : o.receiver ≠ some .sequencer) : (deliver o s).sequencer = s.sequencer := by
  cases o
  case monitorRestart => exact s.withMonitor_sequencer _
  case holderChanged d => cases d <;> first | exact absurd rfl h | rfl
  all_goals first | exact absurd rfl h | rfl

theorem deliver_water (h : o.receiver ≠ some .water) : (deliver o s).water = s.water := by
  cases o
  case monitorRestart => exact s.withMonitor_water _
  case holderChanged d => cases d <;> first | exact absurd rfl h | rfl
  all_goals first | exact absurd rfl h | rfl

theorem deliver_chain (h : o.receiver ≠ some .chain) : (deliver o s).chain = s.chain := by
  cases o
  case monitorRestart => exact s.withMonitor_chain _
  case holderChanged d => cases d <;> first | exact absurd rfl h | rfl
  all_goals first | exact absurd rfl h | rfl

end

/-! ### Classes of offers -/

/-- An offer taken adds its receiver's offers at the end. -/
theorem deliver_appends (o : Offer) (s : State) : ∃ out, (deliver o s).offers = s.offers ++ out := by
  by_cases h : o = .selectorStart
  · subst h
    exact ⟨_, rfl⟩
  · obtain ⟨out, ht⟩ := deliver_tells h s
    exact ⟨out, ht.offers⟩

/-- Offers of the class `D` keep the property `I` and are answered with offers of the class `C`, which is part of `D`. -/
structure Closed (D C : Offer → Prop) (I : State → Prop) : Prop where
  sub : ∀ o, C o → D o
  setOffers : ∀ s os, I s → I (s.setOffers os)
  keeps : ∀ o s, D o → I s → I (deliver o s)
  made : ∀ o s, D o → I s → ∃ out, (deliver o s).offers = s.offers ++ out ∧ ∀ x ∈ out, C x

/-- A property that every offer keeps. -/
theorem Closed.all {I : State → Prop} (hs : ∀ s os, I s → I (s.setOffers os)) (hd : ∀ o s, I s → I (deliver o s)) :
    Closed (fun _ => True) (fun _ => True) I :=
  ⟨fun _ => id, hs, fun o s _ => hd o s, fun o s _ _ => by
    obtain ⟨out, h⟩ := deliver_appends o s
    exact ⟨out, h, fun _ _ => trivial⟩⟩

section
variable {D C : Offer → Prop} {I P : State → Prop}

/-- The first waiting offer is taken. -/
theorem Closed.next (hc : Closed D C I) {s : State} {o : Offer} {os : List Offer} (ho : D o) (h : I s) :
    I (deliver o (s.setOffers os)) ∧
      ∃ out, (deliver o (s.setOffers os)).offers = os ++ out ∧ ∀ x ∈ out, C x :=
  ⟨hc.keeps _ _ ho (hc.setOffers _ _ h), hc.made _ _ ho (hc.setOffers _ _ h)⟩

theorem Closed.settleN (hc : Closed D C I) (n : Nat) (s : State) (h : I s) (hw : ∀ x ∈ s.offers, D x) :
    I (settleN n s) ∧ ∀ x ∈ (Machine.settleN n s).offers, D x := by
  induction n generalizing s with
  | zero => exact ⟨h, hw⟩
  | succ n ih =>
    cases e : s.offers with
    | nil => rw [settleN_of_offers_nil _ _ e]; exact ⟨h, hw⟩
    | cons o os =>
      rw [settleN_succ n s o os e]
      rw [e] at hw
      obtain ⟨hi, out, hout, hmade⟩ := hc.next (os := os) (hw o List.mem_cons_self) h
      refine ih _ hi fun x hx => ?_
      rw [hout] at hx
      exact (List.mem_append.1 hx).elim (fun hm => hw x (List.mem_cons_of_mem _ hm)) fun hm => hc.sub x (hmade x hm)

theorem Closed.settle (hc : Closed D C I) {s : State} (h : I s) (hw : ∀ x ∈ s.offers, D x) :
    I s.settle ∧ ∀ x ∈ s.settle.offers, D x :=
  hc.settleN _ s h hw

/-- An offer on its way is taken, unless there are too many before it: what it brings about, and the offers behind it
keep, holds at the end. -/
theorem Closed.arrives (hc : Closed D C I) (hs : ∀ s os, P s → P (s.setOffers os))
    (hd : ∀ x s, C x → I s → P s → P (deliver x s)) {o : Offer} (ho : D o)
    (hb : ∀ s, I s → P (deliver o s)) (n : Nat) (pre post : List Offer) (s : State)
    (he : s.offers = pre ++ o :: post) (h : I s) (hpre : ∀ x ∈ pre, D x) (hpost : ∀ x ∈ post, C x) :
    P (Machine.settleN n s) ∨ o ∈ (Machine.settleN n s).offers ∧ n ≤ pre.length := by
  induction n generalizing s pre post with
  | zero => exact .inr ⟨by rw [Machine.settleN, he]; simp, Nat.zero_le _⟩
  | succ n ih =>
    cases pre with
    | nil =>
      rw [settleN_succ n s o post he]
      obtain ⟨hi, out, hout, hmade⟩ := hc.next (os := post) ho h
      have hkeep : Closed C C fun s => I s ∧ P s :=
        ⟨fun _ => id, fun s os h => ⟨hc.setOffers s os h.1, hs s os h.2⟩,
          fun x s hx h => ⟨hc.keeps x s (hc.sub x hx) h.1, hd x s hx h.1 h.2⟩,
          fun x s hx h => hc.made x s (hc.sub x hx) h.1⟩
      refine .inl (hkeep.settleN n _ ⟨hi, hb _ (hc.setOffers _ _ h)⟩ fun x hx => ?_).1.2
      rw [hout] at hx
      exact (List.mem_append.1 hx).elim (hpost x) (hmade x)
    | cons y pre =>
      rw [settleN_succ n s y (pre ++ o :: post) he]
      obtain ⟨hi, out, hout, hmade⟩ := hc.next (os := pre ++ o :: post) (hpre y List.mem_cons_self) h
      have hrest := ih pre (post ++ out) _ (by rw [hout]; simp) hi (fun x hx => hpre x (List.mem_cons_of_mem _ hx))
        fun x hx => (List.mem_append.1 hx).elim (hpost x) (hmade x)
      exact hrest.imp_right fun hm => ⟨hm.1, Nat.succ_le_succ hm.2⟩

end

/-- The offer is taken, with fewer before it than are taken at all. -/
theorem State.settle_arrives {P : State → Prop} (hs : ∀ s os, P s → P (s.setOffers os))
    (hd : ∀ x s, P s → P (deliver x s)) {o : Offer} (hb : ∀ s, P (deliver o s)) {s : State} {pre post : List Offer}
    (he : s.offers = pre ++ o :: post) (hn : pre.length < Config.offerBound) : P s.settle := by
  refine ((Closed.all (I := fun _ => True) (fun _ _ => id) fun _ _ => id).arrives hs (fun x s _ _ => hd x s) trivial
    (fun s _ => hb s) _ pre post s he trivial (fun _ _ => trivial) fun _ _ => trivial).resolve_right fun h => ?_
  have := h.2
  omega

/-! ### A change of holder (02 R42) -/

/-- No request, no lease. -/
def Governor.noRequest (g : Governor) : Prop := g.request = 0 ∧ g.leaseExpiry = none

theorem Governor.Runs.noRequest {g : Governor} {e : Emit Governor} (h : g.Runs e) (hg : g.noRequest) :
    e.val.noRequest :=
  ⟨(congrArg (·.2.2.1) h.still).trans hg.1, (congrArg (·.2.2.2.1) h.still).trans hg.2⟩

theorem deliver_noRequest (o : Offer) (s : State) (h : s.governor.noRequest) : (deliver o s).governor.noRequest := by
  by_cases hr : o.receiver = some .governor
  case neg => rwa [deliver_governor hr]
  have go : ∀ {g : Governor} {e : Emit Governor}, g.Runs e → (g.request, g.leaseExpiry) = (s.governor.request,
      s.governor.leaseExpiry) → (s.withGovernor e).governor.noRequest := fun hr he => by
    obtain ⟨h1, h2⟩ := Prod.mk.inj he
    exact hr.noRequest ⟨h1.trans h.1, h2.trans h.2⟩
  cases o
  case governorMode m =>
    cases hm : m.working with
    | true => exact go (s.governor.runs_takeMode_of_working _ hm) rfl
    | false =>
      have hs := (s.governor.runs_halt s.mc.time m).1
      rw [← s.governor.takeMode_of_not_working _ hm] at hs
      exact ⟨congrArg (·.2.2.1) hs, congrArg (·.2.2.2.1) hs⟩
  case governorStart => exact go (s.governor.runs_start _) rfl
  case governorLimits | governorStale | governorGrade | governorStop | governorCap | governorCoefficients
      | governorGrant =>
    exact go (s.governor.runs_takeCopies _ _) rfl
  case governorMotor => exact go (s.governor.runs_takeMotor _ _ _ _ _ _) rfl
  case governorGround => exact go (s.governor.runs_takeGround _ _ _ _) rfl
  case governorImplements => exact go (s.governor.runs_takeImplements _ _) rfl
  case holderChanged d =>
    cases d
    case travel => exact (s.governor.runs_holderChanged _).noRequest ⟨rfl, rfl⟩
    all_goals cases hr
  all_goals cases hr

/-- Every command is AUTO. -/
def Sequencer.allAuto (q : Sequencer) : Prop :=
  q.left.command = .auto ∧ q.right.command = .auto ∧ q.main.command = .auto

theorem Sequencer.Runs.allAuto {old q : Sequencer} {e : Emit Sequencer} (h : old.Runs q e) (hq : q.allAuto) :
    e.val.allAuto :=
  ⟨(congrArg (·.2.1.1) h.still).trans hq.1, (congrArg (·.2.1.2.1) h.still).trans hq.2.1,
    (congrArg (·.2.1.2.2) h.still).trans hq.2.2⟩

theorem deliver_allAuto (o : Offer) (s : State) (h : s.sequencer.allAuto) : (deliver o s).sequencer.allAuto := by
  by_cases hr : o.receiver = some .sequencer
  case neg => rwa [deliver_sequencer hr]
  have se : ∀ {q : Sequencer} {e : Emit Sequencer}, s.sequencer.Runs q e → q.allAuto →
      (s.withSequencer e).sequencer.allAuto := fun hr hq => hr.allAuto hq
  cases o
  case sequencerMode => exact se (s.sequencer.runs_takeMode _ _) h
  case sequencerStart => exact se (s.sequencer.runs_start _) h
  case sequencerRestart => exact se s.sequencer.runs_restart ⟨rfl, rfl, rfl⟩
  case sequencerStale => exact h
  case sequencerMeasures => exact se (s.sequencer.runs_takeMeasures _ _ _ _ _) h
  case sequencerProfile => exact se (s.sequencer.runs_takeProfile _ _) h
  case sequencerLiftFailed => exact se (s.sequencer.runs_takeFailed _ _ _ _) h
  case sequencerLimits | sequencerLift | sequencerCoefficients | sequencerGrants | liftForReverse =>
    exact se (Sequencer.runs_event (Sequencer.fewOutcomes_of (by rfl) (by rfl))) h
  case holderChanged d =>
    cases d
    case implements => exact se (s.sequencer.runs_holderChanged _) ⟨rfl, rfl, rfl⟩
    all_goals cases hr
  all_goals cases hr

/-- Enable on, exclusion set empty. -/
def Water.isDefault (w : Water) : Prop := w.enable = true ∧ w.exclusion = 0

theorem Water.Runs.isDefault {w : Water} {e : Emit Water} (h : w.Runs e) (hw : w.isDefault) : e.val.isDefault :=
  ⟨(congrArg (·.2.2.1) h.still).trans hw.1, (congrArg (·.2.2.2.1) h.still).trans hw.2⟩

theorem deliver_isDefault (o : Offer) (s : State) (h : s.water.isDefault) : (deliver o s).water.isDefault := by
  by_cases hr : o.receiver = some .water
  case neg => rwa [deliver_water hr]
  have wa : ∀ {w : Water} {e : Emit Water}, w.Runs e → w.isDefault → (s.withWater e).water.isDefault :=
    fun hr hw => hr.isDefault hw
  cases o
  case waterMode | waterStart | waterPath | waterFailed => exact wa (s.water.runs_reevaluate _ _) h
  case waterRestart => exact wa (s.water.runs_reevaluate _ _) ⟨rfl, rfl⟩
  case waterTank l => exact wa (s.water.runs_takeTank _ l) h
  case waterGround x n => exact wa (s.water.runs_takeGround _ x n) h
  case waterCut | waterProfile | waterCoefficient | waterGrant | waterImplements =>
    exact wa (s.water.runs_takeCopies _ _) h
  case holderChanged d =>
    cases d
    case water => exact wa (s.water.runs_reevaluate _ _) ⟨rfl, rfl⟩
    all_goals cases hr
  all_goals cases hr

/-! ### CLAIM and RELEASE -/

theorem Domain.ofNumber_number (d : Domain) : Domain.ofNumber d.number = some d := by
  cases d <;> rfl

theorem Domain.ofNumber_of_ge {n : Nat} (h : 3 ≤ n) : Domain.ofNumber n = none := by
  obtain ⟨n, rfl⟩ := Nat.exists_eq_add_of_le' h
  rfl

section
variable {s : State} {p : Port} {n : Nat} {d : Domain}

/-- An event that changes nothing, and after which no offer waits. -/
theorem State.took_withMc_pure (ho : s.offers = []) (r : Reply) : (s.withMc (.pure s.mc)).took r = (s, r) := by
  rw [State.withMc_pure]
  have hs : (s.setMc s.mc).settle = s := State.settle_of_offers_nil s ho
  exact congrArg (·, r) hs

theorem claimBody_of_badDomain (ho : s.offers = []) (h : 3 ≤ n) : claimBody p n s = (s, ⟨.badValue, []⟩) := by
  simp [claimBody, ModeController.claim, Domain.ofNumber_of_ge h, State.took_withMc_pure ho, Reply.no]

theorem claimBody_of_class (ho : s.offers = []) (h : s.classOf p ≠ .operator) :
    claimBody p 0 s = (s, ⟨.notPermitted, []⟩) := by
  simp [claimBody, ModeController.claim, Domain.ofNumber, h, State.took_withMc_pure ho, Reply.no]

theorem claimBody_of_free (hd : Domain.ofNumber n = some d) (hc : ¬ (d = .travel ∧ s.classOf p ≠ .operator))
    (h : (s.mc.claims.get d).holder = none) :
    claimBody p n s =
      (((s.setMc { s.mc with claims := s.mc.claims.set d ⟨some p, s.mc.time⟩ }).emit [.holderChanged d]).settle,
        ⟨.ok, []⟩) := by
  simp only [claimBody, ModeController.claim, hd, hc, h]
  rfl

theorem claimBody_of_own (ho : s.offers = []) (hd : Domain.ofNumber n = some d)
    (hc : ¬ (d = .travel ∧ s.classOf p ≠ .operator)) (h : (s.mc.claims.get d).holder = some p) :
    claimBody p n s = (s, ⟨.ok, []⟩) := by
  simp only [claimBody, ModeController.claim, hd, hc, h, if_true, if_false]
  exact State.took_withMc_pure ho _

theorem claimBody_of_takeover {q : Port} (hd : Domain.ofNumber n = some d)
    (hc : ¬ (d = .travel ∧ s.classOf p ≠ .operator)) (h : (s.mc.claims.get d).holder = some q) (hq : q ≠ p)
    (ht : s.classOf q = .route ∧ s.classOf p = .operator) :
    claimBody p n s =
      (((s.setMc { s.mc with claims := s.mc.claims.set d ⟨some p, s.mc.time⟩ }).emit
        [.postTo q .claimLost d.number (portNumber p), .holderChanged d]).settle, ⟨.ok, []⟩) := by
  simp only [claimBody, ModeController.claim, hd, if_neg hc, h, if_neg hq, if_pos ht]
  rfl

theorem claimBody_of_held {q : Port} (ho : s.offers = []) (hd : Domain.ofNumber n = some d)
    (hc : ¬ (d = .travel ∧ s.classOf p ≠ .operator)) (h : (s.mc.claims.get d).holder = some q) (hq : q ≠ p)
    (ht : ¬ (s.classOf q = .route ∧ s.classOf p = .operator)) :
    claimBody p n s = (s, ⟨.heldByOther, [byte (portNumber q)]⟩) := by
  simp only [claimBody, ModeController.claim, hd, hc, h, hq, ht, if_false]
  exact State.took_withMc_pure ho _

theorem releaseBody_of_badDomain (ho : s.offers = []) (h : 3 ≤ n) : releaseBody p n s = (s, ⟨.badValue, []⟩) := by
  simp [releaseBody, ModeController.release, Domain.ofNumber_of_ge h, State.took_withMc_pure ho, Reply.no]

theorem ModeController.holds_iff {c : ModeController} {p : Port} {d : Domain} :
    c.holds p d = true ↔ (c.claims.get d).holder = some p := by
  simp [ModeController.holds]

theorem releaseBody_of_holder (hd : Domain.ofNumber n = some d) (h : (s.mc.claims.get d).holder = some p) :
    releaseBody p n s =
      (((s.setMc { s.mc with claims := s.mc.claims.set d ⟨none, 0⟩ }).emit [.holderChanged d]).settle, ⟨.ok, []⟩) := by
  simp only [releaseBody, ModeController.release, hd, ModeController.holds_iff.2 h, if_true]
  rfl

theorem releaseBody_of_other (ho : s.offers = []) (hd : Domain.ofNumber n = some d)
    (h : (s.mc.claims.get d).holder ≠ some p) : releaseBody p n s = (s, ⟨.notHolder, []⟩) := by
  simp only [releaseBody, ModeController.release, hd, mt ModeController.holds_iff.1 h, Bool.false_eq_true, if_false]
  exact State.took_withMc_pure ho _

end

end Sys2Proof.Machine

open Sys2Proof Sys2Proof.Machine

/-- Settles O12: CLAIM and RELEASE by their cases; what a change of holder comes to by the offer that reports it, which
every offer behind it keeps. -/
theorem claimAndReleaseChangeTheHolder : Obligations.ClaimAndReleaseChangeTheHolder := by
  refine ⟨fun p tag domain s h ho => ⟨fun hn => ?_, ?_, fun d hn hc => ?_⟩,
    fun p tag domain s h ho => ⟨fun hn => ?_, fun d hn => ?_⟩, fun d s before ho hb => ?_⟩
  · exact exec_of_body .claim rfl h (claimBody_of_badDomain ho hn)
  · rintro rfl hclass
    exact exec_of_body .claim rfl h (claimBody_of_class ho hclass)
  · have hd : Domain.ofNumber domain.toNat = some d := hn ▸ Domain.ofNumber_number d
    have hc : ¬ (d = .travel ∧ s.classOf p ≠ .operator) := fun hd => hd.2 (hc hd.1)
    refine ⟨fun hf => exec_of_body .claim rfl h (claimBody_of_free hd hc hf),
      fun hf => exec_of_body .claim rfl h (claimBody_of_own ho hd hc hf), fun q hf hq => ⟨fun h1 h2 => ?_, fun ht => ?_⟩⟩
    · exact exec_of_body .claim rfl h (claimBody_of_takeover hd hc hf hq ⟨h1, h2⟩)
    · exact exec_of_body .claim rfl h (claimBody_of_held ho hd hc hf hq fun hh => ht.elim (· hh.1) (· hh.2))
  · exact exec_of_body .release rfl h (releaseBody_of_badDomain ho hn)
  · have hd : Domain.ofNumber domain.toNat = some d := hn ▸ Domain.ofNumber_number d
    exact ⟨fun hf => exec_of_body .release rfl h (releaseBody_of_holder hd hf),
      fun hf => exec_of_body .release rfl h (releaseBody_of_other ho hd hf)⟩
  · have he : (s.emit (before ++ [.holderChanged d])).offers = before ++ .holderChanged d :: [] := by
      show s.offers ++ _ = _
      rw [ho]
      rfl
    have hlen : before.length < Config.offerBound := by
      obtain rfl | ⟨q, k, n, v, rfl⟩ := hb <;> simp [Config.offerBound]
    refine ⟨(Kept.emit s _).trans (State.settle_kept _), ?_, ?_, ?_⟩
    · rintro rfl
      exact State.settle_arrives (P := fun t => t.governor.noRequest) (fun _ _ => id) deliver_noRequest
        (o := .holderChanged .travel) (fun t => (t.governor.runs_holderChanged _).noRequest ⟨rfl, rfl⟩) he hlen
    · rintro rfl
      exact State.settle_arrives (P := fun t => t.sequencer.allAuto) (fun _ _ => id) deliver_allAuto
        (o := .holderChanged .implements) (fun t => (t.sequencer.runs_holderChanged _).allAuto ⟨rfl, rfl, rfl⟩) he hlen
    · rintro rfl
      exact State.settle_arrives (P := fun t => t.water.isDefault) (fun _ _ => id) deliver_isDefault
        (o := .holderChanged .water) (fun t => (t.water.runs_reevaluate t.water.defaults _).isDefault ⟨rfl, rfl⟩) he hlen
end

section
/-! The offers that a block's reaction to an offer makes are minor ones: notices, demands, grants and reports; they reach
neither a mode, nor a configuration, nor the window monitor, scanner, pulse unit and selector. -/

namespace Sys2Proof.Machine

/-! ### Minor offers -/

/-- Notices, demands, grants, and what governor, sequencer and water controller report of themselves. -/
def Offer.minor : Offer → Bool
  | .post .. | .postTo .. | .demand .. | .liftForReverse _ | .governorImplements _ | .waterImplements ..
  | .modeImplements .. | .chainLifts .. | .chainWater .. | .governorGrant _ | .sequencerGrants .. | .waterGrant _ => true
  | _ => false

/-- Offers whose receivers answer them with minor ones, unless a stow completes. -/
def Offer.inner (o : Offer) : Bool :=
  match o with
  | .haltOutput _ | .chainRestart | .scannerHalted | .scannerStart | .scannerRestart | .monitorRestart | .pulseStart
  | .pulseRestart | .selectorStart | .selectorRestart | .selectorPath .. => false
  | _ => true

/-- Minor offers only. -/
def Minor (out : List Offer) : Prop := ∀ o ∈ out, o.minor = true

theorem Offer.inner_of_minor {o : Offer} (h : o.minor = true) : o.inner = true := by
  cases o <;> first | rfl | cases h

theorem Notices.minor {out : List Offer} (h : Notices out) : Minor out := by
  intro o ho
  have := h o ho
  cases o
  case post | postTo | demand => rfl
  all_goals cases this

theorem MadeBy.minor {b : Maker} {out : List Offer} (h : MadeBy b out)
    (hb : b = .governor ∨ b = .sequencer ∨ b = .water) : Minor out := by
  intro o ho
  obtain hn | hm := h o ho
  · exact Notices.minor (out := [o]) (by simpa [Notices] using hn) o List.mem_cons_self
  · obtain rfl | rfl | rfl := hb
    all_goals
      cases o
      case demand => rfl
      all_goals first | rfl | cases hm

theorem Minor.nil : Minor [] := List.forall_mem_nil _

theorem Minor.append {l m : List Offer} (hl : Minor l) (hm : Minor m) : Minor (l ++ m) :=
  fun o ho => (List.mem_append.1 ho).elim (hl o) (hm o)

theorem Minor.offerIf {o : Offer} (h : o.minor = true) (c : Bool) : Minor (offerIf c o) := by
  cases c
  · exact .nil
  · exact fun x hx => by rwa [List.mem_singleton.1 hx]

/-! ### The budget table makes no coefficients but at a WRITE -/

section
variable (b : Budget) (now : Time)

theorem Budget.minor_recomputeFrom (old : BudgetRows) : Minor (b.recomputeFrom old now).out :=
  (BudgetRows.notices_walk _ _ _ _ _).minor.append
    (((Minor.offerIf rfl _).append (.offerIf rfl _)).append (.offerIf rfl _))

theorem Budget.minor_rederive : Minor (b.rederive now).out := by
  unfold Budget.rederive
  dsimp only
  split
  · exact .nil
  · exact Budget.minor_recomputeFrom _ _ _

theorem Budget.minor_takeDemand (c : Consumer) (n : Nat) : Minor (b.takeDemand now c n).out := by
  unfold Budget.takeDemand
  dsimp only
  split
  · exact .nil
  · exact Budget.minor_recomputeFrom _ _ _

theorem Budget.minor_takeMode (m : Mode) : Minor (b.takeMode now m).out := by
  unfold Budget.takeMode
  dsimp only
  split
  · exact .nil
  · exact Budget.minor_recomputeFrom _ _ _

theorem Budget.minor_takeRanks (l : List Consumer) : Minor (b.takeRanks now l).out := by
  unfold Budget.takeRanks
  dsimp only
  split
  · exact .nil
  · exact Budget.minor_recomputeFrom _ _ _

end

/-! ### What an inner offer makes -/

theorem deliver_modeImplements_of_mode {s : State} (hm : s.mc.mode ≠ .stowing) (l r : ArmState) (m : BroomState) :
    deliver (.modeImplements l r m) s = s.setMc { s.mc with armL := l, armR := r, main := m } :=
  deliver_modeImplements (l := l) (r := r) (m := m) fun h => hm h.1

theorem deliver_minor_of_receiver {o : Offer} (ho : o.inner = true) (hmc : o.receiver ≠ some .modeController) (s : State) :
    ∃ out, (deliver o s).offers = s.offers ++ out ∧ Minor out := by
  have go : ∀ {g : Governor} {e : Emit Governor} (_ : g.Runs e), ∃ out, (s.withGovernor e).offers = s.offers ++ out ∧
      Minor out := fun h => ⟨_, rfl, h.made.minor (.inl rfl)⟩
  have se : ∀ {q : Sequencer} {e : Emit Sequencer} (_ : s.sequencer.Runs q e),
      ∃ out, (s.withSequencer e).offers = s.offers ++ out ∧ Minor out :=
    fun h => ⟨_, rfl, h.made.minor (.inr (.inl rfl))⟩
  have wa : ∀ {w : Water} {e : Emit Water} (_ : w.Runs e), ∃ out, (s.withWater e).offers = s.offers ++ out ∧
      Minor out := fun h => ⟨_, rfl, h.made.minor (.inr (.inr rfl))⟩
  have bu : ∀ {e : Emit Budget} (_ : Minor e.out), ∃ out, (s.withBudget e).offers = s.offers ++ out ∧
      Minor out := fun h => ⟨_, rfl, h⟩
  have none : ∀ {t : State} (_ : t.offers = s.offers), ∃ out, t.offers = s.offers ++ out ∧ Minor out :=
    fun h => ⟨[], by simp [h], .nil⟩
  cases o
  case haltOutput | chainRestart | scannerHalted | scannerStart | scannerRestart | monitorRestart | pulseStart
      | pulseRestart | selectorStart | selectorRestart | selectorPath => cases ho
  case post | postTo | sequencerStale | chainMode | chainLifts | chainWater => exact none rfl
  case modeImplements => exact absurd rfl hmc
  case budgetMode m => exact bu (s.budget.minor_takeMode _ m)
  case budgetStart l => exact bu (Budget.minor_recomputeFrom _ _ _)
  case budgetRestart => exact bu (Budget.minor_recomputeFrom _ _ _)
  case budgetDerate n => exact bu (Budget.minor_rederive _ _)
  case budgetRanks l => exact bu (s.budget.minor_takeRanks _ l)
  case demand c n => exact bu (s.budget.minor_takeDemand _ c n)
  case governorMode m => exact ⟨_, rfl, (s.governor.takeMode_told s.mc.time m).2.1.minor (.inl rfl)⟩
  case governorStart => exact go (s.governor.runs_start _)
  case governorLimits | governorStale | governorGrade | governorStop | governorCap | governorCoefficients
      | governorGrant => exact go (s.governor.runs_takeCopies _ _)
  case governorMotor => exact go (s.governor.runs_takeMotor _ _ _ _ _ _)
  case governorGround => exact go (s.governor.runs_takeGround _ _ _ _)
  case governorImplements => exact go (s.governor.runs_takeImplements _ _)
  case sequencerMode => exact se (s.sequencer.runs_takeMode _ _)
  case sequencerStart => exact se (s.sequencer.runs_start _)
  case sequencerRestart => exact se s.sequencer.runs_restart
  case sequencerMeasures => exact se (s.sequencer.runs_takeMeasures _ _ _ _ _)
  case sequencerProfile => exact se (s.sequencer.runs_takeProfile _ _)
  case sequencerLiftFailed => exact se (s.sequencer.runs_takeFailed _ _ _ _)
  case sequencerLimits | sequencerLift | sequencerCoefficients | sequencerGrants | liftForReverse =>
    exact se (Sequencer.runs_event (Sequencer.fewOutcomes_of (by rfl) (by rfl)))
  case waterMode | waterStart | waterRestart | waterPath | waterFailed => exact wa (s.water.runs_reevaluate _ _)
  case waterTank l => exact wa (s.water.runs_takeTank _ l)
  case waterGround x n => exact wa (s.water.runs_takeGround _ x n)
  case waterCut | waterProfile | waterCoefficient | waterGrant | waterImplements =>
    exact wa (s.water.runs_takeCopies _ _)
  case holderChanged d =>
    cases d
    · exact go (s.governor.runs_holderChanged _)
    · exact se (s.sequencer.runs_holderChanged _)
    · exact wa (s.water.runs_reevaluate _ _)

theorem deliver_minor {o : Offer} (ho : o.inner = true) {s : State} (hm : s.mc.mode ≠ .stowing) :
    ∃ out, (deliver o s).offers = s.offers ++ out ∧ Minor out := by
  by_cases hr : o.receiver = some .modeController
  · cases o
    case modeImplements l r m =>
      rw [deliver_modeImplements_of_mode hm]
      exact ⟨[], by simp, .nil⟩
    case haltOutput => cases ho
    case holderChanged d => cases d <;> cases hr
    all_goals cases hr
  · exact deliver_minor_of_receiver ho hr s

/-- Outside STOWING no inner offer changes the mode controller but for its copies. -/
theorem deliver_inner_mc {o : Offer} (ho : o.inner = true) {s : State} (hm : s.mc.mode ≠ .stowing) :
    ∃ l r m, (deliver o s).mc = { s.mc with armL := l, armR := r, main := m } := by
  by_cases hr : o.receiver = some .modeController
  · cases o
    case modeImplements l r m =>
      exact ⟨l, r, m, by rw [deliver_modeImplements_of_mode hm]; rfl⟩
    case haltOutput => cases ho
    case holderChanged d => cases d <;> cases hr
    all_goals cases hr
  · exact ⟨_, _, _, deliver_mc hr⟩

/-- Inner offers, and minor ones made by them, while no stow can complete. -/
theorem closed_inner : Closed (fun o => o.inner = true) (fun o => o.minor = true) fun s => s.mc.mode ≠ .stowing where
  sub _ := Offer.inner_of_minor
  setOffers _ _ := id
  keeps o s ho h := by
    obtain ⟨_, _, _, he⟩ := deliver_inner_mc ho h
    rw [he]
    exact h
  made o s ho h := by
    obtain ⟨out, he, hm⟩ := deliver_minor ho h
    exact ⟨out, he, hm⟩

/-- Another property that the offers keep, on top of one that is closed. -/
theorem Closed.and {D C : Offer → Prop} {I P : State → Prop} (hc : Closed D C I)
    (hs : ∀ s os, P s → P (s.setOffers os)) (hd : ∀ o s, D o → I s → P s → P (deliver o s)) :
    Closed D C fun s => I s ∧ P s where
  sub := hc.sub
  setOffers s os h := ⟨hc.setOffers s os h.1, hs s os h.2⟩
  keeps o s ho h := ⟨hc.keeps o s ho h.1, hd o s ho h.1 h.2⟩
  made o s ho h := hc.made o s ho h.1

/-- Fewer offers taken, but all that are made. -/
theorem Closed.restrict {D D' C : Offer → Prop} {I : State → Prop} (hc : Closed D C I) (hsub : ∀ o, C o → D' o)
    (hd : ∀ o, D' o → D o) : Closed D' C I where
  sub := hsub
  setOffers := hc.setOffers
  keeps o s ho h := hc.keeps o s (hd o ho) h
  made o s ho h := hc.made o s (hd o ho) h

/-- Minor offers alone. -/
theorem closed_minor : Closed (fun o => o.minor = true) (fun o => o.minor = true) fun s => s.mc.mode ≠ .stowing :=
  closed_inner.restrict (fun _ => id) fun _ => Offer.inner_of_minor

end Sys2Proof.Machine
end

section
/-! WRITE of LIMITS and of COEFFICIENTS (02 R43, 07 R115). -/

namespace Sys2Proof.Machine

/-! ### Copies that an offer sets -/

/-- Minor offers, and those of a list. -/
def MinorOr (l : List Offer) (o : Offer) : Prop := o.minor = true ∨ o ∈ l

theorem closed_minorOr {l : List Offer} (hl : ∀ o ∈ l, o.inner = true) :
    Closed (MinorOr l) (MinorOr l) fun s => s.mc.mode ≠ .stowing where
  sub _ := id
  setOffers := closed_inner.setOffers
  keeps o s ho h := closed_inner.keeps o s (ho.elim Offer.inner_of_minor (hl o)) h
  made o s ho h := by
    obtain ⟨out, he, hm⟩ := closed_inner.made o s (ho.elim Offer.inner_of_minor (hl o)) h
    exact ⟨out, he, fun x hx => .inl (hm x hx)⟩

/-- What an offer on its way makes of the copies, and the offers behind it keep, the copies are at the end. -/
theorem State.settle_copies {l : List Offer} (hl : ∀ o ∈ l, o.inner = true) {Q : Held → Prop}
    (hQ : ∀ (h : Held) (x : Offer), x.minor = true ∨ x ∈ l → Q h → Q (h.take x)) {o : Offer} (ho : o ∈ l) (hb : ∀ h : Held, Q (h.take o))
    {s : State} (hm : s.mc.mode ≠ .stowing) {pre post : List Offer} (he : s.offers = pre ++ o :: post)
    (hw : ∀ x ∈ s.offers, MinorOr l x) (hn : pre.length < Config.offerBound) : Q s.settle.held := by
  refine ((closed_minorOr hl).arrives (P := fun t => Q t.held) (fun _ _ => id) (fun x t hx _ h => ?_) (.inr ho)
    (fun t _ => ?_) _ pre post s he hm (fun x hx => hw x ?_) fun x hx => hw x ?_).resolve_right fun h => ?_
  · rw [(deliver_takes x t).held]
    exact hQ _ x hx h
  · rw [(deliver_takes o t).held]
    exact hb _
  · rw [he]; exact List.mem_append_left _ hx
  · rw [he]; exact List.mem_append_right _ (List.mem_cons_of_mem _ hx)
  · have := h.2
    omega

/-- Minor offers leave the governor's caps and coefficients, the sequencer's limits and coefficients, and the water
controller's coefficient. -/
theorem Held.take_of_minor (h : Held) {x : Offer} (hx : x.minor = true) :
    ((h.take x).governor.fwdCap = h.governor.fwdCap ∧ (h.take x).governor.revCap = h.governor.revCap ∧
      (h.take x).governor.transportCap = h.governor.transportCap) ∧
    ((h.take x).sequencer.armPressMax = h.sequencer.armPressMax ∧
      (h.take x).sequencer.mainRpmMax = h.sequencer.mainRpmMax ∧
      (h.take x).sequencer.sideRpmMax = h.sequencer.sideRpmMax) ∧
    ((h.take x).governor.ct = h.governor.ct ∧ (h.take x).governor.cg = h.governor.cg) ∧
    ((h.take x).sequencer.cm = h.sequencer.cm ∧ (h.take x).sequencer.cb = h.sequencer.cb) ∧
    (h.take x).water.cw = h.water.cw := by
  cases x
  case post | postTo | demand | liftForReverse | governorImplements | waterImplements | modeImplements | chainLifts
      | chainWater | governorGrant | sequencerGrants | waterGrant =>
    exact ⟨⟨rfl, rfl, rfl⟩, ⟨rfl, rfl, rfl⟩, ⟨rfl, rfl⟩, ⟨rfl, rfl⟩, rfl⟩
  all_goals cases hx

/-! ### LIMITS -/

/-- A record of LIMITS that reaches its owner. -/
theorem exec_writeLimits {p : Port} {tag : Byte} {record : List Byte} {l : Limits} {s t : State} {r : Reply}
    (h : s.hears p .write) (hclass : (s.port p).authority = .service) (hlen : record.length = 14)
    (hl : parseLimits record = some l)
    (hb : (s.withMc (s.mc.writeLimits (s.selector.capsAbove l.fwdCap) l).1).took
      (s.mc.writeLimits (s.selector.capsAbove l.fwdCap) l).2 = (t, r)) :
    exec (.writeLimits p tag 0 record) s = .next (t.respond p 0x14 tag r) := by
  refine exec_of_body .write rfl h ?_
  show s.writeTable p .limits 0 record = _
  rw [State.writeTable_of_passed s p (t := .limits) hlen (by decide) (w := .limits l) (by simp [parseRecord, hl])
    (by decide) (by rw [hclass]; decide)]
  exact hb

theorem ModeController.writeLimits_of_locked {c : ModeController} (b : Bool) (l : Limits)
    (h : c.mode ≠ .service ∨ c.softLock = true ∨ c.hardLock = true) :
    c.writeLimits b l = (.pure c, ⟨.locked, []⟩) := by
  simp [ModeController.writeLimits, h, Reply.no]

theorem ModeController.writeLimits_of_open {c : ModeController} (b : Bool) (l : Limits) (hm : c.mode = .service)
    (hs : c.softLock = false) (hh : c.hardLock = false) :
    c.writeLimits b l =
      if b then (.pure c, ⟨.badValue, []⟩)
      else (⟨{ c with limits := l }, [.governorLimits l, .sequencerLimits l]⟩, ⟨.ok, []⟩) := by
  simp [ModeController.writeLimits, hm, hs, hh, Reply.no, Reply.done]

/-- The new limits, once their offers are taken. -/
theorem State.settle_limits {s : State} (ho : s.offers = []) (hm : s.mc.mode = .service) (l : Limits) :
    let t := (s.withMc ⟨{ s.mc with limits := l }, [.governorLimits l, .sequencerLimits l]⟩).settle
    t.standing = s.standing ∧ t.configuration = { s.configuration with limits := l } ∧
      (t.governor.copies.fwdCap = l.fwdCap ∧ t.governor.copies.revCap = l.revCap ∧
        t.governor.copies.transportCap = l.transportCap) ∧
      t.sequencer.armPressMax = l.armPressMax ∧ t.sequencer.mainRpmMax = l.mainRpmMax ∧
        t.sequencer.sideRpmMax = l.sideRpmMax := by
  intro t
  obtain ⟨hconf, hstand⟩ := State.settle_kept
    (s.withMc ⟨{ s.mc with limits := l }, [.governorLimits l, .sequencerLimits l]⟩)
  have hl : ∀ o ∈ [Offer.governorLimits l, .sequencerLimits l], o.inner = true := by simp [Offer.inner]
  have he : (s.withMc ⟨{ s.mc with limits := l }, [.governorLimits l, .sequencerLimits l]⟩).offers =
      [.governorLimits l, .sequencerLimits l] := by
    show s.offers ++ _ = _
    rw [ho]
    rfl
  have hw : ∀ x ∈ (s.withMc ⟨{ s.mc with limits := l }, [.governorLimits l, .sequencerLimits l]⟩).offers,
      MinorOr [.governorLimits l, .sequencerLimits l] x := fun x hx => .inr (he ▸ hx)
  have hmode : (s.withMc ⟨{ s.mc with limits := l }, [.governorLimits l, .sequencerLimits l]⟩).mc.mode ≠ .stowing := by
    show s.mc.mode ≠ _
    simp [hm]
  refine ⟨hstand, hconf, ?_, ?_⟩
  · refine State.settle_copies hl (Q := fun h => h.governor.fwdCap = l.fwdCap ∧ h.governor.revCap = l.revCap ∧
      h.governor.transportCap = l.transportCap) (fun h x hx hq => ?_) (o := .governorLimits l) (by simp)
      (fun _ => ⟨rfl, rfl, rfl⟩) hmode (pre := []) he hw (by simp [Config.offerBound])
    obtain hx | hx := hx
    · obtain ⟨⟨h1, h2, h3⟩, -⟩ := h.take_of_minor hx
      exact ⟨h1.trans hq.1, h2.trans hq.2.1, h3.trans hq.2.2⟩
    · simp only [List.mem_cons, List.not_mem_nil, or_false] at hx
      obtain rfl | rfl := hx
      · exact ⟨rfl, rfl, rfl⟩
      · exact hq
  · refine State.settle_copies hl (Q := fun h => h.sequencer.armPressMax = l.armPressMax ∧
      h.sequencer.mainRpmMax = l.mainRpmMax ∧ h.sequencer.sideRpmMax = l.sideRpmMax) (fun h x hx hq => ?_)
      (o := .sequencerLimits l) (by simp) (fun _ => ⟨rfl, rfl, rfl⟩) hmode (pre := [.governorLimits l]) he hw
      (by simp [Config.offerBound])
    obtain hx | hx := hx
    · obtain ⟨-, ⟨h1, h2, h3⟩, -⟩ := h.take_of_minor hx
      exact ⟨h1.trans hq.1, h2.trans hq.2.1, h3.trans hq.2.2⟩
    · simp only [List.mem_cons, List.not_mem_nil, or_false] at hx
      obtain rfl | rfl := hx
      · exact hq
      · exact ⟨rfl, rfl, rfl⟩

/-! ### COEFFICIENTS -/

theorem exec_writeCoefficients {p : Port} {tag : Byte} {record : List Byte} {k : Coefficients} {s t : State} {r : Reply}
    (h : s.hears p .write) (hclass : (s.port p).authority = .operator ∨ (s.port p).authority = .service)
    (hlen : record.length = 28) (hk : parseCoefficients record = some k)
    (hb : (s.withBudget (s.budget.writeCoefficients s.mc.time s.mc.mode k).1).took
      (s.budget.writeCoefficients s.mc.time s.mc.mode k).2 = (t, r)) :
    exec (.writeCoefficients p tag 0 record) s = .next (t.respond p 0x14 tag r) := by
  refine exec_of_body .write rfl h ?_
  show s.writeTable p .coefficients 0 record = _
  rw [State.writeTable_of_passed s p (t := .coefficients) hlen (by decide) (w := .coefficients k)
    (by simp [parseRecord, hk]) (by decide) (Table.writableBy_of_operator_or_service (by decide) (by simp) hclass)]
  exact hb

theorem Budget.ceiling_takeDemand (b : Budget) (now : Time) (c : Consumer) (n : Nat) :
    (b.takeDemand now c n).val.ceiling = b.ceiling := by
  unfold Budget.takeDemand
  dsimp only
  split
  all_goals rfl

theorem Budget.ceiling_rederive (b : Budget) (now : Time) : (b.rederive now).val.ceiling = b.reserve - b.derate := by
  unfold Budget.rederive
  dsimp only
  split
  next h => exact h.symm
  next => rfl

/-- A demand moves no ceiling, and no other minor offer reaches the budget table. -/
theorem deliver_ceiling {o : Offer} (ho : o.minor = true ∨ o.receiver ≠ some .budget) (s : State) :
    (deliver o s).budget.ceiling = s.budget.ceiling := by
  by_cases hr : o.receiver = some .budget
  case neg => rw [deliver_budget hr]
  cases o
  case demand c n => exact s.budget.ceiling_takeDemand _ _ _
  case budgetMode | budgetStart | budgetRestart | budgetDerate | budgetRanks =>
    exact absurd hr (ho.resolve_left Bool.false_ne_true)
  case holderChanged d => cases d <;> cases hr
  all_goals cases hr

/-- What the budget table makes of new coefficients. -/
def Budget.recoefficient (b : Budget) (now : Time) (k : Coefficients) : Emit Budget :=
  match b.source with
  | .fallback => Budget.rederive { b with coefficients := k, reserve := k.fallback } now
  | .reported => .pure { b with coefficients := k }

/-- The offers of new coefficients. -/
def Coefficients.offers (k : Coefficients) : List Offer :=
  [.governorCoefficients k.ct k.cg, .sequencerCoefficients k.cm k.cb, .waterCoefficient k.cw]

theorem Budget.writeCoefficients_of_not_configurable (b : Budget) (now : Time) {m : Mode} (k : Coefficients)
    (hm : m.configurable = false) : b.writeCoefficients now m k = (.pure b, ⟨.wrongMode, []⟩) := by
  simp [Budget.writeCoefficients, hm, Reply.no]

theorem Budget.writeCoefficients_of_configurable (b : Budget) (now : Time) {m : Mode} (k : Coefficients)
    (hm : m.configurable = true) :
    b.writeCoefficients now m k =
      (⟨(b.recoefficient now k).val, k.offers ++ (b.recoefficient now k).out⟩, ⟨.ok, []⟩) := by
  unfold Budget.writeCoefficients
  rw [if_neg (by simp [hm])]
  rfl

theorem Budget.minor_recoefficient (b : Budget) (now : Time) (k : Coefficients) :
    Minor (b.recoefficient now k).out := by
  unfold Budget.recoefficient
  split
  · exact Budget.minor_rederive _ _
  · exact .nil

theorem Budget.record_recoefficient (b : Budget) (now : Time) (k : Coefficients) :
    (b.recoefficient now k).val.record =
      { b with
        coefficients := k
        reserve := if b.source = ReserveSource.fallback then k.fallback else b.reserve }.record := by
  unfold Budget.recoefficient
  split
  next h =>
    rw [Budget.record_rederive, if_pos h]
  next h =>
    rw [if_neg (by simp [h])]
    rfl

theorem Budget.ceiling_recoefficient (b : Budget) (now : Time) (k : Coefficients) :
    (b.source = .fallback → (b.recoefficient now k).val.ceiling = k.fallback - b.derate) ∧
      (b.source = .reported → (b.recoefficient now k).val.ceiling = b.ceiling) := by
  constructor
  all_goals
    intro h
    unfold Budget.recoefficient
    rw [h]
  · exact Budget.ceiling_rederive _ _
  · rfl

/-- The state in which new coefficients are offered. -/
def State.recoefficiented (s : State) (k : Coefficients) : State :=
  s.withBudget ⟨(s.budget.recoefficient s.mc.time k).val, k.offers ++ (s.budget.recoefficient s.mc.time k).out⟩

theorem State.recoefficiented_records (s : State) (k : Coefficients) :
    (s.recoefficiented k).configuration = { s.configuration with coefficients := k } ∧
      (s.recoefficiented k).standing =
        { s.standing with reserve := if s.budget.source = .fallback then k.fallback else s.budget.reserve } := by
  have h := s.budget.record_recoefficient s.mc.time k
  simp only [Budget.record, Prod.mk.injEq] at h
  obtain ⟨hk, hr, hs, hp, hl, hf⟩ := h
  constructor
  · show ({ s.configuration with
      coefficients := (s.recoefficiented k).budget.coefficients
      floors := consumers.map fun c => ((s.recoefficiented k).budget.rows.get c).floor } : Configuration) = _
    rw [show (s.recoefficiented k).budget = (s.budget.recoefficient s.mc.time k).val from rfl, hk, hf]
    rfl
  · show ({ s.standing with
      reserve := (s.budget.recoefficient s.mc.time k).val.reserve
      source := (s.budget.recoefficient s.mc.time k).val.source
      reporter := (s.budget.recoefficient s.mc.time k).val.lastReporter
      lease := (s.budget.recoefficient s.mc.time k).val.leaseExpiry } : Standing) = _
    rw [hr, hs, hp, hl]
    rfl

theorem Coefficients.inner_of_mem_offers {k : Coefficients} :
    ∀ o ∈ k.offers, o.inner = true ∧ o.receiver ≠ some .budget := by
  simp [Coefficients.offers, Offer.inner, Offer.receiver]

/-- The new coefficients, once their offers are taken. -/
theorem State.settle_recoefficiented {s : State} (ho : s.offers = []) (hm : s.mc.mode ≠ .stowing) (k : Coefficients) :
    (s.recoefficiented k).settle.budget.ceiling = (s.budget.recoefficient s.mc.time k).val.ceiling ∧
      ((s.recoefficiented k).settle.governor.copies.ct = k.ct ∧ (s.recoefficiented k).settle.governor.copies.cg = k.cg) ∧
      ((s.recoefficiented k).settle.sequencer.cm = k.cm ∧ (s.recoefficiented k).settle.sequencer.cb = k.cb) ∧
      (s.recoefficiented k).settle.water.copies.cw = k.cw := by
  have hl : ∀ o ∈ k.offers, o.inner = true := fun o h => (k.inner_of_mem_offers o h).1
  have he : (s.recoefficiented k).offers = k.offers ++ (s.budget.recoefficient s.mc.time k).out := by
    show s.offers ++ _ = _
    rw [ho]
    rfl
  have hw : ∀ x ∈ (s.recoefficiented k).offers, MinorOr k.offers x := by
    intro x hx
    rw [he] at hx
    exact (List.mem_append.1 hx).elim .inr fun h => .inl (s.budget.minor_recoefficient _ _ x h)
  refine ⟨?_, ?_, ?_, ?_⟩
  · exact (Closed.settle ((closed_minorOr hl).and
      (P := fun t => t.budget.ceiling = (s.budget.recoefficient s.mc.time k).val.ceiling) (fun _ _ => id)
      fun o t ho _ h => (deliver_ceiling (ho.imp_right fun h => (k.inner_of_mem_offers o h).2) t).trans h)
      (s := s.recoefficiented k) ⟨hm, rfl⟩ hw).1.2
  · refine State.settle_copies hl (Q := fun h => h.governor.ct = k.ct ∧ h.governor.cg = k.cg) (fun h x hx hq => ?_)
      (o := .governorCoefficients k.ct k.cg) (by simp [Coefficients.offers]) (fun _ => ⟨rfl, rfl⟩) hm (pre := []) he hw
      (by simp [Config.offerBound])
    obtain hx | hx := hx
    · obtain ⟨-, -, ⟨h1, h2⟩, -⟩ := h.take_of_minor hx
      exact ⟨h1.trans hq.1, h2.trans hq.2⟩
    · simp only [Coefficients.offers, List.mem_cons, List.not_mem_nil, or_false] at hx
      obtain rfl | rfl | rfl := hx
      · exact ⟨rfl, rfl⟩
      all_goals exact hq
  · refine State.settle_copies hl (Q := fun h => h.sequencer.cm = k.cm ∧ h.sequencer.cb = k.cb) (fun h x hx hq => ?_)
      (o := .sequencerCoefficients k.cm k.cb) (by simp [Coefficients.offers]) (fun _ => ⟨rfl, rfl⟩) hm
      (pre := [.governorCoefficients k.ct k.cg]) he hw (by simp [Config.offerBound])
    obtain hx | hx := hx
    · obtain ⟨-, -, -, ⟨h1, h2⟩, -⟩ := h.take_of_minor hx
      exact ⟨h1.trans hq.1, h2.trans hq.2⟩
    · simp only [Coefficients.offers, List.mem_cons, List.not_mem_nil, or_false] at hx
      obtain rfl | rfl | rfl := hx
      · exact hq
      · exact ⟨rfl, rfl⟩
      · exact hq
  · refine State.settle_copies hl (Q := fun h => h.water.cw = k.cw) (fun h x hx hq => ?_)
      (o := .waterCoefficient k.cw) (by simp [Coefficients.offers]) (fun _ => rfl) hm
      (pre := [.governorCoefficients k.ct k.cg, .sequencerCoefficients k.cm k.cb]) he hw (by simp [Config.offerBound])
    obtain hx | hx := hx
    · obtain ⟨-, -, -, -, h1⟩ := h.take_of_minor hx
      exact h1.trans hq
    · simp only [Coefficients.offers, List.mem_cons, List.not_mem_nil, or_false] at hx
      obtain rfl | rfl | rfl := hx
      · exact hq
      · exact hq
      · rfl

end Sys2Proof.Machine

open Sys2Proof Sys2Proof.Machine

/-- Settles O22: the offers of the WRITE reach their copies, and the offers these give rise to are minor ones, which leave
those copies and the ceiling as they are. -/
theorem writeLimitsAndCoefficientsReplaceThem : Obligations.WriteLimitsAndCoefficientsReplaceThem := by
  constructor
  · intro p tag record l s h hclass ho hlen hl
    refine ⟨fun hlock => exec_writeLimits h hclass hlen hl ?_, fun hm hs hh => ⟨?_, fun hcaps => ?_⟩⟩
    · rw [ModeController.writeLimits_of_locked _ _ hlock]
      exact State.took_withMc_pure ho _
    · rintro ⟨i, hv, hlt⟩
      refine exec_writeLimits h hclass hlen hl ?_
      have hb : s.selector.capsAbove l.fwdCap = true := by
        rw [← Bool.not_eq_false, Selector.capsAbove_eq_false]
        intro hall
        exact absurd (hall i hv) (Nat.not_le.2 hlt)
      rw [ModeController.writeLimits_of_open _ _ hm hs hh, hb, if_pos rfl]
      exact State.took_withMc_pure ho _
    · obtain ⟨hstand, hconf, ⟨h1, h2, h3⟩, h4, h5, h6⟩ := State.settle_limits ho hm l
      refine ⟨_, exec_writeLimits h hclass hlen hl ?_, hstand, hconf, h1, h2, h3, h4, h5, h6⟩
      rw [ModeController.writeLimits_of_open _ _ hm hs hh, Selector.capsAbove_eq_false.2 hcaps, if_neg Bool.false_ne_true]
      rfl
  · intro p tag record k s h hclass ho hlen hk
    constructor
    · intro hm
      refine exec_writeCoefficients h hclass hlen hk ?_
      rw [Budget.writeCoefficients_of_not_configurable _ _ _ hm]
      exact State.took_withBudget_pure ho _ _
    · intro hm
      have hmode : s.mc.mode ≠ .stowing := fun he => by simp [he, Mode.configurable] at hm
      obtain ⟨hceil, ⟨h1, h2⟩, ⟨h3, h4⟩, h5⟩ := State.settle_recoefficiented ho hmode k
      obtain ⟨hconf, hstand⟩ := s.recoefficiented_records k
      obtain ⟨kconf, kstand⟩ := State.settle_kept (s.recoefficiented k)
      obtain ⟨hfall, hrep⟩ := s.budget.ceiling_recoefficient s.mc.time k
      refine ⟨(s.recoefficiented k).settle, exec_writeCoefficients h hclass hlen hk ?_, kconf.trans hconf,
        kstand.trans hstand, fun hs => hceil.trans (hfall hs), fun hs => hceil.trans (hrep hs), h1, h2, h3, h4, h5⟩
      rw [Budget.writeCoefficients_of_configurable _ _ _ hm]
      rfl
end

section
/-! HALTED and SERVICE: what the blocks are once they have taken the mode, and keep until a working mode is offered
(02 R29, R36; 07 R106; 08 R137; 09 R156; 10 R168, R169). -/

namespace Sys2Proof.Machine

/-! ### Travel governor -/

/-- A travel governor that has nothing to drive. -/
structure Governor.Rests (g : Governor) : Prop where
  mode : g.copies.mode.working = false
  command : g.command = 0
  driveFwd : g.driveFwd = 0
  driveRev : g.driveRev = 0
  request : g.request = 0
  lease : g.leaseExpiry = none
  state : g.state = .standstill
  cutLevel : g.cutLevel = 0
  liftForReverse : g.liftForReverse = false
  liftWait : g.liftWait = none
  blocked : g.reverseBlocked = false
  slipWindow : g.slipWindow = none
  slipArmed : g.slipArmed = false
  ramp : g.rampTimer = none

/-- The values that are derived from a governor at rest. -/
def Governor.idle (g : Governor) : Governor := { g with ceiling := 0, limiting := .mode, target := 0, demand := 0 }

/-- A governor at rest whose derived values are up to date. -/
def Governor.Idle (g : Governor) : Prop := g.Rests ∧ g.idle = g

theorem leastTerm_cons_zero (t : CeilingTerm) (l : List (CeilingTerm × Nat)) : leastTerm ((t, 0) :: l) = (t, 0) := by
  cases l with
  | nil => rfl
  | cons y l => simp [leastTerm]

theorem Governor.takeCeiling_of_not_working {g : Governor} (h : g.copies.mode.working = false) :
    g.takeCeiling = { g with ceiling := 0, limiting := .mode } := by
  have hn : g.ceilingNow = (.mode, 0) := by
    simp only [Governor.ceilingNow, Governor.earlyTerms, termIf, h, Bool.not_false, if_true, List.cons_append,
      leastTerm_cons_zero]
  unfold Governor.takeCeiling
  rw [hn]

theorem Governor.derived_of_standstill {g : Governor} (h : g.state = .standstill) :
    g.targetNow = 0 ∧ g.demandNow = 0 := by
  have hb : g.baseTarget = 0 := by simp [Governor.baseTarget, Governor.wanted, h]
  simp [Governor.targetNow, Governor.demandNow, hb]

theorem Governor.rederive_of_rests {g : Governor} (h : g.Rests) (now : Time) :
    g.rederive now = ⟨g.idle, offerIf (0 != g.demand) (.demand .travel 0)⟩ := by
  have hcut : (g.takeCeiling.cut now).takeCeiling = { g with ceiling := 0, limiting := .mode } := by
    rw [Governor.takeCeiling_of_not_working h.mode, Governor.cut, if_neg (by simp [h.command])]
    exact Governor.takeCeiling_of_not_working h.mode
  obtain ⟨ht, -⟩ := Governor.derived_of_standstill (g := { g with ceiling := 0, limiting := .mode }) h.state
  obtain ⟨-, hd⟩ := Governor.derived_of_standstill
    (g := { g with ceiling := 0, limiting := .mode, target := 0 }) h.state
  unfold Governor.rederive
  simp only [hcut, ht, hd]
  rfl

theorem Governor.Rests.rederive {g : Governor} (h : g.Rests) (now : Time) : (g.rederive now).val.Idle := by
  rw [Governor.rederive_of_rests h]
  exact ⟨⟨h.mode, h.command, h.driveFwd, h.driveRev, h.request, h.lease, h.state, h.cutLevel, h.liftForReverse,
    h.liftWait, h.blocked, h.slipWindow, h.slipArmed, h.ramp⟩, rfl⟩

/-- The copies, but for the mode, are no part of being at rest. -/
theorem Governor.Rests.withCopies {g : Governor} (h : g.Rests) {c : TravelCopies} (hm : c.mode.working = false) :
    { g with copies := c }.Rests :=
  ⟨hm, h.command, h.driveFwd, h.driveRev, h.request, h.lease, h.state, h.cutLevel, h.liftForReverse, h.liftWait,
    h.blocked, h.slipWindow, h.slipArmed, h.ramp⟩

theorem Governor.Rests.takeCopies {g : Governor} (h : g.Rests) (now : Time) {c : TravelCopies}
    (hm : c.mode.working = false) : (g.takeCopies now c).val.Idle :=
  (h.withCopies hm).rederive now

/-- HALTED or SERVICE puts the governor to rest. -/
theorem Governor.idle_takeMode (g : Governor) (now : Time) {m : Mode} (hm : m.working = false) :
    (g.takeMode now m).val.Idle := by
  unfold Governor.takeMode
  rw [if_neg (by simp [hm])]
  exact Governor.Rests.rederive ⟨hm, rfl, rfl, rfl, rfl, rfl, rfl, rfl, rfl, rfl, rfl, rfl, rfl, rfl⟩ now

theorem Governor.beginTest_of_standstill {g : Governor} (h : g.state = .standstill) : g.beginTest = g := by
  simp [Governor.beginTest, h]

/-- The record of a governor whose holder has changed. -/
def Governor.released (g : Governor) : Governor :=
  { g with leaseExpiry := none, request := 0, reverseBlocked := g.reverseBlocked && decide ((0 : Int) < 0) }

theorem Governor.Rests.holderChanged {g : Governor} (h : g.Rests) (now : Time) : (g.holderChanged now).val.Idle := by
  have hsign : g.released.takeSign now (if g.released.reverseBlocked then 0 else 0) = .pure g.released := by
    rw [ite_self, Governor.takeSign, if_pos rfl]
    simp [Governor.released, h.state]
  have hr : g.released.Rests :=
    ⟨h.mode, h.command, h.driveFwd, h.driveRev, rfl, rfl, h.state, h.cutLevel, h.liftForReverse, h.liftWait,
      Bool.and_false _, h.slipWindow, h.slipArmed, h.ramp⟩
  show ((g.released.takeSign now (if g.released.reverseBlocked then 0 else 0)).andThen fun g => g.rederive now).val.Idle
  rw [hsign]
  exact hr.rederive now

/-- No slip window is open, and none is due to open. -/
theorem Governor.Rests.windowEnd {g : Governor} (h : g.Rests) (now : Time) (w : Bool) :
    (((if w then g.slipWindowEnd now else .pure g).andThen fun g => .pure g.beginTest).andThen
      fun g => g.rederive now).val.Idle := by
  have hw : g.slipWindowEnd now = .pure g := by simp [Governor.slipWindowEnd, h.slipWindow, h.slipArmed]
  rw [hw, ite_self]
  show (g.beginTest.rederive now).val.Idle
  rw [Governor.beginTest_of_standstill h.state]
  exact h.rederive now

theorem Governor.Rests.takeMotor {g : Governor} (h : g.Rests) (now : Time) (n : Nat) (d : Direction) (j k : Nat)
    (w : Bool) : (g.takeMotor now n d j k w).val.Idle :=
  Governor.Rests.windowEnd (h.withCopies
    (c := { g.copies with motorSpeed := n, direction := d, groundSpeed := j, slip := k }) h.mode) now w

theorem Governor.Rests.takeGround {g : Governor} (h : g.Rests) (now : Time) (x : GroundStatus) (j k : Nat) :
    (g.takeGround now x j k).val.Idle := by
  cases x
  · have ha : (g.slipArmed || g.copies.mode.working) = false := by rw [h.slipArmed, h.mode]; rfl
    exact Governor.Rests.rederive (g := { g with
      copies := { g.copies with ground := .present, groundSpeed := j, slip := k }
      slipArmed := g.slipArmed || g.copies.mode.working })
      ⟨h.mode, h.command, h.driveFwd, h.driveRev, h.request, h.lease, h.state, h.cutLevel, h.liftForReverse, h.liftWait,
        h.blocked, h.slipWindow, ha, h.ramp⟩ now
  · exact Governor.Rests.rederive (g := { g with
      copies := { g.copies with ground := .lost, groundSpeed := j, slip := k }
      slipWindow := none
      slipArmed := false })
      ⟨h.mode, h.command, h.driveFwd, h.driveRev, h.request, h.lease, h.state, h.cutLevel, h.liftForReverse, h.liftWait,
        h.blocked, rfl, rfl, h.ramp⟩ now

theorem Governor.Rests.takeImplements {g : Governor} (h : g.Rests) (now : Time) (r : ImplementReport) :
    (g.takeImplements now r).val.Idle := by
  obtain ⟨hr, -⟩ := h.takeCopies now (c := { g.copies with implements := r }) h.mode
  unfold Governor.takeImplements
  simp only [Emit.andThen, hr.state, Governor.beginTest_of_standstill hr.state]
  rw [if_neg (by simp)]
  exact hr.rederive now

/-- The mode that an offer of a mode brings, or of START. -/
def Offer.setsWorking : Offer → Bool
  | .governorMode m | .sequencerMode m | .waterMode m | .budgetMode m | .chainMode m => m.working
  | .governorStart | .sequencerStart | .waterStart | .budgetStart _ => true
  | _ => false

/-- A governor at rest stays at rest until a working mode is offered. -/
theorem deliver_idle {o : Offer} (ho : o.setsWorking = false) {s : State} (h : s.governor.Idle) :
    (deliver o s).governor.Idle := by
  by_cases hr : o.receiver = some .governor
  case neg => rwa [deliver_governor hr]
  cases o
  case governorMode m => exact s.governor.idle_takeMode _ ho
  case governorStart => cases ho
  case governorMotor => exact h.1.takeMotor _ _ _ _ _ _
  case governorGround => exact h.1.takeGround _ _ _ _
  case governorImplements r => exact h.1.takeImplements _ r
  case governorLimits | governorStale | governorGrade | governorStop | governorCap | governorCoefficients
      | governorGrant => exact h.1.takeCopies _ h.1.mode
  case holderChanged d =>
    cases d
    · exact h.1.holderChanged _
    all_goals cases hr
  all_goals cases hr

/-! ### Implement sequencer -/

/-- A side arm that is neither moved nor driven. -/
structure ArmRecord.Rests (a : ArmRecord) : Prop where
  swing : a.swing = 0
  broom : a.broom = 0
  press : a.press = 0
  lift : a.lift = false
  motion : a.motion = none
  timer : a.timer = none

/-- A main broom that is neither moved nor driven. -/
structure MainRecord.Rests (b : MainRecord) : Prop where
  broom : b.broom = 0
  lift : b.lift = false
  timer : b.timer = none

/-- An implement sequencer that has nothing to drive. -/
structure Sequencer.Rests (q : Sequencer) : Prop where
  mode : q.mode.working = false
  left : q.left.Rests
  right : q.right.Rests
  main : q.main.Rests
  regTimer : q.regTimer = none

theorem Sequencer.Rests.arm {q : Sequencer} (h : q.Rests) (x : Side) : (q.arm x).Rests := by
  cases x
  · exact h.left
  · exact h.right

/-- At rest the end of an event changes demands alone. -/
theorem Sequencer.Rests.finish {p : Sequencer} (h : p.Rests) (old : Sequencer) (all : Bool) :
    (old.finish p all).val.Rests := by
  have hd : p.drive = p := by
    unfold Sequencer.drive
    rw [if_neg (by simp [h.mode])]
  show p.drive.takeDemands.Rests
  rw [hd]
  obtain ⟨hm, hl, hr, hb, ht⟩ := h
  exact ⟨hm, ⟨hl.swing, hl.broom, hl.press, hl.lift, hl.motion, hl.timer⟩,
    ⟨hr.swing, hr.broom, hr.press, hr.lift, hr.motion, hr.timer⟩, ⟨hb.broom, hb.lift, hb.timer⟩, ht⟩

theorem Sequencer.react_of_not_working {p : Sequencer} (h : p.mode.working = false) (old : Sequencer) (t : Moment) :
    old.react p t = .pure p := by
  unfold Sequencer.react
  rw [if_neg (by simp [h])]

theorem Sequencer.Rests.event {p : Sequencer} (h : p.Rests) (old : Sequencer) (t : Moment) :
    (old.event p t).val.Rests := by
  unfold Sequencer.event
  rw [Sequencer.react_of_not_working h.mode]
  exact h.finish old false

theorem ArmRecord.rests_halt (a : ArmRecord) (x : Side) (t : Moment) : (a.halt x t).val.Rests := by
  unfold ArmRecord.halt ArmRecord.closeMotion
  split
  next h => exact ⟨rfl, rfl, rfl, rfl, h, rfl⟩
  next => exact ⟨rfl, rfl, rfl, rfl, rfl, rfl⟩

/-- HALTED or SERVICE puts the sequencer to rest. -/
theorem Sequencer.rests_takeMode (q : Sequencer) (t : Moment) {m : Mode} (hm : m.working = false) :
    (q.takeMode t m).val.Rests := by
  unfold Sequencer.takeMode
  rw [if_neg (by simp [hm])]
  exact Sequencer.Rests.finish (p := { q with
    mode := m, left := (q.left.halt .left t).val, right := (q.right.halt .right t).val, main := q.main.halt,
    regTimer := none }) ⟨hm, q.left.rests_halt _ _, q.right.rests_halt _ _, ⟨rfl, rfl, rfl⟩, rfl⟩ q false

theorem ArmRecord.Rests.takeFailed {a : ArmRecord} (h : a.Rests) (x : Side) (t : Moment) (b f : Bool) :
    (a.takeFailed x t b f).val.Rests := by
  have hc : ∀ y : ArmRecord, y.motion = none → y.closeMotion x t .faulted none = .pure y := fun y hy => by
    simp [ArmRecord.closeMotion, hy]
  unfold ArmRecord.takeFailed
  dsimp only
  split
  · split
    · exact ⟨h.swing, h.broom, h.press, rfl, h.motion, h.timer⟩
    · unfold ArmRecord.toFault
      rw [hc { a with liftFailed := f } h.motion]
      cases b
      · exact ⟨rfl, rfl, rfl, rfl, h.motion, rfl⟩
      · exact ⟨h.swing, h.broom, h.press, rfl, h.motion, rfl⟩
  · exact ⟨h.swing, h.broom, h.press, h.lift, h.motion, h.timer⟩

theorem MainRecord.Rests.takeFailed {b : MainRecord} (h : b.Rests) (x f : Bool) : (b.takeFailed x f).val.Rests := by
  unfold MainRecord.takeFailed
  dsimp only
  split
  · split
    · exact ⟨h.broom, rfl, h.timer⟩
    · cases x
      · exact ⟨rfl, rfl, rfl⟩
      · exact ⟨h.broom, rfl, rfl⟩
  · exact ⟨h.broom, h.lift, h.timer⟩

theorem Sequencer.Rests.takeFailed {q : Sequencer} (h : q.Rests) (t : Moment) (l r m : Bool) :
    (q.takeFailed t l r m).val.Rests :=
  Sequencer.Rests.finish (p := { q with
    left := (q.left.takeFailed .left t (q.mode == .service) l).val
    right := (q.right.takeFailed .right t (q.mode == .service) r).val
    main := (q.main.takeFailed (q.mode == .service) m).val })
    ⟨h.mode, h.left.takeFailed _ _ _ _, h.right.takeFailed _ _ _ _, h.main.takeFailed _ _, h.regTimer⟩ q false

theorem Sequencer.Rests.restart {q : Sequencer} (h : q.Rests) : q.restart.val.Rests := by
  obtain ⟨hm, hl, hr, hb, ht⟩ := h
  exact Sequencer.Rests.finish (p := { q with left := q.left.restart, right := q.right.restart, main := q.main.restart })
    ⟨hm, ⟨hl.swing, hl.broom, hl.press, hl.lift, hl.motion, hl.timer⟩,
      ⟨hr.swing, hr.broom, hr.press, hr.lift, hr.motion, hr.timer⟩, ⟨hb.broom, hb.lift, hb.timer⟩, ht⟩ q false

theorem Sequencer.Rests.takeProfile {q : Sequencer} (h : q.Rests) (t : Moment) (r : Profile) :
    (q.takeProfile t r).val.Rests := by
  obtain ⟨hm, hl, hr, hb, ht⟩ := h
  have hp : (q.profiled r).Rests := ⟨hm, ⟨hl.swing, hl.broom, hl.press, hl.lift, hl.motion, hl.timer⟩,
    ⟨hr.swing, hr.broom, hr.press, hr.lift, hr.motion, hr.timer⟩, hb, ht⟩
  show ((q.react (q.profiled r) t).andThen fun p =>
    q.finish (q.newReaches t r.reachL r.reachR p) false).val.Rests
  rw [Sequencer.react_of_not_working hp.mode]
  show (q.finish (q.newReaches t r.reachL r.reachR (q.profiled r)) false).val.Rests
  rw [Sequencer.newReaches, if_neg (by simp [hp.mode])]
  exact hp.finish q false

theorem Sequencer.Rests.takeMeasures {q : Sequencer} (h : q.Rests) (t : Moment) (a b c d : Option Int) :
    (q.takeMeasures t a b c d).val.Rests := by
  obtain ⟨hm, hl, hr, hb, ht⟩ := h
  unfold Sequencer.takeMeasures
  dsimp only
  rw [if_neg (by simp [hm])]
  exact Sequencer.Rests.finish (p := { q with
    left := { q.left with position := a, pressure := c }, right := { q.right with position := b, pressure := d } })
    ⟨hm, ⟨hl.swing, hl.broom, hl.press, hl.lift, hl.motion, hl.timer⟩,
    ⟨hr.swing, hr.broom, hr.press, hr.lift, hr.motion, hr.timer⟩, hb, ht⟩ q false

/-- A sequencer at rest stays at rest until a working mode is offered. -/
theorem deliver_sequencer_rests {o : Offer} (ho : o.setsWorking = false) {s : State} (h : s.sequencer.Rests) :
    (deliver o s).sequencer.Rests := by
  by_cases hr : o.receiver = some .sequencer
  case neg => rwa [deliver_sequencer hr]
  have rests := h
  obtain ⟨hm, hl, hr', hb, ht⟩ := h
  have hl' : ∀ (c : ArmCommand) (g : GrantCopy), { s.sequencer.left with command := c, row := g }.Rests := fun c g =>
    ⟨hl.swing, hl.broom, hl.press, hl.lift, hl.motion, hl.timer⟩
  have hr'' : ∀ (c : ArmCommand) (g : GrantCopy), { s.sequencer.right with command := c, row := g }.Rests := fun c g =>
    ⟨hr'.swing, hr'.broom, hr'.press, hr'.lift, hr'.motion, hr'.timer⟩
  have hb' : ∀ (c : BroomCommand) (g : GrantCopy), { s.sequencer.main with command := c, row := g }.Rests := fun c g =>
    ⟨hb.broom, hb.lift, hb.timer⟩
  cases o
  case sequencerMode m => exact s.sequencer.rests_takeMode _ ho
  case sequencerStart => cases ho
  case sequencerRestart => exact rests.restart
  case sequencerMeasures => exact rests.takeMeasures _ _ _ _ _
  case sequencerProfile r => exact rests.takeProfile _ r
  case sequencerLiftFailed => exact rests.takeFailed _ _ _ _
  case sequencerStale => exact ⟨hm, hl, hr', hb, ht⟩
  case sequencerLimits l =>
    exact Sequencer.Rests.event (p := { s.sequencer with
      armPressMax := l.armPressMax, mainRpmMax := l.mainRpmMax, sideRpmMax := l.sideRpmMax })
      ⟨hm, hl, hr', hb, ht⟩ _ s.moment
  case sequencerLift b =>
    exact Sequencer.Rests.event (p := { s.sequencer with liftArms := b }) ⟨hm, hl, hr', hb, ht⟩ _ s.moment
  case sequencerCoefficients m b =>
    exact Sequencer.Rests.event (p := { s.sequencer with cm := m, cb := b }) ⟨hm, hl, hr', hb, ht⟩ _ s.moment
  case liftForReverse b =>
    exact Sequencer.Rests.event (p := { s.sequencer with liftForReverse := b }) ⟨hm, hl, hr', hb, ht⟩ _ s.moment
  case sequencerGrants m l r =>
    exact Sequencer.Rests.event (p := { s.sequencer with
      main := { s.sequencer.main with row := m }, left := { s.sequencer.left with row := l }
      right := { s.sequencer.right with row := r } }) ⟨hm, hl' _ l, hr'' _ r, hb' _ m, ht⟩ _ s.moment
  case holderChanged d =>
    cases d
    case implements =>
      exact Sequencer.Rests.event (p := s.sequencer.autoCommands)
        ⟨hm, hl' .auto _, hr'' .auto _, hb' .auto _, ht⟩ _ s.moment
    all_goals cases hr
  all_goals cases hr

end Sys2Proof.Machine
end

section
/-! HALTED and SERVICE: water controller, budget table, valve chain driver, and the whole machine once the mode has been
offered to every block (02 R29, R36; 07 R106; 10 R168, R169; log 41). -/

namespace Sys2Proof.Machine

/-! ### Water controller -/

/-- A water controller that has nothing to drive. -/
structure Water.Rests (w : Water) : Prop where
  mode : w.copies.mode ≠ .sweep
  state : w.state = .off
  primeTimer : w.primeTimer = none
  pump : w.pump = 0
  nozzles : w.nozzles = 0
  prime : w.prime = false

/-- Outside SWEEP the state becomes OFF. -/
theorem Water.transit_of_not_sweep {w : Water} (h : w.copies.mode ≠ .sweep) (now : Time) :
    w.transit now = w.enter .off := by
  have hs : w.shut = true := by simp [Water.shut, h]
  have hp : w.mayPrime = false := by simp [Water.mayPrime, Water.open, h]
  unfold Water.transit
  cases w.state
  case off => simp [h, Water.offOrPrime, hp]
  case empty => simp [h]
  all_goals simp [hs]

/-- Outside SWEEP a re-evaluation leaves nothing driven; in SERVICE the PRIME request is left as it is. -/
theorem Water.rests_reevaluate (old : Water) {w : Water} (h : w.copies.mode ≠ .sweep)
    (hp : w.copies.mode = .service → w.prime = false) (now : Time) : (old.reevaluate w now).val.Rests := by
  show (w.takeDuties.transit now).drive.Rests
  rw [Water.transit_of_not_sweep (w := w.takeDuties) h]
  refine ⟨h, rfl, rfl, rfl, rfl, ?_⟩
  show (if w.copies.mode = .service then w.prime else false) = false
  split
  next hm => exact hp hm
  next => rfl

theorem Water.Rests.takeCopies {w : Water} (h : w.Rests) (now : Time) {c : WaterCopies} (hm : c.mode = w.copies.mode) :
    (w.takeCopies now c).val.Rests :=
  w.rests_reevaluate (w := { w with copies := c }) (hm.trans_ne h.mode) (fun _ => h.prime) now

/-- HALTED or SERVICE puts the water controller to rest. -/
theorem Water.rests_takeMode (w : Water) (now : Time) {m : Mode} (hm : m.working = false) :
    (w.takeMode now m).val.Rests := by
  refine w.rests_reevaluate (w := { w with prime := w.prime && m != .service, copies := { w.copies with mode := m } })
    (fun he => ?_) (fun he => ?_) now
  · rw [show m = .sweep from he] at hm
    cases hm
  · show (w.prime && m != .service) = false
    rw [show m = .service from he]
    exact Bool.and_false _

theorem Water.Rests.takeTank {w : Water} (h : w.Rests) (now : Time) (l : Option Int) :
    (w.takeTank now l).val.Rests := by
  have hl : (w.latch l).val.copies = w.copies ∧ (w.latch l).val.prime = w.prime := by
    unfold Water.latch
    split
    · exact ⟨rfl, rfl⟩
    · split
      · exact ⟨rfl, rfl⟩
      · split
        all_goals exact ⟨rfl, rfl⟩
  obtain ⟨hc, hp⟩ := hl
  refine w.rests_reevaluate
    (w := { (w.latch l).val with copies := { (w.latch l).val.copies with tankLevel := l } }) ?_ (fun _ => ?_) now
  · rw [hc]
    exact h.mode
  · exact hp.trans h.prime

theorem Water.Rests.takeGround {w : Water} (h : w.Rests) (now : Time) (x : GroundStatus) (n : Nat) :
    (w.takeGround now x n).val.Rests := by
  have htake : (w.takeCopies now { w.copies with ground := x, groundSpeed := n }).val.Rests := h.takeCopies now rfl
  have hauto : w.autoCutTest = .pure w := by simp [Water.autoCutTest, h.state]
  unfold Water.takeGround
  dsimp only
  split
  · rw [hauto]
    exact htake
  · have hends : ∀ v : Water, v.Rests → v.autoCutEnds.val.Rests := fun v hv => by
      unfold Water.autoCutEnds
      split
      · exact ⟨hv.mode, hv.state, hv.primeTimer, hv.pump, hv.nozzles, hv.prime⟩
      · exact hv
    exact hends _ htake
  · exact htake
  · exact htake

/-- A water controller at rest stays at rest until a working mode is offered. -/
theorem deliver_water_rests {o : Offer} (ho : o.setsWorking = false) {s : State} (h : s.water.Rests) :
    (deliver o s).water.Rests := by
  by_cases hr : o.receiver = some .water
  case neg => rwa [deliver_water hr]
  cases o
  case waterMode m => exact s.water.rests_takeMode _ ho
  case waterStart => cases ho
  case waterRestart =>
    exact s.water.rests_reevaluate (w := { s.water.defaults with
      wetUntil := 0, wet := false, sprayed := 0, copies := { s.water.copies with path := 0, advance := 0 } })
      h.mode (fun _ => h.prime) _
  case waterTank l => exact h.takeTank _ l
  case waterGround x n => exact h.takeGround _ x n
  case waterPath p a =>
    exact s.water.rests_reevaluate (w := { s.water with
      sprayed := if s.water.state = .spraying then min max32 (s.water.sprayed + a) else s.water.sprayed
      copies := { s.water.copies with path := p, advance := a } }) h.mode (fun _ => h.prime) _
  case waterFailed g b =>
    refine s.water.rests_reevaluate (w := { s.water with
      prime := s.water.prime && !(b && !s.water.copies.primeFailed)
      copies := { s.water.copies with failed := g, primeFailed := b } }) h.mode (fun _ => ?_) _
    show (s.water.prime && _) = false
    rw [h.prime]
    exact Bool.false_and _
  case waterCut | waterProfile | waterCoefficient | waterGrant | waterImplements => exact h.takeCopies _ rfl
  case holderChanged d =>
    cases d
    case water => exact s.water.rests_reevaluate (w := s.water.defaults) h.mode (fun _ => h.prime) _
    all_goals cases hr
  all_goals cases hr

/-! ### Budget table -/

/-- No consumer has a demand, nor gets one by offering it. -/
structure Budget.Rests (b : Budget) : Prop where
  mode : b.mode.working = false
  demand : ∀ c, (b.rows.get c).demand = 0

theorem demandIn_of_not_working {m : Mode} (h : m.working = false) (c : Consumer) (n : Nat) : demandIn m c n = 0 := by
  cases m
  case halted | service => rfl
  all_goals cases h

theorem BudgetRows.demand_forMode (r : BudgetRows) (m : Mode) (c : Consumer) :
    ((r.forMode m).get c).demand = demandIn m c (r.get c).offered := by
  cases c <;> rfl

theorem BudgetRows.demand_ranked (r : BudgetRows) (l : List Consumer) (c : Consumer) :
    ((r.ranked l).get c).demand = (r.get c).demand := by
  cases c <;> rfl

theorem BudgetRows.demand_cleared (r : BudgetRows) (c : Consumer) : (r.cleared.get c).demand = 0 := by
  cases c <;> rfl

theorem Budget.Rests.recomputeFrom {b : Budget} (h : b.Rests) (old : BudgetRows) (now : Time) :
    (b.recomputeFrom old now).val.Rests := by
  refine ⟨h.mode, fun c => ?_⟩
  obtain ⟨-, hd, -, -⟩ := BudgetRows.walk_kept b.coefficients now b.rows.order b.ceiling b.rows c
  exact hd.trans (h.demand c)

theorem Budget.Rests.rederive {b : Budget} (h : b.Rests) (now : Time) : (b.rederive now).val.Rests := by
  unfold Budget.rederive
  dsimp only
  split
  · exact h
  · exact Budget.Rests.recomputeFrom (b := { b with ceiling := b.reserve - b.derate }) ⟨h.mode, h.demand⟩ _ _

/-- HALTED or SERVICE makes every demand 0. -/
theorem Budget.rests_takeMode (b : Budget) (now : Time) {m : Mode} (hm : m.working = false) :
    (b.takeMode now m).val.Rests := by
  have hr : { b with mode := m, rows := b.rows.forMode m }.Rests :=
    ⟨hm, fun c => (b.rows.demand_forMode m c).trans (demandIn_of_not_working hm _ _)⟩
  unfold Budget.takeMode
  dsimp only
  split
  · exact hr
  · exact hr.recomputeFrom _ _

theorem Budget.Rests.takeDemand {b : Budget} (h : b.Rests) (now : Time) (c : Consumer) (n : Nat) :
    (b.takeDemand now c n).val.Rests := by
  have hr : (b.offered c n).Rests := by
    refine ⟨h.mode, fun d => ?_⟩
    have hd := h.demand d
    have hn := demandIn_of_not_working h.mode c n
    cases c <;> cases d <;> first | exact hn | exact hd
  unfold Budget.takeDemand
  dsimp only
  split
  · exact hr
  · exact hr.recomputeFrom _ _

theorem Budget.Rests.takeRanks {b : Budget} (h : b.Rests) (now : Time) (l : List Consumer) :
    (b.takeRanks now l).val.Rests := by
  unfold Budget.takeRanks
  dsimp only
  split
  · exact h
  · exact Budget.Rests.recomputeFrom (b := { b with rows := b.rows.ranked l })
      ⟨h.mode, fun c => (b.rows.demand_ranked l c).trans (h.demand c)⟩ _ _

/-- A budget table at rest stays at rest until a working mode is offered. -/
theorem deliver_budget_rests {o : Offer} (ho : o.setsWorking = false) {s : State} (h : s.budget.Rests) :
    (deliver o s).budget.Rests := by
  by_cases hr : o.receiver = some .budget
  case neg => rwa [deliver_budget hr]
  cases o
  case budgetMode m => exact s.budget.rests_takeMode _ ho
  case budgetStart => cases ho
  case budgetRestart =>
    exact Budget.Rests.recomputeFrom (b := { s.budget with rows := s.budget.rows.cleared })
      ⟨h.mode, s.budget.rows.demand_cleared⟩ s.budget.rows _
  case budgetDerate n => exact Budget.Rests.rederive (b := { s.budget with derate := n }) ⟨h.mode, h.demand⟩ _
  case budgetRanks l => exact h.takeRanks _ l
  case demand c n => exact h.takeDemand _ c n
  case holderChanged d => cases d <;> cases hr
  all_goals cases hr

end Sys2Proof.Machine
end

section
/-! The machine at rest: what the offers that are then made ask of the valve chain driver, and the entry of HALTED and
SERVICE (02 R29, R36; log 41). -/

namespace Sys2Proof.Machine

/-! ### Quiet offers -/

/-- A minor offer that asks the valve chain driver for nothing. -/
def Offer.quiet : Offer → Bool
  | .chainLifts l r m => !l && !r && !m
  | .chainWater n p => n == 0 && !p
  | o => o.minor

/-- Quiet offers only. -/
def Quiets (out : List Offer) : Prop := ∀ o ∈ out, o.quiet = true

theorem Offer.minor_of_quiet {o : Offer} (h : o.quiet = true) : o.minor = true := by
  cases o
  case chainLifts | chainWater => rfl
  all_goals exact h

theorem Offer.quiet_of_minor {o : Offer} (h : o.minor = true) (hr : o.receiver ≠ some .chain) : o.quiet = true := by
  cases o
  case chainLifts | chainWater => exact absurd rfl hr
  all_goals exact h

theorem Offer.setsWorking_of_minor {o : Offer} (h : o.minor = true) : o.setsWorking = false := by
  cases o
  case post | postTo | demand | liftForReverse | governorImplements | waterImplements | modeImplements | chainLifts
      | chainWater | governorGrant | sequencerGrants | waterGrant => rfl
  all_goals cases h

theorem Quiets.nil : Quiets [] := List.forall_mem_nil _

theorem Quiets.append {l m : List Offer} (hl : Quiets l) (hm : Quiets m) : Quiets (l ++ m) :=
  fun o ho => (List.mem_append.1 ho).elim (hl o) (hm o)

theorem Quiets.offerIf {o : Offer} (h : o.quiet = true) (c : Bool) : Quiets (offerIf c o) := by
  cases c
  · exact .nil
  · exact fun x hx => by rwa [List.mem_singleton.1 hx]

theorem Notices.quiets {out : List Offer} (h : Notices out) : Quiets out := by
  intro o ho
  have := h o ho
  cases o
  case post | postTo => rfl
  case demand c n => rfl
  all_goals cases this

/-- Governor and budget table ask the valve chain driver for nothing. -/
theorem MadeBy.receiver_ne_chain {out : List Offer} {b : Maker} (hm : MadeBy b out) (hb : b = .governor ∨ b = .budget) :
    ∀ o ∈ out, o.receiver ≠ some .chain := by
  intro o ho hr
  have hmade := hm o ho
  obtain rfl | rfl := hb
  all_goals
    cases o
    case holderChanged d => cases d <;> cases hr
    case chainMode | chainRestart | chainLifts | chainWater => exact hmade.elim nofun nofun
    all_goals cases hr

theorem Minor.quiets {out : List Offer} (h : Minor out) {b : Maker} (hm : MadeBy b out)
    (hb : b = .governor ∨ b = .budget) : Quiets out :=
  fun o ho => Offer.quiet_of_minor (h o ho) (hm.receiver_ne_chain hb o ho)

/-! ### What is made at rest -/

theorem Sequencer.Rests.quiets_finish {p : Sequencer} (h : p.Rests) (old : Sequencer) (all : Bool) :
    Quiets (old.finish p all).out := by
  obtain ⟨-, hl, hr, hm, -⟩ := h.finish old all
  have hlifts : (Offer.chainLifts (old.finish p all).val.left.lift (old.finish p all).val.right.lift
      (old.finish p all).val.main.lift).quiet = true := by
    rw [hl.lift, hr.lift, hm.lift]
    rfl
  exact ((((Quiets.offerIf hlifts _).append (.offerIf rfl _)).append (.offerIf rfl _)).append (.offerIf rfl _)).append
    (((Quiets.offerIf rfl _).append (.offerIf rfl _)).append (.offerIf rfl _))

theorem Sequencer.Rests.quiets_event {p : Sequencer} (h : p.Rests) (old : Sequencer) (t : Moment) :
    Quiets (old.event p t).out := by
  unfold Sequencer.event
  rw [Sequencer.react_of_not_working h.mode]
  exact h.quiets_finish old false

theorem Sequencer.quiets_takeMode (q : Sequencer) (t : Moment) {m : Mode} (hm : m.working = false) :
    Quiets (q.takeMode t m).out := by
  unfold Sequencer.takeMode
  rw [if_neg (by simp [hm])]
  refine (q.left.runs_halt .left t).notices.quiets.append ((q.right.runs_halt .right t).notices.quiets.append ?_)
  exact Sequencer.Rests.quiets_finish (p := { q with
    mode := m, left := (q.left.halt .left t).val, right := (q.right.halt .right t).val, main := q.main.halt,
    regTimer := none }) ⟨hm, q.left.rests_halt _ _, q.right.rests_halt _ _, ⟨rfl, rfl, rfl⟩, rfl⟩ q false

theorem Water.quiets_reevaluate (old : Water) {w : Water} {now : Time} (h : (old.reevaluate w now).val.Rests) :
    Quiets (old.reevaluate w now).out := by
  have hask : (Offer.chainWater (old.reevaluate w now).val.nozzles (old.reevaluate w now).val.prime).quiet = true := by
    rw [h.nozzles, h.prime]
    rfl
  exact (Quiets.offerIf hask _).append (.offerIf rfl _)

/-- Minor offers of governor and budget table at rest. -/
theorem Governor.Runs.quiets {g : Governor} {e : Emit Governor} (h : g.Runs e) : Quiets e.out :=
  (h.made.minor (.inl rfl)).quiets h.made (.inl rfl)

/-! ### The machine at rest -/

/-- A valve chain driver that has every position off, and in SERVICE no position asked for. -/
structure Chain.Rests (c : Chain) : Prop where
  wanted : c.wanted = 0
  requested : c.mode ≠ .halted → c.requested = 0

/-- Nothing is driven and nothing is asked for. -/
structure State.Rests (s : State) : Prop where
  governor : s.governor.Idle
  sequencer : s.sequencer.Rests
  water : s.water.Rests
  budget : s.budget.Rests
  chain : s.chain.Rests

theorem Chain.wanted_recompose (c : Chain) : c.recompose.wanted = c.wantedNow := by
  unfold Chain.recompose Chain.wantRefresh
  dsimp only
  split
  next h => exact h.symm
  next => split <;> rfl

/-- Nothing is wanted in HALTED, nor when nothing is requested. -/
theorem Chain.rests_recompose {c : Chain} (h : c.mode ≠ .halted → c.requested = 0) : c.recompose.Rests := by
  obtain ⟨hm, -, -, hr⟩ := c.recompose_kept
  refine ⟨?_, fun hc => hr.trans (h (hm ▸ hc))⟩
  rw [Chain.wanted_recompose, Chain.wantedNow]
  split
  next => rfl
  next hc => rw [h hc]; exact BitVec.zero_and

theorem Chain.rests_takeMode {c : Chain} {m : Mode} (h : m = .halted ∨ m = .service ∧ c.mode ≠ .service) :
    (c.takeMode m).Rests := by
  refine Chain.rests_recompose fun hc => ?_
  obtain rfl | ⟨rfl, hs⟩ := h
  · exact absurd rfl hc
  · exact if_pos (by simp [hs])

theorem Chain.Rests.takeLifts {c : Chain} (h : c.Rests) : (c.takeLifts false false false).Rests :=
  Chain.rests_recompose fun hc => by
    show (c.requested &&& ~~~liftMask) ||| liftPattern false false false = 0
    rw [h.requested hc]
    rfl

theorem Chain.Rests.takeWater {c : Chain} (h : c.Rests) : (c.takeWater 0 false).Rests :=
  Chain.rests_recompose fun hc => by
    show (c.requested &&& liftMask) ||| waterPattern 0 false = 0
    rw [h.requested hc]
    rfl

theorem deliver_chain_rests {o : Offer} (ho : o.quiet = true) {s : State} (h : s.chain.Rests) :
    (deliver o s).chain.Rests := by
  by_cases hr : o.receiver = some .chain
  case neg => rwa [deliver_chain hr]
  cases o
  case chainLifts l r m =>
    simp only [Offer.quiet, Bool.and_eq_true, Bool.not_eq_true'] at ho
    obtain ⟨⟨rfl, rfl⟩, rfl⟩ := ho
    exact h.takeLifts
  case chainWater n p =>
    simp only [Offer.quiet, Bool.and_eq_true, Bool.not_eq_true', beq_iff_eq] at ho
    obtain ⟨rfl, rfl⟩ := ho
    exact h.takeWater
  case holderChanged d => cases d <;> cases hr
  case chainMode | chainRestart => cases ho
  all_goals cases hr

theorem deliver_rests {o : Offer} (ho : o.quiet = true) {s : State} (h : s.Rests) : (deliver o s).Rests := by
  have hw := Offer.setsWorking_of_minor (Offer.minor_of_quiet ho)
  exact ⟨deliver_idle hw h.governor, deliver_sequencer_rests hw h.sequencer, deliver_water_rests hw h.water,
    deliver_budget_rests hw h.budget, deliver_chain_rests ho h.chain⟩

/-- At rest quiet offers are answered with quiet offers. -/
theorem State.Rests.made {s : State} (h : s.Rests) (hm : s.mc.mode ≠ .stowing) {o : Offer} (ho : o.quiet = true) :
    ∃ out, (deliver o s).offers = s.offers ++ out ∧ Quiets out := by
  have hrests := deliver_rests ho h
  cases o
  case post | postTo | chainLifts | chainWater => exact ⟨[], (List.append_nil _).symm, .nil⟩
  case modeImplements l r m =>
    rw [deliver_modeImplements_of_mode hm]
    exact ⟨[], (List.append_nil _).symm, .nil⟩
  case demand c n =>
    exact ⟨_, rfl, (s.budget.minor_takeDemand _ c n).quiets (s.budget.runs_takeDemand _ c n).made (.inr rfl)⟩
  case governorGrant g =>
    exact ⟨_, rfl, (s.governor.runs_takeCopies s.mc.time { s.governor.copies with grant := g.grant }).quiets⟩
  case governorImplements r => exact ⟨_, rfl, (s.governor.runs_takeImplements s.mc.time r).quiets⟩
  case sequencerGrants m l r =>
    obtain ⟨hq, hl, hr, hb, ht⟩ := h.sequencer
    exact ⟨_, rfl, Sequencer.Rests.quiets_event (p := { s.sequencer with
      main := { s.sequencer.main with row := m }, left := { s.sequencer.left with row := l }
      right := { s.sequencer.right with row := r } })
      ⟨hq, ⟨hl.swing, hl.broom, hl.press, hl.lift, hl.motion, hl.timer⟩,
        ⟨hr.swing, hr.broom, hr.press, hr.lift, hr.motion, hr.timer⟩, ⟨hb.broom, hb.lift, hb.timer⟩, ht⟩ _ s.moment⟩
  case liftForReverse b =>
    obtain ⟨hq, hl, hr, hb, ht⟩ := h.sequencer
    exact ⟨_, rfl, Sequencer.Rests.quiets_event (p := { s.sequencer with liftForReverse := b })
      ⟨hq, hl, hr, hb, ht⟩ _ s.moment⟩
  case waterGrant | waterImplements => exact ⟨_, rfl, Water.quiets_reevaluate _ hrests.water⟩
  all_goals cases ho

/-- The machine stays at rest, in its mode, under quiet offers. -/
theorem closed_rests : Closed (fun o => o.quiet = true) (fun o => o.quiet = true)
    fun s => s.mc.mode ≠ .stowing ∧ s.Rests where
  sub _ := id
  setOffers _ _ h := ⟨h.1, h.2.governor, h.2.sequencer, h.2.water, h.2.budget, h.2.chain⟩
  keeps o s ho h :=
    ⟨closed_minor.keeps o s (Offer.minor_of_quiet ho) h.1, deliver_rests ho h.2⟩
  made _ _ ho h := h.2.made h.1 ho

theorem State.Rests.drivesNothing {s : State} (h : s.Rests) : s.drivesNothing :=
  ⟨h.governor.1.driveFwd, h.governor.1.driveRev,
    fun x => ⟨(h.sequencer.arm x).swing, (h.sequencer.arm x).broom, (h.sequencer.arm x).press⟩, h.sequencer.main.broom,
    h.water.pump, h.chain.wanted⟩

end Sys2Proof.Machine
end

section
/-! Entering a mode: every block takes it before anything that the blocks make of it (02 R29, R33, R34, R36; log 41). -/

namespace Sys2Proof.Machine

/-! ### The mode at every block -/

/-- Every block but the scanner has taken a mode; what they make of it waits behind `rest`. -/
def State.takesMode (s : State) (m : Mode) (rest : List Offer) : State :=
  let q := s.sequencer.takeMode s.moment m
  let g := s.governor.takeMode s.mc.time m
  let w := s.water.takeMode s.mc.time m
  let b := s.budget.takeMode s.mc.time m
  (((((s.setSequencer q.val).setGovernor g.val).setWater w.val).setBudget b.val).setChain (s.chain.takeMode m)).setOffers
    ((((rest ++ q.out) ++ g.out) ++ w.out) ++ b.out)

theorem State.takesMode_setOffers (s : State) (os : List Offer) (m : Mode) (rest : List Offer) :
    (s.setOffers os).takesMode m rest = s.takesMode m rest := by
  obtain ⟨_⟩ := s
  rfl

theorem State.settleN_modeOffers (n : Nat) {s : State} {m : Mode} {rest : List Offer}
    (h : s.offers = [.sequencerMode m, .governorMode m, .waterMode m, .budgetMode m, .chainMode m] ++ rest) :
    settleN (n + 5) s = settleN n (s.takesMode m rest) := by
  obtain ⟨_⟩ := s
  cases h
  rw [settleN_succ _ _ (.sequencerMode m) _ rfl, settleN_succ _ _ (.governorMode m) _ rfl,
    settleN_succ _ _ (.waterMode m) _ rfl, settleN_succ _ _ (.budgetMode m) _ rfl, settleN_succ _ _ (.chainMode m) _ rfl]
  rfl

/-- The mode controller has entered a mode, and the scanner has stopped at HALTED. -/
def State.modeSet (s : State) (m : Mode) (k : Cause) : State :=
  (s.setMc { s.mc with mode := m, lastChange := s.mc.time, lastCause := k }).setScanner
    (if m = .halted then s.scanner.halted else s.scanner)

/-- Every block has taken the new mode. -/
def State.entered (s : State) (m : Mode) (k : Cause) : State :=
  (s.modeSet m k).takesMode m [.post .modeChanged k.number m.number]

/-- The offers that every block but the scanner takes at a mode, and the notice. -/
def modeOffers (m : Mode) (k : Cause) : List Offer :=
  [.sequencerMode m, .governorMode m, .waterMode m, .budgetMode m, .chainMode m] ++
    [.post .modeChanged k.number m.number]

theorem State.settleN_modeSet (n : Nat) (s : State) (m : Mode) (k : Cause) :
    settleN (n + 5) ((s.modeSet m k).setOffers (modeOffers m k)) = settleN n (s.entered m k) := by
  rw [State.settleN_modeOffers n (s := (s.modeSet m k).setOffers (modeOffers m k)) (m := m)
    (rest := [.post .modeChanged k.number m.number]) rfl, State.takesMode_setOffers]
  rfl

theorem State.settle_enterMode {s : State} (ho : s.offers = []) (m : Mode) (k : Cause) :
    ∃ n, (s.withMc (s.mc.enterMode m k)).settle = settleN n (s.entered m k) := by
  by_cases hm : m = .halted
  · subst hm
    have he : (s.withMc (s.mc.enterMode .halted k)).offers = .scannerHalted :: modeOffers .halted k := by
      show s.offers ++ _ = _
      rw [ho]
      rfl
    refine ⟨994, ?_⟩
    show settleN (994 + 5 + 1) _ = _
    rw [settleN_succ _ _ _ _ he]
    exact State.settleN_modeSet 994 s .halted k
  · have hset : s.withMc (s.mc.enterMode m k) = (s.modeSet m k).setOffers (modeOffers m k) := by
      have hh : (m == .halted) = false := by simp [hm]
      unfold State.modeSet
      rw [if_neg hm]
      show (s.setMc _).setOffers (s.offers ++ (offerIf (m == .halted) .scannerHalted ++ modeOffers m k)) = _
      rw [ho, hh]
      rfl
    refine ⟨995, ?_⟩
    rw [hset]
    exact State.settleN_modeSet 995 s m k

/-! ### Entering HALTED or SERVICE -/

theorem State.entered_rests {s : State} {m : Mode} (k : Cause) (hm : m.working = false)
    (hc : m = .halted ∨ m = .service ∧ s.chain.mode ≠ .service) : (s.entered m k).Rests :=
  ⟨s.governor.idle_takeMode _ hm, s.sequencer.rests_takeMode _ hm, s.water.rests_takeMode _ hm,
    s.budget.rests_takeMode _ hm, Chain.rests_takeMode hc⟩

theorem Governor.quiets_takeMode (g : Governor) (now : Time) (m : Mode) : Quiets (g.takeMode now m).out := by
  obtain ⟨-, hmade, -⟩ := g.takeMode_told now m
  exact (hmade.minor (.inl rfl)).quiets hmade (.inl rfl)

theorem State.entered_quiets {s : State} {m : Mode} (k : Cause) (hm : m.working = false) :
    Quiets (s.entered m k).offers := by
  have hpost : Quiets [.post .modeChanged k.number m.number] := (Notices.post _ _ _).quiets
  have hq : Quiets (s.sequencer.takeMode s.moment m).out := s.sequencer.quiets_takeMode _ hm
  have hg : Quiets (s.governor.takeMode s.mc.time m).out := s.governor.quiets_takeMode _ m
  have hw : Quiets (s.water.takeMode s.mc.time m).out := Water.quiets_reevaluate _ (s.water.rests_takeMode _ hm)
  have hb : Quiets (s.budget.takeMode s.mc.time m).out :=
    (s.budget.minor_takeMode _ m).quiets (s.budget.runs_takeMode _ m).made (.inr rfl)
  exact (((hpost.append hq).append hg).append hw).append hb

/-- What the mode controller records of the entry of a mode. -/
def ModeController.entry (c : ModeController) : Mode × Cause × Time := (c.mode, c.lastCause, c.lastChange)

theorem deliver_entry {o : Offer} (ho : o.inner = true) {s : State} (hm : s.mc.mode ≠ .stowing) :
    (deliver o s).mc.entry = s.mc.entry := by
  obtain ⟨_, _, _, he⟩ := deliver_inner_mc ho hm
  rw [he]
  rfl

theorem Offer.receiver_of_minor {o : Offer} (h : o.minor = true) : o.receiver ≠ some .scanner := by
  intro hr
  cases o
  case holderChanged d => cases d <;> cases hr
  case scannerHalted | scannerStart | scannerRestart => cases h
  all_goals cases hr

theorem deliver_chain_mode {o : Offer} (ho : o.minor = true) (s : State) : (deliver o s).chain.mode = s.chain.mode := by
  by_cases hr : o.receiver = some .chain
  case neg => rw [deliver_chain hr]
  cases o
  case chainLifts | chainWater => exact (Chain.recompose_kept _).1
  case chainMode | chainRestart => cases ho
  case holderChanged d => cases d <;> cases hr
  all_goals cases hr

/-- HALTED or SERVICE is entered: nothing is driven, the mode controller has recorded the entry, and the scanner has
stopped or not been touched. -/
theorem State.settle_enterMode_rests {s : State} (ho : s.offers = []) {m : Mode} (k : Cause) (hm : m.working = false)
    (hc : m = .halted ∨ m = .service ∧ s.chain.mode ≠ .service) :
    (s.withMc (s.mc.enterMode m k)).settle.Rests ∧
      (s.withMc (s.mc.enterMode m k)).settle.mc.entry = (m, k, s.mc.time) ∧
      (s.withMc (s.mc.enterMode m k)).settle.scanner = (if m = .halted then s.scanner.halted else s.scanner) ∧
      (s.withMc (s.mc.enterMode m k)).settle.chain.mode = m := by
  obtain ⟨n, he⟩ := State.settle_enterMode ho m k
  have hstow : m ≠ .stowing := by rintro rfl; cases hm
  have hclosed := closed_rests.and
    (P := fun t => t.mc.entry = (m, k, s.mc.time) ∧
      t.scanner = (if m = .halted then s.scanner.halted else s.scanner) ∧ t.chain.mode = m)
    (fun _ _ => id) fun o t hq ht h =>
      ⟨(deliver_entry (Offer.inner_of_minor (Offer.minor_of_quiet hq)) ht.1).trans h.1,
        (deliver_scanner (Offer.receiver_of_minor (Offer.minor_of_quiet hq))).trans h.2.1,
        (deliver_chain_mode (Offer.minor_of_quiet hq) t).trans h.2.2⟩
  rw [he]
  have hmode : (s.entered m k).chain.mode = m := (Chain.recompose_kept _).1
  obtain ⟨⟨⟨-, hrests⟩, hentry, hscan, hchain⟩, -⟩ :=
    hclosed.settleN n (s.entered m k) ⟨⟨hstow, State.entered_rests k hm hc⟩, rfl, rfl, hmode⟩ (State.entered_quiets k hm)
  exact ⟨hrests, hentry, hscan, hchain⟩

/-- Entering a mode is an event of the mode controller's record alone, with the offers that follow. -/
theorem State.withMc_enterMode (s : State) (m : Mode) (k : Cause) :
    ∃ out, .post .modeChanged k.number m.number ∈ out ∧
      s.withMc (s.mc.enterMode m k) =
        (s.setMc { s.mc with mode := m, lastChange := s.mc.time, lastCause := k }).emit out :=
  ⟨_, ModeController.post_mem_enterMode _ _ _, rfl⟩

end Sys2Proof.Machine
end

section
/-! ESTOP (02 R28) and MODE(HALT) (02 R29, R32). -/

namespace Sys2Proof.Machine

/-! ### ESTOP -/

/-- The record once the ESTOP line is at its active level. -/
def ModeController.stopped (c : ModeController) : ModeController :=
  { c with estopLine := true, estopTimer := none, estopAsserted := true }

theorem ModeController.estopActive_of_released {c : ModeController} (ha : c.estopAsserted = false)
    (hm : c.mode ≠ .halted) : c.estopActive = c.stopped.enterMode .halted .estop := by
  unfold ModeController.estopActive
  dsimp only
  rw [if_neg (by simp [ha, hm])]
  rfl

theorem ModeController.estopActive_of_asserted {c : ModeController} (h : c.estopAsserted = true ∨ c.mode = .halted) :
    c.estopActive = .pure c.stopped := by
  unfold ModeController.estopActive
  dsimp only
  rw [if_pos (by simpa using h)]
  rfl

theorem ModeController.estopInactive_of_asserted {c : ModeController} (ha : c.estopAsserted = true)
    (hl : c.estopLine = true) : c.estopInactive = { c with estopLine := false, estopTimer := some (c.time + 20) } :=
  if_pos (by simp [ha, hl])

theorem ModeController.estopInactive_of_released {c : ModeController}
    (h : c.estopAsserted = false ∨ c.estopLine = false) : c.estopInactive = { c with estopLine := false } :=
  if_neg (by obtain h | h := h <;> simp [h])

theorem ModeController.estopReleased_of_due {c : ModeController} (ha : c.estopAsserted = true)
    (hl : c.estopLine = false) {e : Time} (ht : c.estopTimer = some e) (hr : reached c.time e = true) :
    c.estopReleased = { c with estopAsserted := false, estopTimer := none } :=
  if_pos (by simp [ha, hl, ht, due, hr])

theorem ModeController.estopReleased_of_not_due {c : ModeController}
    (h : c.estopLine = true ∨ c.estopTimer = none ∨ ∃ e, c.estopTimer = some e ∧ reached c.time e = false) :
    c.estopReleased = c := by
  refine if_neg ?_
  obtain h | h | ⟨e, he, hr⟩ := h
  · simp [h]
  · simp [h, due]
  · simp [he, due, hr]

end Sys2Proof.Machine

open Sys2Proof Sys2Proof.Machine

/-- Settles O15: the entry of HALTED puts every block to rest; the other levels of the line change the mode controller's
record alone. -/
theorem emergencyStopHalts : Obligations.EmergencyStopHalts := by
  intro s ho
  refine ⟨fun ha hm => ?_, fun h => ?_, fun ha hl => ?_, fun h => ?_, fun e ha hl ht hr => ?_, fun h => ?_⟩
  · obtain ⟨hrests, hentry, -, -⟩ := State.settle_enterMode_rests (s := s.setMc s.mc.stopped) ho .estop (m := .halted) rfl
      (.inl rfl)
    obtain ⟨out, hpost, hout⟩ := (s.setMc s.mc.stopped).withMc_enterMode .halted .estop
    obtain ⟨hconf, hstand⟩ := State.settle_kept
      ((s.setMc s.mc.stopped).withMc ((s.setMc s.mc.stopped).mc.enterMode .halted .estop))
    simp only [ModeController.entry, Prod.mk.injEq] at hentry
    obtain ⟨hmode, hcause, hchange⟩ := hentry
    simp only [State.standing, Standing.mk.injEq, Prod.mk.injEq] at hstand
    obtain ⟨-, -, -, -, -, htime, hclaims, ⟨hsoft, hhard⟩, ⟨has, hline, htimer⟩, -⟩ := hstand
    refine ⟨_, ?_, hmode, hcause, hchange, has, hline, htimer, hrests.drivesNothing, hconf, hclaims, hsoft, hhard, htime,
      out, hpost, congrArg State.settle hout⟩
    show Host.Outcome.next (s.withMc s.mc.estopActive).settle = _
    rw [ModeController.estopActive_of_released ha hm]
    rfl
  · show Host.Outcome.next (s.withMc s.mc.estopActive).settle = _
    rw [ModeController.estopActive_of_asserted h, State.withMc_pure, State.settle_of_offers_nil]
    · rfl
    · exact ho
  · exact congrArg (fun c => Host.Outcome.next (s.setMc c)) (ModeController.estopInactive_of_asserted ha hl)
  · exact congrArg (fun c => Host.Outcome.next (s.setMc c)) (ModeController.estopInactive_of_released h)
  · exact congrArg (fun c => Host.Outcome.next (s.setMc c)) (ModeController.estopReleased_of_due ha hl ht hr)
  · exact congrArg (fun c => Host.Outcome.next (s.setMc c)) (ModeController.estopReleased_of_not_due h)

namespace Sys2Proof.Machine

/-! ### MODE -/

theorem State.classOf_ne_of_ne {s : State} {p : Port} {c : AuthorityClass} (h : (s.port p).authority ≠ c) :
    s.classOf p ≠ c := h

theorem modeHaltBody_of_halted {s : State} {p : Port} (hc : (s.port p).authority = .operator) (hm : s.mc.mode = .halted) :
    modeHaltBody p s = (s, ⟨.ok, [0]⟩) := by
  unfold modeHaltBody
  rw [if_neg (by simpa [State.classOf] using hc), if_pos hm, modeReply, hm]
  rfl

theorem modeHaltBody_of_not_halted {s : State} {p : Port} (hc : (s.port p).authority = .operator)
    (hm : s.mc.mode ≠ .halted) : modeHaltBody p s = modeReply (s.changeMode .halted) := by
  unfold modeHaltBody
  rw [if_neg (by simpa [State.classOf] using hc), if_neg hm]

end Sys2Proof.Machine

/-- Settles O16: HALTED is entered with every block at rest. -/
theorem modeHaltStopsTheMachine : Obligations.ModeHaltStopsTheMachine := by
  intro p tag s h hclass
  refine ⟨fun hm => exec_of_body .mode rfl h (modeHaltBody_of_halted hclass hm), fun hm ho => ?_⟩
  obtain ⟨hrests, hentry, hscan, -⟩ := State.settle_enterMode_rests ho (m := .halted) .mode rfl (.inl rfl)
  obtain ⟨out, hpost, hout⟩ := s.withMc_enterMode .halted .mode
  simp only [ModeController.entry, Prod.mk.injEq] at hentry
  obtain ⟨hmode, hcause, hchange⟩ := hentry
  have hkept : Kept s (s.changeMode .halted) := Kept.trans (t := s.withMc (s.mc.enterMode .halted .mode)) ⟨rfl, rfl⟩
    (State.settle_kept _)
  have hbody : modeHaltBody p s = (s.changeMode .halted, ⟨.ok, [0]⟩) := by
    rw [modeHaltBody_of_not_halted hclass hm, modeReply, show (s.changeMode .halted).mc.mode = .halted from hmode]
    rfl
  obtain ⟨⟨-, hcmd, -, -, hreq, hlease, hstate, hcut, hlift, -, hblocked, -, -, hramp⟩, -⟩ := hrests.governor
  have hlive : (s.changeMode .halted).scanner = s.scanner.halted := hscan
  exact ⟨_, exec_of_body .mode rfl h hbody, hkept, hmode, hcause, hchange, hrests.drivesNothing, hreq, hcmd, hstate, hlease,
    hcut, hlift, hblocked, hramp, by rw [hlive]; rfl, by rw [hlive]; rfl, by rw [hlive]; rfl, hrests.budget.demand,
    hrests.water.state, fun x => ⟨(hrests.sequencer.arm x).motion, (hrests.sequencer.arm x).timer⟩,
    hrests.sequencer.regTimer, out, hpost, congrArg State.settle hout⟩
end

section
/-! MODE(SWEEP), MODE(TRANSPORT), MODE(SERVICE) and the stow run (02 R32 to R36). -/

namespace Sys2Proof.Machine

/-! ### The bodies of MODE -/

section
variable {s : State} {p : Port}

theorem modeHaltBody_of_class (h : (s.port p).authority ≠ .operator) : modeHaltBody p s = (s, ⟨.notPermitted, []⟩) :=
  if_pos h

theorem modeTransportBody_of_class (h : (s.port p).authority ≠ .operator) :
    modeTransportBody p s = (s, ⟨.notPermitted, []⟩) :=
  if_pos h

theorem modeSweepBody_of_class (h : (s.port p).authority ≠ .operator) :
    modeSweepBody p s = (s, ⟨.notPermitted, []⟩) :=
  if_pos h

theorem modeServiceBody_of_class (h : (s.port p).authority ≠ .service) :
    modeServiceBody p s = (s, ⟨.notPermitted, []⟩) :=
  if_pos h

theorem modeReply_of_mode {m : Mode} (hm : s.mc.mode = m) : modeReply s = (s, ⟨.ok, [byte m.number]⟩) := by
  rw [modeReply, hm]
  rfl

theorem modeTransportBody_of_configurable (hc : (s.port p).authority = .operator)
    (hm : s.mc.mode = .halted ∨ s.mc.mode = .service) : modeTransportBody p s = (s, ⟨.wrongMode, []⟩) := by
  refine (if_neg (not_not.2 hc)).trans ?_
  obtain hm | hm := hm <;> (rw [hm]; rfl)

theorem modeTransportBody_of_transport (hc : (s.port p).authority = .operator)
    (hm : s.mc.mode = .transport ∨ s.mc.mode = .stowing) :
    modeTransportBody p s = (s, ⟨.ok, [byte s.mc.mode.number]⟩) := by
  refine ((if_neg (not_not.2 hc)).trans ?_).trans (modeReply_of_mode rfl)
  obtain hm | hm := hm <;> rw [hm]

theorem modeTransportBody_of_sweep (hc : (s.port p).authority = .operator) (hm : s.mc.mode = .sweep) :
    modeTransportBody p s =
      if s.mc.holds p .travel then
        modeReply ((s.changeMode .stowing).withMc (s.changeMode .stowing).mc.stowTest).settle
      else (s, ⟨.notHolder, []⟩) := by
  refine (if_neg (not_not.2 hc)).trans ?_
  rw [hm]
  rfl

theorem modeSweepBody_of_configurable (hc : (s.port p).authority = .operator)
    (hm : s.mc.mode = .halted ∨ s.mc.mode = .service) : modeSweepBody p s = (s, ⟨.wrongMode, []⟩) := by
  refine (if_neg (not_not.2 hc)).trans ?_
  obtain hm | hm := hm <;> (rw [hm]; rfl)

theorem modeSweepBody_of_sweep (hc : (s.port p).authority = .operator) (hm : s.mc.mode = .sweep) :
    modeSweepBody p s = (s, ⟨.ok, [2]⟩) := by
  refine ((if_neg (not_not.2 hc)).trans ?_).trans (modeReply_of_mode hm)
  rw [hm]

theorem modeSweepBody_of_transport (hc : (s.port p).authority = .operator)
    (hm : s.mc.mode = .transport ∨ s.mc.mode = .stowing) :
    modeSweepBody p s =
      if !s.mc.holds p .travel then (s, ⟨.notHolder, []⟩)
      else if s.selector.activeRow.speedCap < s.governor.command.natAbs then (s, ⟨.notReady, []⟩)
      else modeReply (s.changeMode .sweep) := by
  refine (if_neg (not_not.2 hc)).trans ?_
  obtain hm | hm := hm <;> (rw [hm]; rfl)

theorem modeServiceBody_of_halted (hc : (s.port p).authority = .service) (hm : s.mc.mode = .halted) :
    modeServiceBody p s = (s, ⟨.wrongMode, []⟩) := by
  refine (if_neg (not_not.2 hc)).trans ?_
  rw [hm]
  rfl

theorem modeServiceBody_of_service (hc : (s.port p).authority = .service) (hm : s.mc.mode = .service) :
    modeServiceBody p s = (s, ⟨.ok, [4]⟩) := by
  refine ((if_neg (not_not.2 hc)).trans ?_).trans (modeReply_of_mode hm)
  rw [hm]

theorem modeServiceBody_of_working (hc : (s.port p).authority = .service) (hh : s.mc.mode ≠ .halted)
    (hs : s.mc.mode ≠ .service) :
    modeServiceBody p s =
      if s.governor.state = .standstill then modeReply (s.changeMode .service) else (s, ⟨.wrongMode, []⟩) := by
  refine (if_neg (not_not.2 hc)).trans ?_
  cases hm : s.mc.mode
  case halted => exact absurd hm hh
  case service => exact absurd hm hs
  all_goals rfl

theorem modeBody_of_ge {n : Nat} (h : 4 ≤ n) (p : Port) (s : State) : modeBody p n s = (s, ⟨.badValue, []⟩) := by
  obtain ⟨n, rfl⟩ := Nat.exists_eq_add_of_le' h
  rfl

theorem ModeController.holds_eq_false {c : ModeController} {d : Domain} (h : (c.claims.get d).holder ≠ some p) :
    c.holds p d = false := by
  rw [← Bool.not_eq_true, ModeController.holds_iff]
  exact h

end

/-! ### Entering a mode in which no stow can complete -/

theorem Offer.inner_of_mem_modeOffers {m : Mode} {k : Cause} : ∀ o ∈ modeOffers m k, o.inner = true := by
  simp [modeOffers, Offer.inner]

theorem ModeController.enterMode_of_not_halted (c : ModeController) {m : Mode} (hm : m ≠ .halted) (k : Cause) :
    c.enterMode m k = ⟨{ c with mode := m, lastChange := c.time, lastCause := k }, modeOffers m k⟩ := by
  have hh : (m == .halted) = false := by simp [hm]
  show (⟨_, offerIf (m == .halted) .scannerHalted ++ modeOffers m k⟩ : Emit ModeController) = _
  rw [hh]
  rfl

theorem State.settle_enterMode_entry {s : State} (ho : s.offers = []) {m : Mode} (k : Cause) (hm : m ≠ .halted)
    (hs : m ≠ .stowing) : (s.withMc (s.mc.enterMode m k)).settle.mc.entry = (m, k, s.mc.time) := by
  have hclosed := closed_inner.and (P := fun t => t.mc.entry = (m, k, s.mc.time)) (fun _ _ => id)
    fun o t hi ht h => (deliver_entry hi ht).trans h
  have hin : ∀ x ∈ (s.withMc (s.mc.enterMode m k)).offers, x.inner = true := by
    rw [ModeController.enterMode_of_not_halted _ hm]
    show ∀ x ∈ s.offers ++ modeOffers m k, _
    rw [ho]
    exact Offer.inner_of_mem_modeOffers
  exact (hclosed.settle (s := s.withMc (s.mc.enterMode m k)) ⟨hs, rfl⟩ hin).1.2

theorem State.changeMode_kept (s : State) (m : Mode) : Kept s (s.changeMode m) :=
  Kept.trans (t := s.withMc (s.mc.enterMode m .mode)) ⟨rfl, rfl⟩ (State.settle_kept _)

/-! ### The stow run -/

/-- STOWING was entered at a time by MODE, and has perhaps been completed. -/
def ModeController.Stows (now : Time) (c : ModeController) : Prop :=
  c.time = now ∧ (c.entry = (.stowing, .mode, now) ∨ c.entry = (.transport, .stowDone, now))

/-- A stow-completion test enters TRANSPORT or finds that the stow goes on. -/
theorem ModeController.Stows.stowTest {now : Time} {c : ModeController} (h : c.Stows now) :
    c.stowTest.val.Stows now ∧ ¬ c.stowTest.val.stowHolds ∧ ∀ x ∈ c.stowTest.out, x.inner = true := by
  by_cases hs : c.stowHolds
  · rw [ModeController.stowTest_of_holds hs, ModeController.enterMode_of_not_halted (m := .transport) _ nofun]
    obtain ⟨ht, -⟩ := h
    refine ⟨⟨ht, .inr ?_⟩, fun hold => ?_, Offer.inner_of_mem_modeOffers⟩
    · rw [← ht]
      rfl
    · cases hold.1
  · rw [ModeController.stowTest_of_not_holds hs]
    exact ⟨h, hs, List.forall_mem_nil _⟩

/-- New copies of the implement states. -/
theorem ModeController.Stows.withImplements {now : Time} {c : ModeController} (h : c.Stows now) (l r : ArmState)
    (m : BroomState) : { c with armL := l, armR := r, main := m }.Stows now := h

/-- While the stow runs, inner offers are answered with inner offers, and the test is made at each new state. -/
theorem deliver_stows {now : Time} {o : Offer} (ho : o.inner = true) {s : State} (h : s.mc.Stows now) :
    (deliver o s).mc.Stows now ∧ (¬ s.mc.stowHolds → ¬ (deliver o s).mc.stowHolds) ∧
      ∃ out, (deliver o s).offers = s.offers ++ out ∧ ∀ x ∈ out, x.inner = true := by
  by_cases hr : o.receiver = some .modeController
  · cases o
    case modeImplements l r m =>
      obtain ⟨hs, hn, hout⟩ := (h.withImplements l r m).stowTest
      exact ⟨hs, fun _ => hn, _, rfl, hout⟩
    case haltOutput => cases ho
    case holderChanged d => cases d <;> cases hr
    all_goals cases hr
  · obtain ⟨out, he, hm⟩ := deliver_minor_of_receiver ho hr s
    have hmc := deliver_mc (s := s) hr
    exact ⟨hmc ▸ h, fun hn => hmc ▸ hn, out, he, fun x hx => Offer.inner_of_minor (hm x hx)⟩

theorem closed_stows (now : Time) :
    Closed (fun o => o.inner = true) (fun o => o.inner = true) fun s => s.mc.Stows now where
  sub _ := id
  setOffers _ _ := id
  keeps _ _ ho h := (deliver_stows ho h).1
  made _ _ ho h := (deliver_stows ho h).2.2

/-- MODE(TRANSPORT) from SWEEP: STOWING is entered, or the stow is complete at once. -/
theorem State.settle_stowing {s : State} (ho : s.offers = []) :
    let u := s.changeMode .stowing
    let t := (u.withMc u.mc.stowTest).settle
    t.mc.Stows s.mc.time ∧ ¬ t.mc.stowHolds := by
  intro u t
  have hin : ∀ x ∈ (s.withMc (s.mc.enterMode .stowing .mode)).offers, x.inner = true := by
    show ∀ x ∈ s.offers ++ _, _
    rw [ho]
    exact Offer.inner_of_mem_modeOffers (m := .stowing) (k := .mode)
  obtain ⟨hu, huo⟩ := (closed_stows s.mc.time).settle (s := s.withMc (s.mc.enterMode .stowing .mode))
    ⟨rfl, .inl rfl⟩ hin
  obtain ⟨hs, hn, hout⟩ := hu.stowTest
  have hclosed := (closed_stows s.mc.time).and (P := fun t => ¬ t.mc.stowHolds) (fun _ _ => id)
    fun o t hi ht hn => (deliver_stows hi ht).2.1 hn
  exact (hclosed.settle (s := u.withMc u.mc.stowTest) ⟨hs, hn⟩ fun x hx =>
    (List.mem_append.1 hx).elim (huo x) (hout x)).1

end Sys2Proof.Machine

open Sys2Proof Sys2Proof.Machine

/-- Settles O17: the refusals by the bodies of MODE; the entries by what the offers that follow leave of the mode
controller's record, and SERVICE by what every block at rest is. -/
theorem modeRequestsAreCheckedAndChangeTheMode : Obligations.ModeRequestsAreCheckedAndChangeTheMode := by
  refine ⟨fun p tag s h => ⟨fun hc c hmem => ?_, fun hc => ?_, fun hc => ⟨fun hm => ⟨?_, ?_⟩, fun hm => ?_, fun hm => ?_,
    fun hm hh => ?_, fun hm hh => ?_, fun hm hh hcap => ?_⟩, fun hc => ⟨fun hm => ?_, fun hm => ?_⟩,
    fun target ht hstate hrec => ?_⟩, fun p tag s h hstep => ⟨fun hc hh => ⟨fun hm hcap => ?_, fun hm => ?_⟩,
    fun hc hnh hns hstand => ?_⟩⟩
  · simp only [List.mem_cons, List.not_mem_nil, or_false] at hmem
    obtain rfl | rfl | rfl := hmem
    · exact exec_of_body .mode rfl h (modeHaltBody_of_class hc)
    · exact exec_of_body .mode rfl h (modeTransportBody_of_class hc)
    · exact exec_of_body .mode rfl h (modeSweepBody_of_class hc)
  · exact exec_of_body .mode rfl h (modeServiceBody_of_class hc)
  · exact exec_of_body .mode rfl h (modeSweepBody_of_configurable hc hm)
  · exact exec_of_body .mode rfl h (modeTransportBody_of_configurable hc hm)
  · exact exec_of_body .mode rfl h (modeSweepBody_of_sweep hc hm)
  · exact exec_of_body .mode rfl h (modeTransportBody_of_transport hc hm)
  · exact exec_of_body .mode rfl h ((modeTransportBody_of_sweep hc hm).trans
      (if_neg (by simp [ModeController.holds_eq_false hh])))
  · exact exec_of_body .mode rfl h ((modeSweepBody_of_transport hc hm).trans
      (if_pos (by simp [ModeController.holds_eq_false hh])))
  · exact exec_of_body .mode rfl h (((modeSweepBody_of_transport hc hm).trans
      (if_neg (by simp [ModeController.holds_iff.2 hh]))).trans (if_pos hcap))
  · obtain hm | ⟨hm, hstand⟩ := hm
    · exact exec_of_body .mode rfl h (modeServiceBody_of_halted hc hm)
    · by_cases hh : s.mc.mode = .halted
      · exact exec_of_body .mode rfl h (modeServiceBody_of_halted hc hh)
      · exact exec_of_body .mode rfl h ((modeServiceBody_of_working hc hh hm).trans (if_neg hstand))
  · exact exec_of_body .mode rfl h (modeServiceBody_of_service hc hm)
  · exact exec_frameEnd_of_refused (k := .mode) (payload := [target]) (by simp) hrec h hstate
      fun t => modeBody_of_ge ht p t
  · obtain ⟨ho, -⟩ := hstep
    have hentry := State.settle_enterMode_entry ho (m := .sweep) .mode nofun nofun
    simp only [ModeController.entry, Prod.mk.injEq] at hentry
    obtain ⟨hmode, hcause, hchange⟩ := hentry
    obtain ⟨out, hpost, hout⟩ := s.withMc_enterMode .sweep .mode
    exact ⟨s.changeMode .sweep, exec_of_body .mode rfl h ((((modeSweepBody_of_transport hc hm).trans
      (if_neg (by simp [ModeController.holds_iff.2 hh]))).trans (if_neg (Nat.not_lt.2 hcap))).trans
      (modeReply_of_mode hmode)), s.changeMode_kept _, hmode, hcause, hchange, out, hpost, congrArg State.settle hout⟩
  · obtain ⟨ho, -⟩ := hstep
    obtain ⟨⟨-, hentry⟩, hn⟩ := State.settle_stowing ho
    obtain ⟨out, hpost, hout⟩ := s.withMc_enterMode .stowing .mode
    simp only [ModeController.entry, Prod.mk.injEq] at hentry
    have hkept : Kept s ((s.changeMode .stowing).withMc (s.changeMode .stowing).mc.stowTest).settle :=
      (((s.changeMode_kept .stowing).trans (Kept.setMc _ _ (ModeController.record_stowTest _))).trans
        (Kept.emit _ _)).trans (State.settle_kept _)
    exact ⟨_, exec_of_body .mode rfl h (((modeTransportBody_of_sweep hc hm).trans
      (if_pos (ModeController.holds_iff.2 hh))).trans (modeReply_of_mode rfl)), hkept,
      hentry.elim (fun h => h.2.2) fun h => h.2.2,
      hentry.imp (fun hs => ⟨hs.1, hs.2.1, fun hd => hn ⟨hs.1, hd⟩⟩) fun hs => ⟨hs.1, hs.2.1⟩,
      s.changeMode .stowing, out, hpost, congrArg State.settle hout, rfl⟩
  · obtain ⟨ho, -, -, -, -, hchain⟩ := hstep
    obtain ⟨hrests, hentry, hscan, hchainMode⟩ := State.settle_enterMode_rests ho (m := .service) .mode rfl
      (.inr ⟨rfl, hchain ▸ hns⟩)
    simp only [ModeController.entry, Prod.mk.injEq] at hentry
    obtain ⟨hmode, hcause, hchange⟩ := hentry
    obtain ⟨out, hpost, hout⟩ := s.withMc_enterMode .service .mode
    have hreq := hrests.chain.requested (by rw [hchainMode]; nofun)
    exact ⟨s.changeMode .service, exec_of_body .mode rfl h (((modeServiceBody_of_working hc hnh hns).trans
      (if_pos hstand)).trans (modeReply_of_mode hmode)),
      s.changeMode_kept _, hmode, hcause, hchange, hrests.drivesNothing, (congrArg (·.ceiling) hrests.governor.2).symm,
      hrests.budget.demand, hrests.water.state, hreq, hscan, out, hpost, congrArg State.settle hout⟩
end

section
/-! OUTPUT (02 R37): the checks, the target that is driven, and what the minor offers of SERVICE leave alone. -/

namespace Sys2Proof.Machine

/-! ### The checks -/

section
variable {n : Nat} {v : Int} {s : State}

theorem OutputTarget.ofNumber_of_ge (h : 26 ≤ n) : OutputTarget.ofNumber n = none := by
  unfold OutputTarget.ofNumber
  split
  case h_15 => exact dif_neg (by omega)
  all_goals omega

/-- The targets 0 to 25 by their numbers. -/
theorem OutputTarget.ofNumber_of_le (h : n ≤ 25) :
    ∃ x, OutputTarget.ofNumber n = some x ∧ (n ≤ 1 ∨ 9 ≤ n ∧ n ≤ 21 → x.reachable = false) := by
  interval_cases n
  all_goals exact ⟨_, rfl, by decide⟩

theorem outputBody_of_ge (h : 26 ≤ n) : outputBody n v s = (s, ⟨.badValue, []⟩) := by
  unfold outputBody
  rw [OutputTarget.ofNumber_of_ge h]
  rfl

variable {x : OutputTarget}

/-- The checks after the target number, in their order. -/
theorem outputBody_of_target (hx : OutputTarget.ofNumber n = some x) :
    outputBody n v s =
      if s.mc.mode ≠ .service then (s, ⟨.wrongMode, []⟩)
      else if !x.reachable then (s, ⟨.notPermitted, []⟩)
      else if !x.accepts v then (s, ⟨.badValue, []⟩)
      else if s.chain.targetFailed x then (s, ⟨.notReady, []⟩)
      else (s.setOutput x v, ⟨.ok, []⟩) := by
  unfold outputBody
  rw [hx]
  rfl

theorem outputBody_of_mode (hx : OutputTarget.ofNumber n = some x) (hm : s.mc.mode ≠ .service) :
    outputBody n v s = (s, ⟨.wrongMode, []⟩) :=
  (outputBody_of_target hx).trans (if_pos hm)

theorem outputBody_of_unreachable (hx : OutputTarget.ofNumber n = some x) (hm : s.mc.mode = .service)
    (hr : x.reachable = false) : outputBody n v s = (s, ⟨.notPermitted, []⟩) := by
  rw [outputBody_of_target hx, if_neg (not_not.2 hm), if_pos (by simp [hr])]

theorem outputBody_of_value (hx : OutputTarget.ofNumber n = some x) (hm : s.mc.mode = .service)
    (hr : x.reachable = true) (ha : x.accepts v = false) : outputBody n v s = (s, ⟨.badValue, []⟩) := by
  rw [outputBody_of_target hx, if_neg (not_not.2 hm), if_neg (by simp [hr]), if_pos (by simp [ha])]

theorem outputBody_of_failed (hx : OutputTarget.ofNumber n = some x) (hm : s.mc.mode = .service)
    (hr : x.reachable = true) (ha : x.accepts v = true) (hf : s.chain.targetFailed x = true) :
    outputBody n v s = (s, ⟨.notReady, []⟩) := by
  rw [outputBody_of_target hx, if_neg (not_not.2 hm), if_neg (by simp [hr]), if_neg (by simp [ha]), if_pos hf]

theorem outputBody_of_accepted (hx : OutputTarget.ofNumber n = some x) (hm : s.mc.mode = .service)
    (hr : x.reachable = true) (ha : x.accepts v = true) (hf : s.chain.targetFailed x = false) :
    outputBody n v s = (s.setOutput x v, ⟨.ok, []⟩) := by
  rw [outputBody_of_target hx, if_neg (not_not.2 hm), if_neg (by simp [hr]), if_neg (by simp [ha]),
    if_neg (by simp [hf])]

end

/-! ### What minor offers leave alone in SERVICE -/

/-- Mode, coils and LIFT values of the sequencer. -/
def Sequencer.driven (q : Sequencer) :
    Mode × (Nat × Int × Nat × Bool) × (Nat × Int × Nat × Bool) × Nat × Bool :=
  (q.mode, (q.left.broom, q.left.swing, q.left.press, q.left.lift),
    (q.right.broom, q.right.swing, q.right.press, q.right.lift), q.main.broom, q.main.lift)

theorem Sequencer.driven_finish {p : Sequencer} (h : p.mode.working = false) (old : Sequencer) (all : Bool) :
    (old.finish p all).val.driven = p.driven := by
  have hd : p.drive = p := by
    unfold Sequencer.drive
    rw [if_neg (by simp [h])]
  show p.drive.takeDemands.driven = _
  rw [hd]
  rfl

theorem Sequencer.driven_event {p : Sequencer} (h : p.mode.working = false) (old : Sequencer) (t : Moment) :
    (old.event p t).val.driven = p.driven := by
  unfold Sequencer.event
  rw [Sequencer.react_of_not_working h]
  exact Sequencer.driven_finish h old false

/-- A machine in SERVICE, by its blocks' copies. -/
structure State.Serves (s : State) : Prop where
  mode : s.mc.mode ≠ .stowing
  sequencer : s.sequencer.mode = .service
  governor : s.governor.copies.mode = .service
  water : s.water.copies.mode = .service

theorem deliver_driven {o : Offer} (ho : o.minor = true) {s : State} (h : s.sequencer.mode = .service) :
    (deliver o s).sequencer.driven = s.sequencer.driven := by
  have hw : s.sequencer.mode.working = false := by rw [h]; rfl
  by_cases hr : o.receiver = some .sequencer
  case neg => rw [deliver_sequencer hr]
  cases o
  case sequencerGrants m l r =>
    exact Sequencer.driven_event (p := { s.sequencer with
      main := { s.sequencer.main with row := m }, left := { s.sequencer.left with row := l }
      right := { s.sequencer.right with row := r } }) hw _ s.moment
  case liftForReverse b =>
    exact Sequencer.driven_event (p := { s.sequencer with liftForReverse := b }) hw _ s.moment
  case holderChanged d =>
    cases d
    case implements => cases ho
    all_goals cases hr
  all_goals first | exact absurd ho Bool.false_ne_true | cases hr

/-- A governor in SERVICE or HALTED with a command of 0 and given drive coils. -/
structure Governor.Parks (fwd rev : Nat) (g : Governor) : Prop where
  mode : g.copies.mode.working = false
  command : g.command = 0
  driveFwd : g.driveFwd = fwd
  driveRev : g.driveRev = rev

section
variable {fwd rev : Nat} {g : Governor}

theorem Governor.Parks.withCopies (h : g.Parks fwd rev) {c : TravelCopies} (hm : c.mode = g.copies.mode) :
    { g with copies := c }.Parks fwd rev :=
  ⟨by rw [hm]; exact h.mode, h.command, h.driveFwd, h.driveRev⟩

theorem Governor.Parks.rederive (h : g.Parks fwd rev) (now : Time) : (g.rederive now).val.Parks fwd rev := by
  have hcut : (g.takeCeiling.cut now).takeCeiling = { g with ceiling := 0, limiting := .mode } := by
    rw [Governor.takeCeiling_of_not_working h.mode, Governor.cut, if_neg (by simp [h.command])]
    exact Governor.takeCeiling_of_not_working h.mode
  have hp : (g.takeCeiling.cut now).takeCeiling.Parks fwd rev := by
    rw [hcut]
    exact ⟨h.mode, h.command, h.driveFwd, h.driveRev⟩
  exact ⟨hp.mode, hp.command, hp.driveFwd, hp.driveRev⟩

theorem Governor.Parks.beginTest (h : g.Parks fwd rev) : g.beginTest.Parks fwd rev := by
  unfold Governor.beginTest
  repeat' split
  all_goals exact ⟨h.mode, h.command, h.driveFwd, h.driveRev⟩

theorem Governor.Parks.blockReverse (h : g.Parks fwd rev) (n : Nat) : (g.blockReverse n).val.Parks fwd rev :=
  ⟨h.mode, h.command, h.driveFwd, h.driveRev⟩

theorem Governor.Parks.takeImplements (h : g.Parks fwd rev) (now : Time) (r : ImplementReport) :
    (g.takeImplements now r).val.Parks fwd rev := by
  have hc := (h.withCopies (c := { g.copies with implements := r }) rfl).rederive now
  unfold Governor.takeImplements
  dsimp only [Emit.andThen]
  split
  · exact (hc.blockReverse 1).rederive now
  · exact hc.beginTest.rederive now

end

theorem deliver_parks {fwd rev : Nat} {o : Offer} (ho : o.minor = true) {s : State} (h : s.governor.Parks fwd rev) :
    (deliver o s).governor.Parks fwd rev := by
  by_cases hr : o.receiver = some .governor
  case neg => rwa [deliver_governor hr]
  cases o
  case governorGrant g => exact (h.withCopies (c := { s.governor.copies with grant := g.grant }) rfl).rederive _
  case governorImplements r => exact h.takeImplements _ r
  case holderChanged d =>
    cases d
    case travel => cases ho
    all_goals cases hr
  all_goals first | exact absurd ho Bool.false_ne_true | cases hr

theorem Held.modes_take_of_minor (h : Held) {o : Offer} (ho : o.minor = true) :
    (h.take o).governor.mode = h.governor.mode ∧ (h.take o).water.mode = h.water.mode := by
  cases o
  case post | postTo | demand | liftForReverse | governorImplements | waterImplements | modeImplements | chainLifts
      | chainWater | governorGrant | sequencerGrants | waterGrant => exact ⟨rfl, rfl⟩
  all_goals cases ho

/-- The modes that the blocks hold stay under minor offers. -/
theorem deliver_serves {o : Offer} (ho : o.minor = true) {s : State} (h : s.Serves) : (deliver o s).Serves := by
  obtain ⟨hg, hw⟩ := s.held.modes_take_of_minor ho
  rw [← (deliver_takes o s).held] at hg hw
  exact ⟨closed_minor.keeps o s ho h.mode, (congrArg (·.1) (deliver_driven ho h.sequencer)).trans h.sequencer,
    hg.trans h.governor, hw.trans h.water⟩

/-- Outside SWEEP a re-evaluation leaves the water OFF. -/
theorem Water.off_reevaluate (old : Water) {w : Water} (h : w.copies.mode = .service) (now : Time) :
    (old.reevaluate w now).val.pump = 0 ∧ (old.reevaluate w now).val.nozzles = 0 ∧
      (old.reevaluate w now).val.prime = w.prime := by
  show (w.takeDuties.transit now).drive.pump = 0 ∧ (w.takeDuties.transit now).drive.nozzles = 0 ∧
    (w.takeDuties.transit now).drive.prime = w.prime
  rw [Water.transit_of_not_sweep (w := w.takeDuties) (by show w.copies.mode ≠ _; rw [h]; nofun)]
  refine ⟨rfl, rfl, ?_⟩
  show (if w.copies.mode = .service then w.prime else false) = w.prime
  rw [if_pos h]

theorem deliver_water_of_minor {o : Offer} (ho : o.minor = true) {s : State} (h : s.water.copies.mode = .service) :
    (deliver o s).water = s.water ∨
      (deliver o s).water.pump = 0 ∧ (deliver o s).water.nozzles = 0 ∧ (deliver o s).water.prime = s.water.prime := by
  by_cases hr : o.receiver = some .water
  case neg => exact .inl (deliver_water hr)
  right
  cases o
  case waterGrant r =>
    exact s.water.off_reevaluate (w := { s.water with copies := { s.water.copies with row := r } }) h _
  case waterImplements x y m =>
    exact s.water.off_reevaluate
      (w := { s.water with copies := { s.water.copies with armL := x, armR := y, main := m } }) h _
  case holderChanged d =>
    cases d
    case water => cases ho
    all_goals cases hr
  all_goals first | exact absurd ho Bool.false_ne_true | cases hr

theorem closed_serves : Closed (fun o => o.minor = true) (fun o => o.minor = true) State.Serves where
  sub _ := id
  setOffers _ _ h := ⟨h.mode, h.sequencer, h.governor, h.water⟩
  keeps _ _ ho h := deliver_serves ho h
  made o s ho h := closed_minor.made o s ho h.mode

/-- Coils, drives and pump under minor offers in SERVICE. -/
theorem State.Serves.settleN {s : State} (h : s.Serves) (hw : Minor s.offers) (n : Nat) :
    (Machine.settleN n s).sequencer.driven = s.sequencer.driven ∧
      (∀ fwd rev, s.governor.Parks fwd rev → (Machine.settleN n s).governor.Parks fwd rev) ∧
      (s.water.pump = 0 → (Machine.settleN n s).water.pump = 0) := by
  refine ⟨?_, fun fwd rev hp => ?_, fun hp => ?_⟩
  · exact ((closed_serves.and (P := fun t => t.sequencer.driven = s.sequencer.driven) (fun _ _ => id)
      fun o t ho ht he => (deliver_driven ho ht.sequencer).trans he).settleN n s ⟨h, rfl⟩ hw).1.2
  · exact ((closed_serves.and (P := fun t => t.governor.Parks fwd rev) (fun _ _ => id)
      fun o t ho _ hq => deliver_parks ho hq).settleN n s ⟨h, hp⟩ hw).1.2
  · refine ((closed_serves.and (P := fun t => t.water.pump = 0) (fun _ _ => id) fun o t ho ht hq => ?_).settleN n s
      ⟨h, hp⟩ hw).1.2
    obtain he | ⟨he, -⟩ := deliver_water_of_minor ho ht.water
    · rw [he]
      exact hq
    · exact he

/-! ### The valve chain driver is asked for nothing -/

/-- A minor offer that does not reach the valve chain driver. -/
def Offer.Silent (o : Offer) : Prop := o.minor = true ∧ o.receiver ≠ some .chain

/-- Silent offers only. -/
def Silents (out : List Offer) : Prop := ∀ o ∈ out, o.Silent

theorem Silents.nil : Silents [] := List.forall_mem_nil _

theorem Silents.append {l m : List Offer} (hl : Silents l) (hm : Silents m) : Silents (l ++ m) :=
  fun o ho => (List.mem_append.1 ho).elim (hl o) (hm o)

theorem Silents.offerIf {o : Offer} (h : o.Silent) (c : Bool) : Silents (offerIf c o) := by
  cases c
  · exact .nil
  · exact fun x hx => by rwa [List.mem_singleton.1 hx]

theorem Silents.offerIf_of_eq_false {c : Bool} (h : c = false) (o : Offer) : Silents (Machine.offerIf c o) := by
  rw [h]
  exact .nil

theorem Minor.silents {out : List Offer} (h : Minor out) {b : Maker} (hm : MadeBy b out)
    (hb : b = .governor ∨ b = .budget) : Silents out :=
  fun o ho => ⟨h o ho, hm.receiver_ne_chain hb o ho⟩

/-- What the end of a sequencer's event offers but for the LIFT values. -/
theorem Sequencer.finish_out (old p : Sequencer) :
    ∃ out, Silents out ∧ (old.finish p false).out =
      Machine.offerIf (old.liftsDiffer (old.finish p false).val)
        (.chainLifts (old.finish p false).val.left.lift (old.finish p false).val.right.lift
          (old.finish p false).val.main.lift) ++ out := by
  have hs : ∀ o : Offer, o.minor = true → o.receiver ≠ some .chain → ∀ c, Silents (Machine.offerIf c o) :=
    fun o hm hr c => .offerIf ⟨hm, hr⟩ c
  refine ⟨_, ?_, (List.append_assoc _ _ _).trans ((List.append_assoc _ _ _).trans (List.append_assoc _ _ _))⟩
  exact (hs _ rfl (by nofun) _).append ((hs _ rfl (by nofun) _).append ((hs _ rfl (by nofun) _).append
    (((hs _ rfl (by nofun) _).append (hs _ rfl (by nofun) _)).append (hs _ rfl (by nofun) _))))

theorem Sequencer.liftsDiffer_of_driven {q p : Sequencer} (h : p.driven = q.driven) : q.liftsDiffer p = false := by
  simp only [Sequencer.driven, Prod.mk.injEq] at h
  simp [Sequencer.liftsDiffer, h]

theorem Sequencer.silents_finish {p : Sequencer} (hm : p.mode.working = false) {q : Sequencer} (h : p.driven = q.driven) :
    Silents (q.finish p false).out := by
  obtain ⟨out, hs, he⟩ := q.finish_out p
  rw [he, Sequencer.liftsDiffer_of_driven ((Sequencer.driven_finish hm q false).trans h)]
  exact hs

theorem Sequencer.silents_event {p : Sequencer} (hm : p.mode.working = false) {q : Sequencer} (h : p.driven = q.driven)
    (t : Moment) : Silents (q.event p t).out := by
  unfold Sequencer.event
  rw [Sequencer.react_of_not_working hm]
  exact Sequencer.silents_finish hm h

/-- What the end of a water event offers. -/
theorem Water.silents_finish {old w : Water} (hn : w.nozzles = old.nozzles) (hp : w.prime = old.prime) :
    Silents (old.finish w).out := by
  refine Silents.append (.offerIf_of_eq_false ?_ _) (.offerIf ⟨rfl, by nofun⟩ _)
  show (w.nozzles != old.nozzles || w.prime != old.prime) = false
  simp [hn, hp]

/-- SERVICE without nozzles asked for. -/
structure State.ServesDry (s : State) : Prop extends s.Serves where
  nozzles : s.water.nozzles = 0

theorem deliver_servesDry {o : Offer} (ho : o.minor = true) {s : State} (h : s.ServesDry) : (deliver o s).ServesDry := by
  refine ⟨deliver_serves ho h.toServes, ?_⟩
  obtain he | ⟨-, he, -⟩ := deliver_water_of_minor ho h.water
  · rw [he]
    exact h.nozzles
  · exact he

theorem State.ServesDry.made {s : State} (h : s.ServesDry) {o : Offer} (ho : o.Silent) :
    ∃ out, (deliver o s).offers = s.offers ++ out ∧ Silents out := by
  have hq : s.sequencer.mode.working = false := by rw [h.sequencer]; rfl
  obtain ⟨hminor, hchain⟩ := ho
  cases o
  case post | postTo => exact ⟨[], (List.append_nil _).symm, .nil⟩
  case chainLifts | chainWater => exact absurd rfl hchain
  case modeImplements l r m =>
    rw [deliver_modeImplements_of_mode h.mode]
    exact ⟨[], (List.append_nil _).symm, .nil⟩
  case demand c n =>
    exact ⟨_, rfl, (s.budget.minor_takeDemand _ c n).silents (s.budget.runs_takeDemand _ c n).made (.inr rfl)⟩
  case governorGrant g =>
    have hr := s.governor.runs_takeCopies s.mc.time { s.governor.copies with grant := g.grant }
    exact ⟨_, rfl, (hr.made.minor (.inl rfl)).silents hr.made (.inl rfl)⟩
  case governorImplements r =>
    have hr := s.governor.runs_takeImplements s.mc.time r
    exact ⟨_, rfl, (hr.made.minor (.inl rfl)).silents hr.made (.inl rfl)⟩
  case sequencerGrants m l r =>
    exact ⟨_, rfl, Sequencer.silents_event (p := { s.sequencer with
      main := { s.sequencer.main with row := m }, left := { s.sequencer.left with row := l }
      right := { s.sequencer.right with row := r } }) hq (q := s.sequencer) rfl s.moment⟩
  case liftForReverse b =>
    exact ⟨_, rfl, Sequencer.silents_event (p := { s.sequencer with liftForReverse := b }) hq
      (q := s.sequencer) rfl s.moment⟩
  case waterGrant r =>
    obtain ⟨-, hn, hp⟩ := s.water.off_reevaluate
      (w := { s.water with copies := { s.water.copies with row := r } }) h.water s.mc.time
    exact ⟨_, rfl, Water.silents_finish (hn.trans h.nozzles.symm) hp⟩
  case waterImplements x y m =>
    obtain ⟨-, hn, hp⟩ := s.water.off_reevaluate
      (w := { s.water with copies := { s.water.copies with armL := x, armR := y, main := m } }) h.water s.mc.time
    exact ⟨_, rfl, Water.silents_finish (hn.trans h.nozzles.symm) hp⟩
  all_goals cases hminor

/-- The valve chain driver stays as it is under silent offers. -/
theorem closed_servesDry (c : Chain) : Closed Offer.Silent Offer.Silent fun s => s.ServesDry ∧ s.chain = c where
  sub _ := id
  setOffers _ _ h := ⟨⟨⟨h.1.mode, h.1.sequencer, h.1.governor, h.1.water⟩, h.1.nozzles⟩, h.2⟩
  keeps _ _ ho h := ⟨deliver_servesDry ho.1 h.1, (deliver_chain ho.2).trans h.2⟩
  made _ _ ho h := h.1.made ho

end Sys2Proof.Machine
end

section
/-! OUTPUT (02 R37): the coil or the chain position that is driven. -/

namespace Sys2Proof.Machine

/-! ### The records that OUTPUT changes -/

/-- The sequencer's record with a service value set. -/
def Sequencer.driveTarget (q : Sequencer) (x : OutputTarget) (v : Int) : Sequencer :=
  match x with
  | .broomM => { q with main := { q.main with broom := v.toNat } }
  | .broomArm x => q.setArm x { q.arm x with broom := v.toNat }
  | .swing x => q.setArm x { q.arm x with swing := v }
  | .press x => q.setArm x { q.arm x with press := v.toNat }
  | .lift x => q.setArm x { q.arm x with lift := v == 1 }
  | .liftM => { q with main := { q.main with lift := v == 1 } }
  | .driveFwd | .driveRev | .pump | .nozzle _ | .prime => q

theorem Sequencer.output_eq (q : Sequencer) (x : OutputTarget) (v : Int) :
    q.output x v = q.finish (q.driveTarget x v) false := by
  cases x <;> rfl

theorem State.setOutput_sequencer (s : State) {x : OutputTarget} (hx : x ≠ .prime) (v : Int) :
    s.setOutput x v = (s.withSequencer (s.sequencer.finish (s.sequencer.driveTarget x v) false)).settle := by
  rw [← Sequencer.output_eq]
  cases x
  case prime => exact absurd rfl hx
  all_goals rfl

/-- The seven coils that OUTPUT reaches, of a sequencer. -/
def Sequencer.coils (q : Sequencer) : List Int :=
  [q.main.broom, q.left.broom, q.right.broom, q.left.swing, q.right.swing, q.left.press, q.right.press]

/-- The LIFT values of a sequencer. -/
def Sequencer.lifts (q : Sequencer) : Bool × Bool × Bool := (q.left.lift, q.right.lift, q.main.lift)

theorem Sequencer.driven_iff {q p : Sequencer} :
    q.driven = p.driven ↔ q.mode = p.mode ∧ q.coils = p.coils ∧ q.lifts = p.lifts := by
  simp only [Sequencer.driven, Sequencer.coils, Sequencer.lifts, Prod.mk.injEq, List.cons.injEq, Nat.cast_inj, and_true]
  tauto

/-- A target that is a coil, and a value in its range. -/
structure OutputTarget.DrivesCoil (x : OutputTarget) (k : Nat) (v : Int) : Prop where
  reachable : x.reachable = true
  accepts : x.accepts v = true
  failed : ∀ c : Chain, c.targetFailed x = false
  notPrime : x ≠ .prime
  mode : ∀ q : Sequencer, (q.driveTarget x v).mode = q.mode
  lifts : ∀ q : Sequencer, (q.driveTarget x v).lifts = q.lifts
  coils : ∀ q : Sequencer, (q.driveTarget x v).coils = q.coils.set k v

/-- The coils by their numbers. -/
theorem OutputTarget.drivesCoil {n : Byte} {v : Int}
    (h : (n = 2 ∨ n = 3 ∨ n = 4 ∨ n = 7 ∨ n = 8) ∧ 0 ≤ v ∧ v ≤ 1000 ∨ (n = 5 ∨ n = 6) ∧ -1000 ≤ v ∧ v ≤ 1000) :
    ∃ x, OutputTarget.ofNumber n.toNat = some x ∧ x.DrivesCoil (n.toNat - 2) v := by
  have hcast : 0 ≤ v → ((v.toNat : Nat) : Int) = v := Int.toNat_of_nonneg
  obtain ⟨hn, hlo, hhi⟩ | ⟨hn, hlo, hhi⟩ := h
  · have hrange : (decide (0 ≤ v) && decide (v ≤ 1000)) = true := by simp [hlo, hhi]
    obtain rfl | rfl | rfl | rfl | rfl := hn
    · exact ⟨.broomM, rfl, rfl, hrange, fun _ => rfl, nofun, fun _ => rfl, fun _ => rfl, fun q => by
        simp [Sequencer.coils, Sequencer.driveTarget, hcast hlo]⟩
    · exact ⟨.broomArm .left, rfl, rfl, hrange, fun _ => rfl, nofun, fun _ => rfl, fun _ => rfl, fun q => by
        simp [Sequencer.coils, Sequencer.driveTarget, Sequencer.setArm, Sequencer.arm, hcast hlo]⟩
    · exact ⟨.broomArm .right, rfl, rfl, hrange, fun _ => rfl, nofun, fun _ => rfl, fun _ => rfl, fun q => by
        simp [Sequencer.coils, Sequencer.driveTarget, Sequencer.setArm, Sequencer.arm, hcast hlo]⟩
    · exact ⟨.press .left, rfl, rfl, hrange, fun _ => rfl, nofun, fun _ => rfl, fun _ => rfl, fun q => by
        simp [Sequencer.coils, Sequencer.driveTarget, Sequencer.setArm, Sequencer.arm, hcast hlo]⟩
    · exact ⟨.press .right, rfl, rfl, hrange, fun _ => rfl, nofun, fun _ => rfl, fun _ => rfl, fun q => by
        simp [Sequencer.coils, Sequencer.driveTarget, Sequencer.setArm, Sequencer.arm, hcast hlo]⟩
  · have hrange : (decide (-1000 ≤ v) && decide (v ≤ 1000)) = true := by simp [hlo, hhi]
    obtain rfl | rfl := hn
    · exact ⟨.swing .left, rfl, rfl, hrange, fun _ => rfl, nofun, fun _ => rfl, fun _ => rfl, fun _ => rfl⟩
    · exact ⟨.swing .right, rfl, rfl, hrange, fun _ => rfl, nofun, fun _ => rfl, fun _ => rfl, fun _ => rfl⟩

/-! ### A coil -/

theorem State.inStep.serves {s : State} (h : s.inStep) (hm : s.mc.mode = .service) : s.Serves := by
  obtain ⟨-, hq, hg, hw, -, -⟩ := h
  exact ⟨by rw [hm]; nofun, hq.trans hm, hg.trans hm, hw.trans hm⟩

theorem Governor.parks_of_service {g : Governor} (hm : g.copies.mode = .service) (hc : g.command = 0) :
    g.Parks g.driveFwd g.driveRev :=
  ⟨by rw [hm]; rfl, hc, rfl, rfl⟩

/-- The sequencer has ended an event in SERVICE that began at the record `p`. -/
theorem State.Serves.withSequencer {s : State} (h : s.Serves) {p : Sequencer} (hp : p.mode = .service) :
    (s.withSequencer (s.sequencer.finish p false)).Serves ∧
      (s.withSequencer (s.sequencer.finish p false)).sequencer.driven = p.driven := by
  have hd : (s.sequencer.finish p false).val.driven = p.driven := Sequencer.driven_finish (by rw [hp]; rfl) _ _
  exact ⟨⟨h.mode, (congrArg (·.1) hd).trans hp, h.governor, h.water⟩, hd⟩

theorem Sequencer.minor_finish (q p : Sequencer) : Minor (q.finish p false).out := by
  obtain ⟨out, hs, he⟩ := q.finish_out p
  rw [he]
  exact (Minor.offerIf rfl _).append fun o ho => (hs o ho).1

/-- What OUTPUT to the sequencer leaves: the record that was set, the drive coils at a command of 0, and the pump at 0. -/
theorem State.Serves.settle_output {s : State} (h : s.Serves) (ho : s.offers = []) {p : Sequencer}
    (hp : p.mode = .service) :
    let t := (s.withSequencer (s.sequencer.finish p false)).settle
    t.sequencer.driven = p.driven ∧
      (s.governor.command = 0 → t.governor.driveFwd = s.governor.driveFwd ∧ t.governor.driveRev = s.governor.driveRev) ∧
      (s.water.pump = 0 → t.water.pump = 0) := by
  intro t
  obtain ⟨hs, hd⟩ := h.withSequencer hp
  have hminor : Minor (s.withSequencer (s.sequencer.finish p false)).offers := by
    show Minor (s.offers ++ _)
    rw [ho]
    exact s.sequencer.minor_finish p
  obtain ⟨hdriven, hparks, hpump⟩ := hs.settleN hminor Config.offerBound
  refine ⟨hdriven.trans hd, fun hc => ?_, hpump⟩
  have hpark := hparks _ _ (Governor.parks_of_service h.governor hc)
  exact ⟨hpark.driveFwd, hpark.driveRev⟩

/-! ### A chain position -/

/-- An offer to the valve chain driver, and offers that do not reach it. -/
theorem State.ServesDry.settle_asked {u : State} (h : u.ServesDry) {b : Bool} {o : Offer} {out : List Offer} {d : Chain}
    (hd : ∀ os, deliver o (u.setOffers os) = (u.setOffers os).setChain d) (ho : u.offers = offerIf b o ++ out)
    (hs : Silents out) : u.settle.chain = if b then d else u.chain := by
  cases b
  · exact ((closed_servesDry u.chain).settle ⟨h, rfl⟩ fun x hx => hs x (by rwa [ho] at hx)).1.2
  · show (settleN (999 + 1) u).chain = d
    rw [settleN_succ _ _ _ _ ho, hd]
    exact ((closed_servesDry d).settleN 999 ((u.setOffers out).setChain d)
      ⟨⟨⟨h.mode, h.sequencer, h.governor, h.water⟩, h.nozzles⟩, rfl⟩ hs).1.2

/-- The chain after OUTPUT to the sequencer, without nozzles asked for. -/
theorem State.Serves.settle_output_chain {s : State} (h : s.Serves) (ho : s.offers = []) (hn : s.water.nozzles = 0)
    {p : Sequencer} (hp : p.mode = .service) :
    (s.withSequencer (s.sequencer.finish p false)).settle.chain =
      if p.lifts = s.sequencer.lifts then s.chain else s.chain.takeLifts p.left.lift p.right.lift p.main.lift := by
  obtain ⟨hs, hd⟩ := h.withSequencer hp
  obtain ⟨out, hout, he⟩ := s.sequencer.finish_out p
  obtain ⟨-, -, hl⟩ := Sequencer.driven_iff.1 (show (s.sequencer.finish p false).val.driven = p.driven from hd)
  have hask := State.ServesDry.settle_asked (u := s.withSequencer (s.sequencer.finish p false)) ⟨hs, hn⟩
    (d := s.chain.takeLifts (s.sequencer.finish p false).val.left.lift (s.sequencer.finish p false).val.right.lift
      (s.sequencer.finish p false).val.main.lift)
    (fun _ => rfl) (by show s.offers ++ _ = _; rw [ho, he]; rfl) hout
  simp only [Sequencer.lifts, Prod.mk.injEq] at hl
  obtain ⟨h1, h2, h3⟩ := hl
  rw [hask, h1, h2, h3]
  have hdiff : s.sequencer.liftsDiffer (s.sequencer.finish p false).val = !decide (p.lifts = s.sequencer.lifts) := by
    simp only [Sequencer.liftsDiffer, Sequencer.lifts, Prod.mk.injEq, h1, h2, h3]
    grind
  rw [hdiff]
  by_cases hc : p.lifts = s.sequencer.lifts
  · rw [if_pos hc, decide_eq_true hc]
    rfl
  · rw [if_neg hc, decide_eq_false hc]
    rfl

theorem Chain.wanted_takeLifts {c : Chain} (hm : c.mode ≠ .halted) {l r m p : Bool}
    (hr : c.requested = liftPattern l r m ||| waterPattern 0 p) (x y z : Bool) :
    (c.takeLifts x y z).wanted = (liftPattern x y z ||| waterPattern 0 p) &&& ~~~c.failed := by
  have hmask : ∀ l r m p x y z : Bool, (liftPattern l r m ||| waterPattern 0 p) &&& ~~~liftMask ||| liftPattern x y z =
      liftPattern x y z ||| waterPattern 0 p := by decide
  unfold Chain.takeLifts
  rw [Chain.wanted_recompose, Chain.wantedNow, if_neg hm, hr, hmask]

theorem Chain.wanted_takeWater {c : Chain} (hm : c.mode ≠ .halted) {l r m p : Bool}
    (hr : c.requested = liftPattern l r m ||| waterPattern 0 p) (x : Bool) :
    (c.takeWater 0 x).wanted = (liftPattern l r m ||| waterPattern 0 x) &&& ~~~c.failed := by
  have hmask : ∀ l r m p x : Bool, (liftPattern l r m ||| waterPattern 0 p) &&& liftMask ||| waterPattern 0 x =
      liftPattern l r m ||| waterPattern 0 x := by decide
  unfold Chain.takeWater
  rw [Chain.wanted_recompose, Chain.wantedNow, if_neg hm, hr, hmask]

/-- The positions of LIFT_L, LIFT_R, LIFT_M and PRIME in a pattern without nozzles. -/
theorem getLsbD_pattern (l r m p : Bool) {i : Nat} (hi : i < 16) :
    (liftPattern l r m ||| waterPattern 0 p).getLsbD i =
      ((i == 12 && l) || (i == 13 && r) || (i == 14 && m) || (i == 15 && p)) := by
  have hall : ∀ (l r m p : Bool) (i : Fin 16), (liftPattern l r m ||| waterPattern 0 p).getLsbD i.val =
      ((i.val == 12 && l) || (i.val == 13 && r) || (i.val == 14 && m) || (i.val == 15 && p)) := by decide
  exact hall l r m p ⟨i, hi⟩

/-- A pattern of the four positions with the position `12 + k` replaced. -/
def patternWith (k : Nat) (b l r m p : Bool) : Mask :=
  liftPattern (if k = 0 then b else l) (if k = 1 then b else r) (if k = 2 then b else m) |||
    waterPattern 0 (if k = 3 then b else p)

/-- One position that has not failed is replaced, and the others stay. -/
theorem getLsbD_patternWith {k : Nat} (hk : k < 4) (b l r m p : Bool) {f : Mask} (hf : f.getLsbD (12 + k) = false)
    {i : Nat} (hi : i < 16) :
    (patternWith k b l r m p &&& ~~~f).getLsbD i =
      if i = 12 + k then b else ((liftPattern l r m ||| waterPattern 0 p) &&& ~~~f).getLsbD i := by
  have hpat : (patternWith k b l r m p).getLsbD i =
      if i = 12 + k then b else (liftPattern l r m ||| waterPattern 0 p).getLsbD i := by
    rw [patternWith, getLsbD_pattern _ _ _ _ hi, getLsbD_pattern _ _ _ _ hi]
    have hne : k = 0 ∨ k = 1 ∨ k = 2 ∨ k = 3 := by omega
    obtain rfl | rfl | rfl | rfl := hne
    all_goals grind
  rw [BitVec.getLsbD_and, BitVec.getLsbD_and, hpat]
  split
  next he =>
    rw [BitVec.getLsbD_not, he, hf]
    simp [show 12 + k < 16 by omega]
  next => rfl

/-- The wanted pattern after OUTPUT to a LIFT position. -/
theorem State.Serves.settle_output_wanted {s : State} (h : s.Serves) (ho : s.offers = []) (hn : s.water.nozzles = 0)
    (hc : s.chain.mode ≠ .halted) {p : Sequencer} (hp : p.mode = .service)
    (hw : s.chain.wanted = s.chain.requested &&& ~~~s.chain.failed)
    (hr : s.chain.requested = liftPattern s.sequencer.left.lift s.sequencer.right.lift s.sequencer.main.lift |||
      waterPattern 0 s.water.prime) :
    (s.withSequencer (s.sequencer.finish p false)).settle.chain.wanted =
      (liftPattern p.left.lift p.right.lift p.main.lift ||| waterPattern 0 s.water.prime) &&& ~~~s.chain.failed := by
  rw [h.settle_output_chain ho hn hp]
  split
  next hl =>
    simp only [Sequencer.lifts, Prod.mk.injEq] at hl
    obtain ⟨h1, h2, h3⟩ := hl
    rw [hw, hr, h1, h2, h3]
  next => exact Chain.wanted_takeLifts hc hr _ _ _

/-! ### The target PRIME -/

theorem State.setOutput_prime (s : State) (v : Int) :
    s.setOutput .prime v = (s.withWater (s.water.finish { s.water with prime := v == 1 })).settle := rfl

/-- What OUTPUT to PRIME leaves. -/
theorem State.Serves.settle_prime {s : State} (h : s.Serves) (ho : s.offers = []) (b : Bool) :
    let t := (s.withWater (s.water.finish { s.water with prime := b })).settle
    t.sequencer.driven = s.sequencer.driven ∧
      (s.governor.command = 0 → t.governor.driveFwd = s.governor.driveFwd ∧ t.governor.driveRev = s.governor.driveRev) ∧
      (s.water.pump = 0 → t.water.pump = 0) := by
  intro t
  have hs : (s.withWater (s.water.finish { s.water with prime := b })).Serves := ⟨h.mode, h.sequencer, h.governor, h.water⟩
  have hminor : Minor (s.withWater (s.water.finish { s.water with prime := b })).offers := by
    show Minor (s.offers ++ _)
    rw [ho]
    exact (Minor.offerIf rfl _).append (.offerIf rfl _)
  obtain ⟨hdriven, hparks, hpump⟩ := hs.settleN hminor Config.offerBound
  refine ⟨hdriven, fun hc => ?_, hpump⟩
  have hpark := hparks _ _ (Governor.parks_of_service h.governor hc)
  exact ⟨hpark.driveFwd, hpark.driveRev⟩

/-- The wanted pattern after OUTPUT to PRIME. -/
theorem State.Serves.settle_prime_wanted {s : State} (h : s.Serves) (ho : s.offers = []) (hn : s.water.nozzles = 0)
    (hc : s.chain.mode ≠ .halted) (b : Bool) (hw : s.chain.wanted = s.chain.requested &&& ~~~s.chain.failed)
    {l r m : Bool} (hr : s.chain.requested = liftPattern l r m ||| waterPattern 0 s.water.prime) :
    (s.withWater (s.water.finish { s.water with prime := b })).settle.chain.wanted =
      (liftPattern l r m ||| waterPattern 0 b) &&& ~~~s.chain.failed := by
  have hdiff : (({ s.water with prime := b } : Water).nozzles != s.water.nozzles || b != s.water.prime) =
      (b != s.water.prime) := by simp
  have hask := State.ServesDry.settle_asked (u := s.withWater (s.water.finish { s.water with prime := b }))
    ⟨⟨h.mode, h.sequencer, h.governor, h.water⟩, hn⟩ (b := b != s.water.prime) (o := .chainWater 0 b)
    (d := s.chain.takeWater 0 b) (out := offerIf (s.water.demand != s.water.demand) (.demand .water s.water.demand))
    (fun _ => rfl)
    (by
      show s.offers ++ (offerIf _ (.chainWater s.water.nozzles b) ++ _) = _
      rw [ho, hdiff, hn]
      rfl)
    (.offerIf ⟨rfl, by nofun⟩ _)
  rw [hask]
  split
  next => exact Chain.wanted_takeWater hc hr b
  next hb =>
    have hb : b = s.water.prime := by simpa using hb
    rw [hb]
    exact hw.trans (by rw [hr])

/-! ### The checks on target and value -/

theorem OutputTarget.accepts_position {v : BitVec 16} (h : v = 0 ∨ v = 1) : (signed16 v == 1) = (v == 1) ∧
    (signed16 v == 0 || signed16 v == 1) = true := by
  obtain rfl | rfl := h
  all_goals exact ⟨rfl, rfl⟩

/-- A target that is a LIFT position of the sequencer. -/
structure OutputTarget.DrivesLift (x : OutputTarget) (k : Nat) : Prop where
  reachable : x.reachable = true
  accepts : ∀ v : Int, x.accepts v = (v == 0 || v == 1)
  failed : ∀ c : Chain, c.targetFailed x = c.failed.getLsbD (12 + k)
  notPrime : x ≠ .prime
  record : ∀ (q : Sequencer) v, (q.driveTarget x v).mode = q.mode ∧ (q.driveTarget x v).coils = q.coils
  pattern : ∀ (q : Sequencer) (v : Int) p,
    liftPattern (q.driveTarget x v).left.lift (q.driveTarget x v).right.lift (q.driveTarget x v).main.lift |||
      waterPattern 0 p = patternWith k (v == 1) q.left.lift q.right.lift q.main.lift p

/-- The LIFT positions by their numbers. -/
theorem OutputTarget.drivesLift {k : Nat} (hk : k < 3) :
    ∃ x, OutputTarget.ofNumber (22 + k) = some x ∧ x.DrivesLift k := by
  have hne : k = 0 ∨ k = 1 ∨ k = 2 := by omega
  obtain rfl | rfl | rfl := hne
  · exact ⟨.lift .left, rfl, rfl, fun _ => rfl, fun _ => rfl, nofun, fun _ _ => ⟨rfl, rfl⟩, fun _ _ _ => rfl⟩
  · exact ⟨.lift .right, rfl, rfl, fun _ => rfl, fun _ => rfl, nofun, fun _ _ => ⟨rfl, rfl⟩, fun _ _ _ => rfl⟩
  · exact ⟨.liftM, rfl, rfl, fun _ => rfl, fun _ => rfl, nofun, fun _ _ => ⟨rfl, rfl⟩, fun _ _ _ => rfl⟩

/-- The numbers of targets that are in no range. -/
theorem OutputTarget.rejects {n : Byte} {v : BitVec 16}
    (h : (n = 2 ∨ n = 3 ∨ n = 4 ∨ n = 7 ∨ n = 8) ∧ (v.toInt < 0 ∨ 1000 < v.toInt) ∨
      (n = 5 ∨ n = 6) ∧ (v.toInt < -1000 ∨ 1000 < v.toInt) ∨
      (n = 22 ∨ n = 23 ∨ n = 24 ∨ n = 25) ∧ v ≠ 0 ∧ v ≠ 1) :
    ∃ x, OutputTarget.ofNumber n.toNat = some x ∧ x.reachable = true ∧ x.accepts (signed16 v) = false := by
  obtain ⟨hn, hv⟩ | ⟨hn, hv⟩ | ⟨hn, hv⟩ := h
  · have hr : (decide (0 ≤ signed16 v) && decide (signed16 v ≤ 1000)) = false := by
      rw [Bool.and_eq_false_iff, decide_eq_false_iff_not, decide_eq_false_iff_not, not_le, not_le]
      exact hv
    obtain rfl | rfl | rfl | rfl | rfl := hn
    all_goals exact ⟨_, rfl, rfl, hr⟩
  · have hr : (decide (-1000 ≤ signed16 v) && decide (signed16 v ≤ 1000)) = false := by
      rw [Bool.and_eq_false_iff, decide_eq_false_iff_not, decide_eq_false_iff_not, not_le, not_le]
      exact hv
    obtain rfl | rfl := hn
    all_goals exact ⟨_, rfl, rfl, hr⟩
  · have hr : (signed16 v == 0 || signed16 v == 1) = false := by
      rw [Bool.or_eq_false_iff, beq_eq_false_iff_ne, beq_eq_false_iff_ne]
      exact ⟨fun he => hv.1 (BitVec.eq_of_toInt_eq he), fun he => hv.2 (BitVec.eq_of_toInt_eq he)⟩
    obtain rfl | rfl | rfl | rfl := hn
    all_goals exact ⟨_, rfl, rfl, hr⟩

theorem State.setOutput_kept (s : State) (x : OutputTarget) (v : Int) : Kept s (s.setOutput x v) := by
  by_cases hx : x = .prime
  · subst hx
    exact (Kept.setWater s { s.water with prime := v == 1 } rfl).trans
      ((Kept.emit _ (s.water.outputPrime (v == 1)).out).trans (State.settle_kept _))
  · rw [State.setOutput_sequencer s hx]
    refine (Kept.setSequencer s _ ?_).trans ((Kept.emit _ _).trans (State.settle_kept _))
    rw [← Sequencer.output_eq]
    exact s.sequencer.record_output x v

theorem State.implementCoils_eq (s : State) : s.implementCoils = s.sequencer.coils := rfl

end Sys2Proof.Machine

open Sys2Proof Sys2Proof.Machine

/-- Settles O21: the checks one by one; then what OUTPUT sets is offered at most to the valve chain driver, and the minor
offers of SERVICE leave coils, drives and chain alone. -/
theorem outputIsCheckedAndDrivesItsTarget : Obligations.OutputIsCheckedAndDrivesItsTarget := by
  refine ⟨fun p tag target value s h => ⟨fun hn => ?_, fun hn hm => ?_, fun hm => ⟨fun hn => ?_, fun hv => ?_,
    fun k hk hn hv hf => ?_⟩⟩, fun p tag n value s h hstep hm => ⟨fun hv => ?_, fun k hk hn hv hf => ?_⟩⟩
  · exact exec_of_body .output rfl h (outputBody_of_ge hn)
  · obtain ⟨x, hx, -⟩ := OutputTarget.ofNumber_of_le hn
    exact exec_of_body .output rfl h (outputBody_of_mode hx hm)
  · obtain ⟨x, hx, hr⟩ := OutputTarget.ofNumber_of_le (n := target.toNat) (by omega)
    exact exec_of_body .output rfl h (outputBody_of_unreachable hx hm (hr hn))
  · obtain ⟨x, hx, hr, ha⟩ := OutputTarget.rejects hv
    exact exec_of_body .output rfl h (outputBody_of_value hx hm hr ha)
  · obtain ⟨-, hrange⟩ := OutputTarget.accepts_position hv
    by_cases h3 : k < 3
    · obtain ⟨x, hx, hx'⟩ := OutputTarget.drivesLift h3
      exact exec_of_body .output rfl h (outputBody_of_failed (hn ▸ hx) hm hx'.reachable
        ((hx'.accepts _).trans hrange) ((hx'.failed _).trans hf))
    · obtain rfl : k = 3 := by omega
      exact exec_of_body .output rfl h (outputBody_of_failed (x := .prime) (hn ▸ rfl) hm rfl hrange hf)
  · obtain ⟨x, hx, hc⟩ := OutputTarget.drivesCoil hv
    have hserves := hstep.serves hm
    have hp : (s.sequencer.driveTarget x value.toInt).mode = .service := (hc.mode _).trans hserves.sequencer
    obtain ⟨hdriven, hdrives, hpump⟩ := hserves.settle_output hstep.1 hp
    obtain ⟨-, hcoils, -⟩ := Sequencer.driven_iff.1 hdriven
    have hchain := fun hn => hserves.settle_output_chain hstep.1 hn hp
    rw [← State.setOutput_sequencer s hc.notPrime] at hcoils hdrives hpump hchain
    exact ⟨s.setOutput x value.toInt, exec_of_body .output rfl h
      (outputBody_of_accepted hx hm hc.reachable hc.accepts (hc.failed _)), s.setOutput_kept _ _,
      hcoils.trans (hc.coils _), hdrives, hpump, fun hn => (hchain hn).trans (if_pos (hc.lifts _))⟩
  · obtain ⟨hone, hrange⟩ := OutputTarget.accepts_position hv
    have hserves := hstep.serves hm
    obtain ⟨ho, -, -, -, -, hmode⟩ := hstep
    have hhalted : s.chain.mode ≠ .halted := by rw [hmode, hm]; nofun
    by_cases h3 : k < 3
    · obtain ⟨x, hx, hl⟩ := OutputTarget.drivesLift h3
      obtain ⟨hpm, hpc⟩ := hl.record s.sequencer (signed16 value)
      have hp := hpm.trans hserves.sequencer
      obtain ⟨hdriven, hdrives, hpump⟩ := hserves.settle_output ho hp
      obtain ⟨-, hcoils, -⟩ := Sequencer.driven_iff.1 hdriven
      have hwanted := fun hw hr hn => hserves.settle_output_wanted ho hn hhalted hp hw hr
      rw [← State.setOutput_sequencer s hl.notPrime] at hcoils hdrives hpump hwanted
      refine ⟨s.setOutput x (signed16 value), exec_of_body .output rfl h
        (outputBody_of_accepted (hn ▸ hx) hm hl.reachable ((hl.accepts _).trans hrange) ((hl.failed _).trans hf)),
        s.setOutput_kept _ _, hcoils.trans hpc, hdrives, hpump, fun hw hr hnoz i hi => ?_⟩
      rw [hwanted hw hr hnoz, hl.pattern, hone, getLsbD_patternWith hk _ _ _ _ _ hf hi, hw, hr]
    · obtain rfl : k = 3 := by omega
      obtain ⟨hdriven, hdrives, hpump⟩ := hserves.settle_prime ho (signed16 value == 1)
      obtain ⟨-, hcoils, -⟩ := Sequencer.driven_iff.1 hdriven
      refine ⟨s.setOutput .prime (signed16 value), exec_of_body .output rfl h
        (outputBody_of_accepted (x := .prime) (hn ▸ rfl) hm rfl hrange hf), s.setOutput_kept _ _, hcoils, hdrives,
        hpump, fun hw hr hnoz i hi => ?_⟩
      rw [State.setOutput_prime, hserves.settle_prime_wanted ho hnoz hhalted _ hw hr, hone]
      refine (getLsbD_patternWith hk (value == 1) _ _ _ s.water.prime hf hi).trans ?_
      rw [hw, hr]
end

section
/-! The valve chain driver (10 R169 to R171, 02 R38): refreshes, the check at a completion, CLEAR_FAILED. -/

namespace Sys2Proof.Machine

/-! ### Offers that the blocks answer among themselves -/

/-- The stow-completion test offers a mode or nothing. -/
theorem ModeController.stowTest_out (c : ModeController) :
    ∀ x ∈ c.stowTest.out, x.inner = true ∧ x.maker ≠ some .chain := by
  by_cases hs : c.stowHolds
  · rw [ModeController.stowTest_of_holds hs, ModeController.enterMode_of_not_halted (m := .transport) _ nofun]
    simp [modeOffers, Offer.inner, Offer.maker]
  · rw [ModeController.stowTest_of_not_holds hs]
    exact List.forall_mem_nil _

theorem Offer.maker_of_minor {o : Offer} (h : o.minor = true) : o.maker ≠ some .chain := by
  intro hm
  cases o
  case demand c n => cases c <;> cases hm
  case sequencerLiftFailed | waterFailed => cases h
  all_goals cases hm

/-- Inner offers are answered with inner ones, none of which the valve chain driver makes. -/
theorem deliver_inner_out {o : Offer} (ho : o.inner = true) (s : State) :
    ∃ out, (deliver o s).offers = s.offers ++ out ∧ ∀ x ∈ out, x.inner = true ∧ x.maker ≠ some .chain := by
  by_cases hr : o.receiver = some .modeController
  · cases o
    case modeImplements l r m => exact ⟨_, rfl, ModeController.stowTest_out _⟩
    case haltOutput => cases ho
    case holderChanged d => cases d <;> cases hr
    all_goals cases hr
  · obtain ⟨out, he, hm⟩ := deliver_minor_of_receiver ho hr s
    exact ⟨out, he, fun x hx => ⟨Offer.inner_of_minor (hm x hx), Offer.maker_of_minor (hm x hx)⟩⟩

/-- Inner offers of others than the valve chain driver, and those of a list. -/
def InnerOr (l : List Offer) (o : Offer) : Prop := o.inner = true ∧ (o.maker ≠ some .chain ∨ o ∈ l)

theorem closed_innerOr (l : List Offer) : Closed (InnerOr l) (InnerOr l) fun _ => True where
  sub _ := id
  setOffers _ _ := id
  keeps _ _ _ _ := trivial
  made o s ho _ := by
    obtain ⟨out, he, hout⟩ := deliver_inner_out ho.1 s
    exact ⟨out, he, fun x hx => ⟨(hout x hx).1, .inl (hout x hx).2⟩⟩

/-! ### What inner offers leave of the valve chain driver -/

/-- What a recompose keeps: the failed set and the counts, and a running refresh with what is noted during it. -/
structure Chain.Goes (f : Mask) (n : Vector Nat 16) (x w : Bool) (c : Chain) : Prop where
  failed : c.failed = f
  counts : c.counts = n
  shifting : x = true → c.shifting = true
  waiting : x = true → w = true → c.waiting = true

theorem Chain.Goes.recompose {f : Mask} {n : Vector Nat 16} {x w : Bool} {c : Chain} (h : c.Goes f n x w) :
    c.recompose.Goes f n x w := by
  obtain ⟨-, hf, hn, -⟩ := c.recompose_kept
  refine ⟨hf.trans h.failed, hn.trans h.counts, fun hx => ?_, fun hx hw => ?_⟩
  · have hs := h.shifting hx
    unfold Chain.recompose Chain.wantRefresh
    dsimp only
    split
    · exact hs
    · exact hs
  · have hs := h.shifting hx
    unfold Chain.recompose Chain.wantRefresh
    dsimp only
    split
    · exact h.waiting hx hw
    · rfl

/-- Requests and modes are no part of it. -/
theorem Chain.Goes.withRequests {f : Mask} {n : Vector Nat 16} {x w : Bool} {c : Chain} (h : c.Goes f n x w) (m : Mode)
    (r : Mask) : { c with mode := m, requested := r }.Goes f n x w :=
  ⟨h.failed, h.counts, h.shifting, h.waiting⟩

theorem deliver_goes {f : Mask} {n : Vector Nat 16} {x w : Bool} {o : Offer} (ho : o.inner = true) {s : State}
    (h : s.chain.Goes f n x w) : (deliver o s).chain.Goes f n x w := by
  by_cases hr : o.receiver = some .chain
  case neg => rwa [deliver_chain hr]
  cases o
  case chainLifts | chainWater => exact (h.withRequests s.chain.mode _).recompose
  case chainMode => exact (h.withRequests _ _).recompose
  case chainRestart => cases ho
  case holderChanged d => cases d <;> cases hr
  all_goals cases hr

/-- Inner offers leave the failed set, the counts and a running refresh. -/
theorem State.settle_goes {f : Mask} {n : Vector Nat 16} {x w : Bool} {s : State} (h : s.chain.Goes f n x w)
    (hw : ∀ o ∈ s.offers, o.inner = true) : s.settle.chain.Goes f n x w :=
  (((closed_innerOr s.offers).and (P := fun t => t.chain.Goes f n x w) (fun _ _ => id)
    fun _ _ ho _ hg => deliver_goes ho.1 hg).settle ⟨trivial, h⟩ fun o ho => ⟨hw o ho, .inr ho⟩).1.2

theorem Chain.inner_ownerOffers (c : Chain) (m : Mask) : ∀ o ∈ c.ownerOffers m, o.inner = true := by
  intro o ho
  obtain h | h := List.mem_append.1 ho
  all_goals
    unfold Machine.offerIf at h
    split at h
    · rw [List.mem_singleton.1 h]
      rfl
    · cases h

/-! ### REFRESH_TIMER_EXPIRY -/

theorem Chain.timerExpiry_of_early {c : Chain} {now : Time} (h : reached now c.timer = false) :
    c.timerExpiry now = c :=
  if_neg (by simp [h])

theorem Chain.timerExpiry_of_idle {c : Chain} {now : Time} (h : reached now c.timer = true) (hs : c.shifting = false) :
    c.timerExpiry now = { c with timer := c.timer + 20, shifted := c.wanted, shifting := true } :=
  (if_pos h).trans (if_neg (by simp [hs]))

theorem Chain.timerExpiry_of_shifting {c : Chain} {now : Time} (h : reached now c.timer = true)
    (hs : c.shifting = true) : c.timerExpiry now = { c with timer := c.timer + 20, waiting := true } :=
  (if_pos h).trans (if_pos hs)

/-! ### REFRESH_COMPLETION -/

/-- The driver's record at the end of a completion's check, before its wanted pattern follows. -/
def Chain.checked (c : Chain) (echo fault : Mask) : Chain :=
  { c.load echo fault with
    counts := Vector.ofFn (c.load echo fault).nextCount
    failed := (c.load echo fault).failed ||| maskOf (c.load echo fault).fails }

/-- The CHAIN_FAILED notices of a completion. -/
def Chain.failPosts (c : Chain) (echo fault : Mask) : List Offer :=
  (sixteen.filter (c.load echo fault).fails).map fun i => .post .chainFailed i.val ((c.load echo fault).failValue i)

/-- What a completion tells the owners. -/
def Chain.failOffers (c : Chain) (echo fault : Mask) : List Offer :=
  (c.checked echo fault).recompose.ownerOffers (maskOf (c.load echo fault).fails)

theorem Chain.complete_eq (c : Chain) (echo fault : Mask) :
    c.complete echo fault =
      ⟨(c.checked echo fault).recompose, c.failPosts echo fault ++ c.failOffers echo fault⟩ := rfl

/-- The check of one position. -/
theorem Chain.checked_position (c : Chain) (echo fault : Mask) (i : Fin 16) :
    (c.failed.getLsbD i.val = true →
        (c.checked echo fault).counts.get i = c.counts.get i ∧ (c.checked echo fault).failed.getLsbD i.val = true) ∧
      (c.failed.getLsbD i.val = false →
        (c.checked echo fault).counts.get i =
            (if echo.getLsbD i.val ≠ c.loaded.getLsbD i.val ∨ fault.getLsbD i.val = true then c.counts.get i + 1 else 0) ∧
          (c.checked echo fault).failed.getLsbD i.val = decide (2 ≤ (c.checked echo fault).counts.get i)) := by
  have hcount : (c.checked echo fault).counts.get i = (c.load echo fault).nextCount i := by
    show (Vector.ofFn (c.load echo fault).nextCount)[i.val] = _
    exact Vector.getElem_ofFn i.isLt
  have hfailed : (c.checked echo fault).failed.getLsbD i.val =
      (c.failed.getLsbD i.val || (c.load echo fault).fails i) := by
    show ((c.load echo fault).failed ||| maskOf (c.load echo fault).fails).getLsbD i.val = _
    rw [BitVec.getLsbD_or, getLsbD_maskOf]
    rfl
  constructor
  · intro hf
    rw [hcount, hfailed, hf]
    exact ⟨if_pos hf, rfl⟩
  · intro hf
    have hnext : (c.load echo fault).nextCount i =
        if (c.load echo fault).mismatch i then c.counts.get i + 1 else 0 := if_neg (by
        show ¬ c.failed.getLsbD i.val = true
        rw [hf]
        nofun)
    rw [hcount, hfailed, hf]
    refine ⟨hnext.trans (if_congr ?_ rfl rfl), ?_⟩
    · simp [Chain.mismatch, Chain.load]
    · show (false || (!c.failed.getLsbD i.val && decide (failCount ≤ (c.load echo fault).nextCount i))) = _
      rw [hf]
      rfl

/-- The positions that fail, with the value of their notice. -/
theorem Chain.mem_failPosts (c : Chain) (echo fault : Mask) (n : Nat) (v : Int) :
    .post .chainFailed n v ∈ c.failPosts echo fault ↔
      ∃ k : Fin 16, n = k.val ∧ c.failed.getLsbD k.val = false ∧ (c.checked echo fault).failed.getLsbD k.val = true ∧
        v = (if fault.getLsbD k.val = false then 0
          else if echo.getLsbD k.val = c.loaded.getLsbD k.val then 1 else 2 : Int) := by
  have hall : ∀ k : Fin 16, k ∈ sixteen := by decide
  have hfails : ∀ k : Fin 16, (c.load echo fault).fails k = true ↔
      c.failed.getLsbD k.val = false ∧ (c.checked echo fault).failed.getLsbD k.val = true := fun k => by
    have hk : (c.checked echo fault).failed.getLsbD k.val = (c.failed.getLsbD k.val || (c.load echo fault).fails k) := by
      show ((c.load echo fault).failed ||| maskOf (c.load echo fault).fails).getLsbD k.val = _
      rw [BitVec.getLsbD_or, getLsbD_maskOf]
      rfl
    have hold : (c.load echo fault).fails k = true → c.failed.getLsbD k.val = false := fun h => by
      simp only [Chain.fails, Bool.and_eq_true, Bool.not_eq_true'] at h
      exact h.1
    rw [hk]
    constructor
    · intro h
      exact ⟨hold h, by rw [h, Bool.or_true]⟩
    · rintro ⟨h0, h1⟩
      rwa [h0, Bool.false_or] at h1
  have hvalue : ∀ k : Fin 16, (((c.load echo fault).failValue k : Nat) : Int) =
      if fault.getLsbD k.val = false then 0
      else if echo.getLsbD k.val = c.loaded.getLsbD k.val then 1 else 2 := fun k => by
    simp only [Chain.failValue, Chain.load]
    grind
  simp only [Chain.failPosts, List.mem_map, List.mem_filter, hall, true_and, Offer.post.injEq]
  constructor
  · rintro ⟨k, hk, rfl, rfl⟩
    obtain ⟨h0, h1⟩ := (hfails k).1 hk
    exact ⟨k, rfl, h0, h1, hvalue k⟩
  · rintro ⟨k, rfl, h0, h1, rfl⟩
    exact ⟨k, (hfails k).2 ⟨h0, h1⟩, rfl, hvalue k⟩

theorem Chain.post_notMem_ownerOffers (c : Chain) (m : Mask) (k : NoticeKind) (n : Nat) (v : Int) :
    .post k n v ∉ c.ownerOffers m := by
  intro h
  obtain h | h := List.mem_append.1 h
  all_goals
    unfold Machine.offerIf at h
    split at h
    · cases List.mem_singleton.1 h
    · cases h

theorem Chain.length_failPosts (c : Chain) (echo fault : Mask) : (c.failPosts echo fault).length ≤ 16 := by
  unfold Chain.failPosts
  rw [List.length_map]
  exact List.length_filter_le _ _

/-- The end of a completion. -/
theorem Chain.afterCompletion_eq (c : Chain) :
    c.afterCompletion.failed = c.failed ∧ c.afterCompletion.counts = c.counts ∧ c.afterCompletion.waiting = false ∧
      (c.afterCompletion.shifting = true → c.afterCompletion.shifted = c.afterCompletion.wanted) ∧
      (c.waiting = true → c.afterCompletion.shifting = true) ∧ c.afterCompletion.record = c.record := by
  unfold Chain.afterCompletion
  split
  next h => exact ⟨rfl, rfl, rfl, fun _ => rfl, fun _ => rfl, rfl⟩
  next h => exact ⟨rfl, rfl, by simpa using h, nofun, fun hw => absurd hw h, rfl⟩

/-! ### What the owners are told -/

/-- The copies of the failed positions. -/
def Held.failed (h : Held) : (Bool × Bool × Bool) × GroupSet × Bool :=
  ((h.sequencer.failedL, h.sequencer.failedR, h.sequencer.failedM), (h.water.failed, h.water.primeFailed))

/-- Only the valve chain driver tells of failed positions. -/
theorem Held.failed_take {o : Offer} (ho : o.maker ≠ some .chain) (h : Held) : (h.take o).failed = h.failed := by
  cases o
  case sequencerLiftFailed | waterFailed => exact absurd rfl ho
  all_goals rfl

/-- The failed LIFT positions as they are told. -/
def Chain.failedLifts (c : Chain) : Bool × Bool × Bool :=
  (c.failed.getLsbD 12, c.failed.getLsbD 13, c.failed.getLsbD 14)

/-- The failed nozzles and the failed PRIME position as they are told. -/
def Chain.failedWater (c : Chain) : GroupSet × Bool := (nozzlesOf c.failed, c.failed.getLsbD 15)

theorem mem_offerIf {b : Bool} {x o : Offer} : x ∈ offerIf b o ↔ b = true ∧ x = o := by
  cases b <;> simp [offerIf]

theorem Chain.mem_ownerOffers {c : Chain} {m : Mask} {x : Offer} :
    x ∈ c.ownerOffers m ↔
      m &&& liftMask ≠ 0 ∧ x = .sequencerLiftFailed c.failedLifts.1 c.failedLifts.2.1 c.failedLifts.2.2 ∨
        m &&& ~~~liftMask ≠ 0 ∧ x = .waterFailed c.failedWater.1 c.failedWater.2 := by
  unfold Chain.ownerOffers
  rw [List.mem_append, mem_offerIf, mem_offerIf, bne_iff_ne, bne_iff_ne]
  rfl

/-- What inner offers, and those of a list, keep of the copies stays to the end. -/
theorem State.settle_keepsCopies {l : List Offer} {Q : Held → Prop}
    (hQ : ∀ (h : Held) (x : Offer), x.maker ≠ some .chain ∨ x ∈ l → Q h → Q (h.take x)) {s : State} (hq : Q s.held)
    (hw : ∀ x ∈ s.offers, InnerOr l x) : Q s.settle.held :=
  (((closed_innerOr l).and (P := fun t => Q t.held) (fun _ _ => id) fun x t hx _ h => by
    rw [(deliver_takes x t).held]
    exact hQ _ x hx.2 h).settle ⟨trivial, hq⟩ hw).1.2

/-- What an offer on its way makes of the copies, and the offers behind it keep. -/
theorem State.settle_tellsCopies {l : List Offer} {Q : Held → Prop}
    (hQ : ∀ (h : Held) (x : Offer), x.maker ≠ some .chain ∨ x ∈ l → Q h → Q (h.take x)) {o : Offer}
    (hb : ∀ h : Held, Q (h.take o)) {s : State} {pre post : List Offer} (he : s.offers = pre ++ o :: post)
    (hw : ∀ x ∈ s.offers, InnerOr l x) (hn : pre.length < Config.offerBound) : Q s.settle.held := by
  have hw' : ∀ x ∈ pre ++ o :: post, InnerOr l x := he ▸ hw
  refine ((closed_innerOr l).arrives (P := fun t => Q t.held) (fun _ _ => id) (fun x t hx _ h => ?_)
    (hw' o (by simp)) (fun t _ => ?_) _ pre post s he trivial (fun x hx => hw' x (by simp [hx]))
    fun x hx => hw' x (by simp [hx])).resolve_right fun h => ?_
  · rw [(deliver_takes x t).held]
    exact hQ _ x hx.2 h
  · rw [(deliver_takes o t).held]
    exact hb _
  · have := h.2
    omega

/-- The owners hold the failed positions as told, or as before when none of theirs has changed. -/
theorem State.settle_owners {s : State} {c : Chain} {m : Mask} {pre : List Offer} (hn : Notices pre)
    (hl : pre.length ≤ 16) (ho : s.offers = pre ++ c.ownerOffers m) :
    (s.settle.held.failed.1 = c.failedLifts ∨ s.settle.held.failed.1 = s.held.failed.1 ∧ m &&& liftMask = 0) ∧
      (s.settle.held.failed.2 = c.failedWater ∨ s.settle.held.failed.2 = s.held.failed.2 ∧ m &&& ~~~liftMask = 0) := by
  have hpre : ∀ x ∈ pre, x.inner = true ∧ x.maker ≠ some .chain := fun x hx => by
    have := hn x hx
    refine ⟨?_, by rw [this]; nofun⟩
    cases x
    case post | postTo | demand => rfl
    all_goals cases this
  have hw : ∀ x ∈ s.offers, InnerOr (c.ownerOffers m) x := fun x hx => by
    rw [ho] at hx
    obtain h | h := List.mem_append.1 hx
    · exact ⟨(hpre x h).1, .inl (hpre x h).2⟩
    · exact ⟨c.inner_ownerOffers m x h, .inr h⟩
  have hbound : Config.offerBound = 1000 := rfl
  constructor
  · by_cases hz : m &&& liftMask = 0
    · refine .inr ⟨State.settle_keepsCopies (Q := fun h => h.failed.1 = s.held.failed.1) (fun h x hx hq => ?_) rfl hw, hz⟩
      obtain hx | hx := hx
      · exact (congrArg Prod.fst (h.failed_take hx)).trans hq
      · obtain ⟨hne, -⟩ | ⟨-, rfl⟩ := Chain.mem_ownerOffers.1 hx
        · exact absurd hz hne
        · exact hq
    · have he : s.offers = pre ++ .sequencerLiftFailed c.failedLifts.1 c.failedLifts.2.1 c.failedLifts.2.2 ::
          offerIf (m &&& ~~~liftMask != 0) (.waterFailed c.failedWater.1 c.failedWater.2) := by
        rw [ho, Chain.ownerOffers, show (m &&& liftMask != 0) = true by simpa using hz]
        rfl
      refine .inl (State.settle_tellsCopies (l := c.ownerOffers m) (Q := fun h => h.failed.1 = c.failedLifts)
        (fun h x hx hq => ?_) (fun _ => rfl) he hw (by omega))
      obtain hx | hx := hx
      · exact (congrArg Prod.fst (h.failed_take hx)).trans hq
      · obtain ⟨-, rfl⟩ | ⟨-, rfl⟩ := Chain.mem_ownerOffers.1 hx
        · rfl
        · exact hq
  · by_cases hz : m &&& ~~~liftMask = 0
    · refine .inr ⟨State.settle_keepsCopies (Q := fun h => h.failed.2 = s.held.failed.2) (fun h x hx hq => ?_) rfl hw, hz⟩
      obtain hx | hx := hx
      · exact (congrArg Prod.snd (h.failed_take hx)).trans hq
      · obtain ⟨-, rfl⟩ | ⟨hne, -⟩ := Chain.mem_ownerOffers.1 hx
        · exact hq
        · exact absurd hz hne
    · have he : s.offers = (pre ++ offerIf (m &&& liftMask != 0)
          (.sequencerLiftFailed c.failedLifts.1 c.failedLifts.2.1 c.failedLifts.2.2)) ++
          .waterFailed c.failedWater.1 c.failedWater.2 :: [] := by
        rw [ho, Chain.ownerOffers, show (m &&& ~~~liftMask != 0) = true by simpa using hz, List.append_assoc]
        rfl
      have hlen : ∀ b o, (offerIf b o).length ≤ 1 := fun b o => by cases b <;> simp [offerIf]
      have := hlen (m &&& liftMask != 0) (.sequencerLiftFailed c.failedLifts.1 c.failedLifts.2.1 c.failedLifts.2.2)
      refine .inl (State.settle_tellsCopies (l := c.ownerOffers m) (Q := fun h => h.failed.2 = c.failedWater)
        (fun h x hx hq => ?_) (fun _ => rfl) he hw (by rw [List.length_append]; omega))
      obtain hx | hx := hx
      · exact (congrArg Prod.snd (h.failed_take hx)).trans hq
      · obtain ⟨-, rfl⟩ | ⟨-, rfl⟩ := Chain.mem_ownerOffers.1 hx
        · exact hq
        · rfl

theorem Chain.checked_failed (c : Chain) (echo fault : Mask) :
    c.failed ^^^ (c.checked echo fault).failed = maskOf (c.load echo fault).fails := by
  refine BitVec.eq_of_getLsbD_eq fun i hi => ?_
  have hfail := getLsbD_maskOf (c.load echo fault).fails ⟨i, hi⟩
  show (c.failed ^^^ (c.failed ||| maskOf (c.load echo fault).fails)).getLsbD i = _
  simp only [BitVec.getLsbD_xor, BitVec.getLsbD_or, hfail]
  simp only [Chain.fails, Chain.load]
  cases c.failed.getLsbD i <;> simp

/-- Failed sets that differ in none of the positions of a mask agree under it. -/
theorem and_eq_of_xor {a b m k : Mask} (hx : a ^^^ b = m) (h : m &&& k = 0) : b &&& k = a &&& k := by
  refine BitVec.eq_of_getLsbD_eq fun i _ => ?_
  rw [BitVec.getLsbD_and, BitVec.getLsbD_and]
  cases hk : k.getLsbD i
  · rw [Bool.and_false, Bool.and_false]
  · rw [getLsbD_of_and_eq_zero hx h i hk]

end Sys2Proof.Machine
end

section
/-! The valve chain driver: arms and main broom told of a failed LIFT position (09 R149, R155), the completion as a whole,
CLEAR_FAILED (02 R38). -/

namespace Sys2Proof.Machine

/-! ### The end of a sequencer's event, record by record -/

/-- A record but for its broom coil and its demand. -/
def ArmRecord.course (a : ArmRecord) :
    (ArmState × Option Time × Option Motion × List OutcomeRecord) × Int × Nat × Bool × Option FaultCause × Bool :=
  ((a.state, a.timer, a.motion, a.outcomes), a.swing, a.press, a.lift, a.fault, a.liftFailed)

theorem Sequencer.course_finish (old p : Sequencer) (all : Bool) (x : Side) :
    ((old.finish p all).val.arm x).course = (p.arm x).course := by
  show ((p.drive.takeDemands).arm x).course = _
  unfold Sequencer.drive
  split
  all_goals cases x <;> rfl

/-- A stopped arm has its broom coil at 0 in a working mode, and as it was otherwise. -/
theorem Sequencer.broom_finish (old p : Sequencer) (all : Bool) {x : Side} (h : (p.arm x).state.sweeping = false)
    (hb : p.mode.working = true → (p.arm x).broom = 0) :
    ((old.finish p all).val.arm x).broom = (p.arm x).broom := by
  show ((p.drive.takeDemands).arm x).broom = _
  unfold Sequencer.drive
  split
  next hw =>
    rw [hb hw]
    cases x
    · exact if_neg (by rw [show p.left.state.sweeping = false from h]; nofun)
    · exact if_neg (by rw [show p.right.state.sweeping = false from h]; nofun)
  next => cases x <;> rfl

/-- The main broom but for its coil and its demand. -/
def MainRecord.course (b : MainRecord) : BroomState × Option Time × Option FaultCause × Bool × Bool :=
  (b.state, b.timer, b.fault, b.lift, b.liftFailed)

theorem Sequencer.mainCourse_finish (old p : Sequencer) (all : Bool) :
    (old.finish p all).val.main.course = p.main.course := by
  show p.drive.takeDemands.main.course = _
  unfold Sequencer.drive
  split
  all_goals rfl

theorem Sequencer.mainBroom_finish (old p : Sequencer) (all : Bool) (h : p.main.state ≠ .down)
    (hb : p.mode.working = true → p.main.broom = 0) : (old.finish p all).val.main.broom = p.main.broom := by
  show p.drive.takeDemands.main.broom = _
  unfold Sequencer.drive
  by_cases hw : p.mode.working = true
  · rw [if_pos hw, hb hw]
    exact if_neg h
  · rw [if_neg hw]
    rfl

/-! ### A LIFT position that is reported -/

section
variable {a : ArmRecord} {x : Side} {t : Moment} {service f : Bool}

theorem ArmRecord.takeFailed_of_known (h : f = false ∨ a.liftFailed = true) :
    a.takeFailed x t service f = .pure { a with liftFailed := f } :=
  if_neg (by obtain rfl | h := h <;> simp [*])

theorem ArmRecord.takeFailed_of_fault (h : a.state = .fault) :
    (a.takeFailed x t service f).val.state = .fault ∧ (a.takeFailed x t service f).val.fault = a.fault ∧
      (a.takeFailed x t service f).val.outcomes = a.outcomes := by
  unfold ArmRecord.takeFailed
  dsimp only
  rw [if_pos h]
  split
  all_goals exact ⟨h, rfl, rfl⟩

theorem ArmRecord.takeFailed_of_new (hf : f = true) (hl : a.liftFailed = false) (hs : a.state ≠ .fault) :
    a.takeFailed x t service f = { a with liftFailed := true }.toFault x t service .liftFailed := by
  subst hf
  unfold ArmRecord.takeFailed
  dsimp only
  rw [if_pos (by simp [hl]), if_neg hs]

theorem ArmRecord.liftFailed_takeFailed : (a.takeFailed x t service f).val.liftFailed = f := by
  have hc : ∀ b : ArmRecord, (b.closeMotion x t .faulted none).val.liftFailed = b.liftFailed := fun b => by
    unfold ArmRecord.closeMotion
    split <;> rfl
  unfold ArmRecord.takeFailed ArmRecord.toFault
  dsimp only
  split
  · split
    · rfl
    · dsimp only [Emit.andThen]
      split
      all_goals exact hc _
  · rfl

/-- The numbers of ARM_OUTCOME. -/
theorem outcome_number (o : MotionOutcome) (k : MotionKind) :
    o.number + 4 * k.number =
      [MotionOutcome.done, .timedOut, .aborted, .faulted].idxOf o + 4 * [MotionKind.swingOut, .swingIn, .yield].idxOf k := by
  cases o <;> cases k <;> rfl

/-- An open motion that is closed is recorded. -/
theorem ArmRecord.records_closeMotion (a : ArmRecord) (x : Side) (t : Moment) (o : MotionOutcome)
    (c : Option AbortCause) {b : ArmRecord} {out : List Offer} (hb : b.outcomes = (a.closeMotion x t o c).val.outcomes)
    (hout : ∀ y ∈ (a.closeMotion x t o c).out, y ∈ out) : a.records b x t o c out := by
  intro m hm
  have he : a.closeMotion x t o c =
      ⟨{ a with
        motion := none
        outcomes := (⟨m.kind, o, m.attempts, t.path, t.now - m.openedAt, c⟩ :: a.outcomes).take 3 },
      [.post .armOutcome (sideNumber x) ((o.number + 4 * m.kind.number : Nat) : Int)]⟩ := by
    unfold ArmRecord.closeMotion
    rw [hm]
    rfl
  rw [he] at hb hout
  refine ⟨hb, hout _ ?_⟩
  rw [outcome_number]
  exact List.mem_singleton.2 rfl

/-- The record of an arm that has come to FAULT. -/
theorem ArmRecord.toFault_course (a : ArmRecord) (x : Side) (t : Moment) (service : Bool) (c : FaultCause) :
    (a.toFault x t service c).val.course =
      ((.fault, none, none, (a.closeMotion x t .faulted none).val.outcomes),
        if service then a.swing else 0, if service then a.press else 0, false, some c, a.liftFailed) ∧
      (a.toFault x t service c).val.broom = if service then a.broom else 0 := by
  unfold ArmRecord.toFault ArmRecord.closeMotion
  cases service <;> cases hm : a.motion
  all_goals simp [Emit.andThen, Emit.pure, ArmRecord.course, ArmRecord.enter, ArmState.sweeping, ArmState.lowered,
    ArmRecord.swingFor, hm]

end

section
variable {b : MainRecord} {service f : Bool}

theorem MainRecord.takeFailed_of_known (h : f = false ∨ b.liftFailed = true ∨ b.state = .fault) :
    (b.takeFailed service f).val.state = b.state ∧ (b.takeFailed service f).val.fault = b.fault ∧
      (b.takeFailed service f).val.timer = b.timer := by
  unfold MainRecord.takeFailed
  dsimp only
  split
  next hn =>
    have hs : b.state = .fault := by
      simp only [Bool.and_eq_true, Bool.not_eq_true'] at hn
      obtain rfl | h | h := h
      · cases hn.1
      · rw [h] at hn
        cases hn.2
      · exact h
    rw [if_pos hs]
    exact ⟨rfl, rfl, rfl⟩
  next => exact ⟨rfl, rfl, rfl⟩

theorem MainRecord.takeFailed_of_new (hf : f = true) (hl : b.liftFailed = false) (hs : b.state ≠ .fault) :
    (b.takeFailed service f).val.course = (.fault, none, some .liftFailed, false, true) ∧
      (b.takeFailed service f).val.broom = (if service then b.broom else 0) ∧
      (b.takeFailed service f).out = [.post .broomFault 0 1] := by
  subst hf
  unfold MainRecord.takeFailed MainRecord.toFault
  dsimp only
  rw [if_pos (by simp [hl]), if_neg hs]
  cases service
  all_goals exact ⟨rfl, rfl, rfl⟩

theorem MainRecord.liftFailed_takeFailed : (b.takeFailed service f).val.liftFailed = f := by
  unfold MainRecord.takeFailed MainRecord.toFault
  dsimp only
  split
  · split
    · rfl
    · dsimp only
      split <;> rfl
  · rfl

end

/-! ### The offer of failed LIFT positions -/

/-- What is told of an arm, by its side. -/
def perSide (l r : Bool) : Side → Bool
  | .left => l
  | .right => r

/-- The records that have taken the failed LIFT positions, before the end of the event. -/
def Sequencer.failedTaken (q : Sequencer) (t : Moment) (l r m : Bool) : Sequencer :=
  { q with
    left := (q.left.takeFailed .left t (q.mode == Mode.service) l).val
    right := (q.right.takeFailed .right t (q.mode == Mode.service) r).val
    main := (q.main.takeFailed (q.mode == Mode.service) m).val }

theorem Sequencer.takeFailed_eq (q : Sequencer) (t : Moment) (l r m : Bool) :
    q.takeFailed t l r m =
      ⟨(q.finish (q.failedTaken t l r m) false).val,
        (q.left.takeFailed .left t (q.mode == Mode.service) l).out ++
          ((q.right.takeFailed .right t (q.mode == Mode.service) r).out ++
            ((q.main.takeFailed (q.mode == Mode.service) m).out ++ (q.finish (q.failedTaken t l r m) false).out))⟩ := rfl

theorem Sequencer.arm_failedTaken (q : Sequencer) (t : Moment) (l r m : Bool) (x : Side) :
    (q.failedTaken t l r m).arm x =
      ((q.arm x).takeFailed x t (q.mode == Mode.service) (perSide l r x)).val := by
  cases x <;> rfl

theorem Sequencer.out_takeFailed (q : Sequencer) (t : Moment) (l r m : Bool) (x : Side) {o : Offer}
    (h : o ∈ ((q.arm x).takeFailed x t (q.mode == Mode.service) (perSide l r x)).out) :
    o ∈ (q.takeFailed t l r m).out := by
  rw [Sequencer.takeFailed_eq]
  cases x
  · exact List.mem_append_left _ h
  · exact List.mem_append_right _ (List.mem_append_left _ h)

/-- An arm whose LIFT position is reported failed for the first time. -/
theorem Sequencer.takeFailed_new (q : Sequencer) (t : Moment) (l r m : Bool) (x : Side)
    (hf : (perSide l r x) = true) (hl : (q.arm x).liftFailed = false)
    (hs : (q.arm x).state ≠ .fault) :
    (q.arm x).records ((q.takeFailed t l r m).val.arm x) x t .faulted none (q.takeFailed t l r m).out ∧
      .post .armFault (sideNumber x) 1 ∈ (q.takeFailed t l r m).out ∧
      ∃ outcomes,
        ((q.takeFailed t l r m).val.arm x).course =
          ((.fault, none, none, outcomes), if q.mode = .service then (q.arm x).swing else 0,
            if q.mode = .service then (q.arm x).press else 0, false, some .liftFailed, true) ∧
        ((q.takeFailed t l r m).val.arm x).broom = if q.mode = .service then (q.arm x).broom else 0 := by
  have hnew := ArmRecord.takeFailed_of_new (x := x) (t := t) (service := q.mode == Mode.service) hf hl hs
  obtain ⟨hcourse, hbroom⟩ := ArmRecord.toFault_course { q.arm x with liftFailed := true } x t (q.mode == Mode.service)
    .liftFailed
  have harm : ((q.failedTaken t l r m).arm x) =
      ({ q.arm x with liftFailed := true }.toFault x t (q.mode == Mode.service) .liftFailed).val := by
    rw [Sequencer.arm_failedTaken, hnew]
  have hout : ∀ o ∈ ({ q.arm x with liftFailed := true }.toFault x t (q.mode == Mode.service) .liftFailed).out,
      o ∈ (q.takeFailed t l r m).out := fun o ho => q.out_takeFailed t l r m x (by rwa [hnew])
  have hc := (q.course_finish (q.failedTaken t l r m) false x).trans ((congrArg ArmRecord.course harm).trans hcourse)
  have hb : ((q.takeFailed t l r m).val.arm x).broom = if q.mode == Mode.service then (q.arm x).broom else 0 := by
    refine (q.broom_finish (q.failedTaken t l r m) false ?_ fun hw => ?_).trans ((congrArg (·.broom) harm).trans hbroom)
    · rw [show ((q.failedTaken t l r m).arm x).state = .fault by
        rw [harm]; exact congrArg (·.1.1) hcourse]
      rfl
    · have hn : (q.mode == Mode.service) = false := by
        rw [beq_eq_false_iff_ne]
        intro he
        rw [show (q.failedTaken t l r m).mode = q.mode from rfl, he] at hw
        cases hw
      rw [harm]
      exact hbroom.trans (by rw [hn]; rfl)
  simp only [beq_iff_eq] at hc hb
  refine ⟨?_, hout _ (List.mem_append_right _ (List.mem_singleton.2 rfl)), _, hc, hb⟩
  exact ArmRecord.records_closeMotion { q.arm x with liftFailed := true } x t .faulted none
    (congrArg (·.1.2.2.2) hc) fun y hy => hout y (List.mem_append_left _ hy)

/-- An arm that is told nothing new. -/
theorem Sequencer.takeFailed_known (q : Sequencer) (t : Moment) (l r m : Bool) (x : Side)
    (h : (perSide l r x) = false ∨ (q.arm x).liftFailed = true) :
    (q.arm x).stays ((q.takeFailed t l r m).val.arm x) := by
  have harm := q.arm_failedTaken t l r m x
  rw [ArmRecord.takeFailed_of_known h] at harm
  have hc := (q.course_finish (q.failedTaken t l r m) false x).trans (congrArg ArmRecord.course harm)
  simp only [ArmRecord.course, Emit.pure, Prod.mk.injEq] at hc
  obtain ⟨⟨h1, h2, h3, h4⟩, h5, -, h6, h7, -⟩ := hc
  exact ⟨h1, h2, h3, h4, h5, h6, h7⟩

/-- An arm in FAULT stays in it. -/
theorem Sequencer.takeFailed_fault (q : Sequencer) (t : Moment) (l r m : Bool) (x : Side) (h : (q.arm x).state = .fault) :
    ((q.takeFailed t l r m).val.arm x).state = .fault ∧
      ((q.takeFailed t l r m).val.arm x).fault = (q.arm x).fault ∧
      ((q.takeFailed t l r m).val.arm x).outcomes = (q.arm x).outcomes := by
  obtain ⟨hs, hf, ho⟩ := ArmRecord.takeFailed_of_fault (x := x) (t := t) (service := q.mode == Mode.service)
    (f := perSide l r x) h
  have hc := (q.course_finish (q.failedTaken t l r m) false x).trans
    (congrArg ArmRecord.course (q.arm_failedTaken t l r m x))
  simp only [ArmRecord.course, Prod.mk.injEq] at hc
  obtain ⟨⟨h1, -, -, h4⟩, -, -, -, h7, -⟩ := hc
  exact ⟨h1.trans hs, h7.trans hf, h4.trans ho⟩

theorem Sequencer.takeFailed_liftFailed (q : Sequencer) (t : Moment) (l r m : Bool) (x : Side) :
    ((q.takeFailed t l r m).val.arm x).liftFailed = perSide l r x := by
  have hc := (q.course_finish (q.failedTaken t l r m) false x).trans
    (congrArg ArmRecord.course (q.arm_failedTaken t l r m x))
  exact (congrArg (·.2.2.2.2.2) hc).trans ArmRecord.liftFailed_takeFailed

/-- The main broom whose LIFT position is reported failed for the first time. -/
theorem Sequencer.takeFailed_mainNew (q : Sequencer) (t : Moment) (l r m : Bool) (hf : m = true)
    (hl : q.main.liftFailed = false) (hs : q.main.state ≠ .fault) :
    (q.takeFailed t l r m).val.main.course = (.fault, none, some .liftFailed, false, true) ∧
      (q.takeFailed t l r m).val.main.broom = (if q.mode = .service then q.main.broom else 0) ∧
      .post .broomFault 0 1 ∈ (q.takeFailed t l r m).out := by
  obtain ⟨hcourse, hbroom, hout⟩ := MainRecord.takeFailed_of_new (service := q.mode == Mode.service) hf hl hs
  have hstate : (q.failedTaken t l r m).main.state = .fault := congrArg (·.1) hcourse
  refine ⟨(q.mainCourse_finish (q.failedTaken t l r m) false).trans hcourse, ?_, ?_⟩
  · refine ((q.mainBroom_finish (q.failedTaken t l r m) false (by rw [hstate]; nofun) fun hw => ?_).trans hbroom).trans
      (if_congr beq_iff_eq rfl rfl)
    have hn : (q.mode == Mode.service) = false := by
      rw [beq_eq_false_iff_ne]
      intro he
      rw [show (q.failedTaken t l r m).mode = q.mode from rfl, he] at hw
      cases hw
    exact hbroom.trans (by rw [hn]; rfl)
  · rw [Sequencer.takeFailed_eq, hout]
    exact List.mem_append_right _ (List.mem_append_right _ (List.mem_append_left _ (List.mem_singleton.2 rfl)))

/-- A main broom that is told nothing new, or in FAULT. -/
theorem Sequencer.takeFailed_mainKnown (q : Sequencer) (t : Moment) (l r m : Bool)
    (h : m = false ∨ q.main.liftFailed = true ∨ q.main.state = .fault) :
    (q.takeFailed t l r m).val.main.state = q.main.state ∧ (q.takeFailed t l r m).val.main.fault = q.main.fault ∧
      (q.takeFailed t l r m).val.main.timer = q.main.timer := by
  obtain ⟨hs, hf, ht⟩ := MainRecord.takeFailed_of_known (service := q.mode == Mode.service) h
  have hc := q.mainCourse_finish (q.failedTaken t l r m) false
  simp only [MainRecord.course, Prod.mk.injEq] at hc
  obtain ⟨h1, h2, h3, -⟩ := hc
  exact ⟨h1.trans hs, h3.trans hf, h2.trans ht⟩

/-! ### CLEAR_FAILED -/

theorem clearFailedBody_of_mode {s : State} (set : Mask) (ho : s.offers = []) (hm : s.mc.mode ≠ .service) :
    clearFailedBody set s = (s, ⟨.wrongMode, []⟩) := by
  unfold clearFailedBody Chain.clearFailed
  rw [if_neg hm]
  show ((s.withChain (.pure s.chain)).settle, _) = _
  rw [State.withChain_pure, State.settle_of_offers_nil (s.setChain s.chain) ho]
  rfl

theorem clearFailedBody_of_service {s : State} (set : Mask) (hm : s.mc.mode = .service) :
    clearFailedBody set s =
      ((s.withChain (s.chain.unfail set)).settle, ⟨.ok, bytes2 (s.chain.failed &&& ~~~set).toNat⟩) := by
  have hf : (s.chain.unfail set).val.failed = s.chain.failed &&& ~~~set := (Chain.recompose_kept _).2.1
  unfold clearFailedBody Chain.clearFailed
  rw [if_pos hm]
  show (_, Reply.okWith (bytes2 (s.chain.unfail set).val.failed.toNat)) = _
  rw [hf]
  rfl

/-- The counts once positions have left the failed set. -/
def Chain.countsWithout (c : Chain) (set : Mask) : Vector Nat 16 :=
  Vector.ofFn fun i => if (c.failed &&& set).getLsbD i.val then 0 else c.counts.get i

theorem Chain.get_countsWithout (c : Chain) (set : Mask) (i : Fin 16) :
    (c.countsWithout set).get i =
      if c.failed.getLsbD i.val && set.getLsbD i.val then 0 else c.counts.get i := by
  rw [← BitVec.getLsbD_and]
  exact Vector.getElem_ofFn i.isLt

theorem Chain.goes_unfail (c : Chain) (set : Mask) :
    (c.unfail set).val.Goes (c.failed &&& ~~~set) (c.countsWithout set) false false :=
  Chain.Goes.recompose (c := { c with failed := c.failed &&& ~~~set, counts := c.countsWithout set })
    ⟨rfl, rfl, nofun, nofun⟩

theorem State.settle_unfail {s : State} (ho : s.offers = []) (set : Mask) :
    (s.withChain (s.chain.unfail set)).settle.chain.Goes (s.chain.failed &&& ~~~set) (s.chain.countsWithout set)
      false false := by
  refine State.settle_goes (s := s.withChain (s.chain.unfail set)) (s.chain.goes_unfail set) ?_
  show ∀ o ∈ s.offers ++ _, _
  rw [ho]
  exact Chain.inner_ownerOffers _ _

/-! ### A completion as a whole -/

/-- The state in which the check of a completion is offered. -/
def State.checked (s : State) (echo fault : Mask) : State := s.withChain (s.chain.complete echo fault)

theorem State.offers_checked {s : State} (ho : s.offers = []) (echo fault : Mask) :
    (s.checked echo fault).offers = s.chain.failPosts echo fault ++ s.chain.failOffers echo fault := by
  show s.offers ++ _ = _
  rw [ho]
  rfl

theorem Chain.notices_failPosts (c : Chain) (echo fault : Mask) : Notices (c.failPosts echo fault) := by
  intro o ho
  obtain ⟨i, -, rfl⟩ := List.mem_map.1 ho
  rfl

theorem State.checked_records (s : State) (echo fault : Mask) :
    (s.checked echo fault).configuration = s.configuration ∧
      (s.checked echo fault).standing =
        { s.standing with loaded := s.chain.shifted, prevLoaded := s.chain.loaded, echo := echo, fault := fault } := by
  have hr : (s.checked echo fault).chain.record = (s.chain.shifted, s.chain.loaded, echo, fault) :=
    (Chain.record_recompose _).trans rfl
  simp only [Chain.record, Prod.mk.injEq] at hr
  obtain ⟨h1, h2, h3, h4⟩ := hr
  refine ⟨rfl, ?_⟩
  show ({ s.standing with
    loaded := (s.checked echo fault).chain.loaded, prevLoaded := (s.checked echo fault).chain.prevLoaded
    echo := (s.checked echo fault).chain.echo, fault := (s.checked echo fault).chain.fault } : Standing) = _
  rw [h1, h2, h3, h4]

theorem State.settle_checked {s : State} (ho : s.offers = []) (hs : s.chain.shifting = true) (echo fault : Mask) :
    (s.checked echo fault).settle.chain.Goes (s.chain.checked echo fault).failed (s.chain.checked echo fault).counts
      true s.chain.waiting := by
  refine State.settle_goes (s := s.checked echo fault)
    (Chain.Goes.recompose (c := s.chain.checked echo fault) ⟨rfl, rfl, fun _ => hs, fun _ => id⟩) fun o h => ?_
  rw [State.offers_checked ho] at h
  obtain h | h := List.mem_append.1 h
  · obtain ⟨i, -, rfl⟩ := List.mem_map.1 h
    rfl
  · exact Chain.inner_ownerOffers _ _ o h

/-- What the owners hold of the failed positions once a completion is over. -/
theorem State.settle_checked_owners {s : State} (ho : s.offers = []) (echo fault : Mask) :
    ((s.checked echo fault).settle.held.failed.1 = (s.chain.checked echo fault).failedLifts ∨
        (s.checked echo fault).settle.held.failed.1 = s.held.failed.1 ∧
          (s.chain.checked echo fault).failed &&& liftMask = s.chain.failed &&& liftMask) ∧
      ((s.checked echo fault).settle.held.failed.2 = (s.chain.checked echo fault).failedWater ∨
        (s.checked echo fault).settle.held.failed.2 = s.held.failed.2 ∧
          (s.chain.checked echo fault).failed &&& ~~~liftMask = s.chain.failed &&& ~~~liftMask) := by
  obtain ⟨hl, hw⟩ := State.settle_owners (s := s.checked echo fault) (c := (s.chain.checked echo fault).recompose)
    (s.chain.notices_failPosts echo fault) (s.chain.length_failPosts echo fault) (State.offers_checked ho echo fault)
  have hf : (s.chain.checked echo fault).recompose.failed = (s.chain.checked echo fault).failed :=
    (Chain.recompose_kept _).2.1
  have hx := s.chain.checked_failed echo fault
  simp only [Chain.failedLifts, Chain.failedWater, hf] at hl hw
  exact ⟨hl.imp_right fun h => ⟨h.1, and_eq_of_xor hx h.2⟩, hw.imp_right fun h => ⟨h.1, and_eq_of_xor hx h.2⟩⟩

/-- Failed sets that agree in the LIFT positions. -/
theorem getLsbD_lift_of_and_eq {a b : Mask} (h : a &&& liftMask = b &&& liftMask) {i : Nat}
    (hi : liftMask.getLsbD i = true) : a.getLsbD i = b.getLsbD i := by
  have := congrArg (BitVec.getLsbD · i) h
  simpa only [BitVec.getLsbD_and, hi, Bool.and_true] using this

end Sys2Proof.Machine

open Sys2Proof Sys2Proof.Machine

/-- Settles O52: the timer and the check by the driver's record; what follows a completion keeps failed set, counts and
running refresh; the failed LIFT positions by the records that take them. -/
theorem chainIsRefreshedCheckedAndCleared : Obligations.ChainIsRefreshedCheckedAndCleared := by
  refine ⟨fun s ho => ⟨fun hr => ?_, fun hr => ⟨fun hs => ?_, fun hs => ?_⟩, fun echo fault => ⟨fun hs => ?_, fun hs => ?_⟩⟩,
    fun s l r m => ⟨(s.sequencer.takeFailed s.moment l r m).val, (s.sequencer.takeFailed s.moment l r m).out, rfl,
      fun x f a b hf ha hb => ?_, ?_, fun hm hl hs => ?_, fun h => ?_⟩,
    fun p tag set s h ho => ⟨fun hm => ?_, fun hm => ?_⟩⟩
  · exact congrArg (fun c => Host.Outcome.next (s.setChain c)) (Chain.timerExpiry_of_early hr)
  · exact congrArg (fun c => Host.Outcome.next (s.setChain c)) (Chain.timerExpiry_of_idle hr hs)
  · exact congrArg (fun c => Host.Outcome.next (s.setChain c)) (Chain.timerExpiry_of_shifting hr hs)
  · exact congrArg Host.Outcome.next (if_neg (by simp [hs]))
  · obtain ⟨hf, hn, hshift, hwait⟩ := State.settle_checked ho hs echo fault
    obtain ⟨af, an, aw, as, ago, ar⟩ := (s.checked echo fault).settle.chain.afterCompletion_eq
    obtain ⟨kconf, kstand⟩ := State.settle_kept (s.checked echo fault)
    obtain ⟨cconf, cstand⟩ := s.checked_records echo fault
    obtain ⟨hlifts, hwater⟩ := State.settle_checked_owners ho echo fault
    have hfail := af.trans hf
    have hpos := s.chain.checked_position echo fault
    refine ⟨(s.checked echo fault).settle.setChain (s.checked echo fault).settle.chain.afterCompletion,
      congrArg Host.Outcome.next (if_pos hs), kconf.trans cconf, ?_, fun i => ?_, aw, as,
      fun hw => ago (hwait rfl hw), ?_, ?_, ?_, ?_, (s.chain.checked echo fault).recompose,
      s.chain.failPosts echo fault ++ s.chain.failOffers echo fault, (s.checked echo fault).settle, rfl, rfl, fun i v => ?_⟩
    · exact (Kept.setChain (s.checked echo fault).settle _ ar).2.trans (kstand.trans cstand)
    · show (_ → (Chain.afterCompletion _).counts.get i = _ ∧ (Chain.afterCompletion _).failed.getLsbD _ = _) ∧
        (_ → (Chain.afterCompletion _).counts.get i = _ ∧ (Chain.afterCompletion _).failed.getLsbD _ =
          decide (2 ≤ (Chain.afterCompletion _).counts.get i))
      rw [an, hn, hfail]
      exact hpos i
    · exact hlifts.imp (fun h => (congrArg (·.1) h).trans (congrArg (·.getLsbD 12) hfail).symm) fun h =>
        ⟨congrArg (·.1) h.1, (congrArg (·.getLsbD 12) hfail).trans (getLsbD_lift_of_and_eq h.2 rfl)⟩
    · exact hlifts.imp (fun h => (congrArg (·.2.1) h).trans (congrArg (·.getLsbD 13) hfail).symm) fun h =>
        ⟨congrArg (·.2.1) h.1, (congrArg (·.getLsbD 13) hfail).trans (getLsbD_lift_of_and_eq h.2 rfl)⟩
    · exact hlifts.imp (fun h => (congrArg (·.2.2) h).trans (congrArg (·.getLsbD 14) hfail).symm) fun h =>
        ⟨congrArg (·.2.2) h.1, (congrArg (·.getLsbD 14) hfail).trans (getLsbD_lift_of_and_eq h.2 rfl)⟩
    · exact hwater.imp
        (fun h => ⟨(congrArg (·.1) h).trans (congrArg nozzlesOf hfail).symm,
          (congrArg (·.2) h).trans (congrArg (·.getLsbD 15) hfail).symm⟩)
        fun h => ⟨congrArg (·.1) h.1, congrArg (·.2) h.1, (congrArg (· &&& ~~~liftMask) hfail).trans h.2⟩
    · have hno : Offer.post .chainFailed i v ∉ s.chain.failOffers echo fault := Chain.post_notMem_ownerOffers _ _ _ _ _
      rw [List.mem_append, or_iff_left hno, Chain.mem_failPosts]
      show _ ↔ ∃ k : Fin 16, _ ∧ _ ∧ (Chain.afterCompletion _).failed.getLsbD _ = true ∧ _
      rw [hfail]
  · subst ha hb
    have hf : f = perSide l r x := by cases x <;> exact hf
    subst hf
    refine ⟨Sequencer.takeFailed_liftFailed _ _ _ _ _ x, fun hf hl hs => ?_, Sequencer.takeFailed_known _ _ _ _ _ x,
      Sequencer.takeFailed_fault _ _ _ _ _ x⟩
    obtain ⟨hrec, hpost, outcomes, hc, hb⟩ := s.sequencer.takeFailed_new s.moment l r m x hf hl hs
    simp only [ArmRecord.course, Prod.mk.injEq] at hc
    obtain ⟨⟨h1, h2, h3, -⟩, h5, h6, h7, h8, -⟩ := hc
    refine ⟨hrec, hpost, h1, h8, h2, h3, h7, ?_⟩
    rw [h5, hb, h6]
    split <;> rfl
  · exact (congrArg (·.2.2.2.2) (s.sequencer.mainCourse_finish (s.sequencer.failedTaken s.moment l r m) false)).trans
      MainRecord.liftFailed_takeFailed
  · obtain ⟨hc, hb, hpost⟩ := s.sequencer.takeFailed_mainNew s.moment l r m hm hl hs
    simp only [MainRecord.course, Prod.mk.injEq] at hc
    obtain ⟨h1, h2, h3, h4, -⟩ := hc
    exact ⟨hpost, h1, h3, h2, h4, hb⟩
  · exact s.sequencer.takeFailed_mainKnown s.moment l r m h
  · exact exec_of_body .clearFailed rfl h (clearFailedBody_of_mode set ho hm)
  · obtain ⟨hf, hn, -, -⟩ := State.settle_unfail ho set
    have hkept : Kept s (s.withChain (s.chain.unfail set)).settle :=
      ((Kept.setChain s _ (Chain.record_unfail _ _)).trans (Kept.emit _ _)).trans (State.settle_kept _)
    refine ⟨_, exec_of_body .clearFailed rfl h (clearFailedBody_of_service set hm), hkept, hf, fun i => ?_⟩
    rw [hn]
    exact s.chain.get_countsWithout set i
end

section
/-! START (02 R30, R31): the prerequisites, and what the blocks make of it. -/

namespace Sys2Proof.Machine

/-! ### Readiness -/

theorem State.roleReady_iff (s : State) (r : Role) : s.scanner.roleReady r = true ↔ s.roleAssigned r := by
  unfold Scanner.roleReady State.roleAssigned
  cases h : (s.scanner.roleMap.get r.index).channel with
  | none => simp
  | some ch =>
    simp only [Scanner.inList, List.any_eq_true, beq_iff_eq, Option.some.injEq]
    exact ⟨fun ⟨e, hm, hc⟩ => ⟨ch, e, rfl, hm, hc⟩, fun ⟨_, e, he, hm, hc⟩ => ⟨e, hm, hc.trans he.symm⟩⟩

/-- The five prerequisites as the bits of the readiness byte, from the least significant. -/
theorem byte_flags (a b c d e : Bool) :
    ∀ n, n = byte ((if a then 1 else 0) + (if b then 2 else 0) + (if c then 0 else 4) + (if d then 0 else 8) +
      (if e then 0 else 16)) →
    (n.getLsbD 0 = a ∧ n.getLsbD 1 = b ∧ n.getLsbD 2 = !c ∧ n.getLsbD 3 = !d ∧ n.getLsbD 4 = !e) ∧ n.toNat < 32 := by
  rintro n rfl
  revert a b c d e
  decide

/-- No fault is ready. -/
theorem State.readiness_eq_zero (s : State) :
    s.readiness = 0 ↔ s.mc.estopAsserted = false ∧ s.mc.haltTrip = false ∧
      requiredRoles.all s.scanner.roleReady = true ∧ (s.selector.rows.get 0).valid = true ∧
      s.governor.map.valid = true := by
  unfold State.readiness
  cases s.mc.estopAsserted <;> cases s.mc.haltTrip <;> cases requiredRoles.all s.scanner.roleReady <;>
    cases (s.selector.rows.get 0).valid <;> cases s.governor.map.valid <;> simp

theorem State.requiredRoles_iff (s : State) :
    requiredRoles.all s.scanner.roleReady = true ↔
      ∀ r ∈ ([.drivePress, .grade, .armPosL, .armPosR, .armPressL, .armPressR, .tankLevel] : List Role),
        s.roleAssigned r := by
  rw [List.all_eq_true]
  exact forall₂_congr fun r _ => s.roleReady_iff r

theorem DriveMap.valid_iff (m : DriveMap) : m.valid = true ↔ 100 ≤ m.fullSpeed ∧ 1 ≤ m.full ∧ m.start ≤ m.full := by
  simp [DriveMap.valid, and_assoc]

theorem State.mayStart_iff (s : State) : s.mayStart ↔ s.readiness = 0 := by
  rw [State.readiness_eq_zero, State.requiredRoles_iff, DriveMap.valid_iff]
  rfl

/-! ### The body of START -/

theorem startBody_of_working {s : State} (h : s.mc.mode.working = true) : startBody s = (s, ⟨.wrongMode, []⟩) := by
  unfold startBody
  cases hm : s.mc.mode
  case halted | service => rw [hm] at h; cases h
  all_goals rfl

theorem startBody_of_not_working {s : State} (h : s.mc.mode.working = false) :
    startBody s = if s.readiness ≠ 0 then (s, ⟨.notReady, [byte s.readiness]⟩) else (s.started, ⟨.ok, [1]⟩) := by
  unfold startBody
  cases hm : s.mc.mode
  case halted | service => rfl
  all_goals
    rw [hm] at h
    cases h

/-! ### The offers of START -/

/-- What START offers once scanner, pulse unit and selector have taken theirs. -/
def State.startOffers (s : State) : List Offer :=
  [.sequencerStart, .governorStart, .waterStart, .post .modeChanged Cause.start.number Mode.transport.number] ++
    s.selector.start.out

/-- Offers of START, and minor ones. -/
def State.StartOffer (s : State) (o : Offer) : Prop := o.minor = true ∨ o ∈ s.startOffers

theorem State.mem_startOffers {s : State} {o : Offer} (h : o ∈ s.startOffers) :
    o.inner = true ∧ o.receiver ≠ some .scanner ∧ o.receiver ≠ some .pulse ∧ o.receiver ≠ some .selector ∧
      o.receiver ≠ some .chain := by
  simp only [State.startOffers, Selector.start, Profile.jobOffers, List.mem_append, List.mem_cons, List.not_mem_nil,
    or_false] at h
  obtain (rfl | rfl | rfl | rfl) | rfl | rfl | rfl | rfl | rfl := h
  all_goals exact ⟨rfl, nofun, nofun, nofun, nofun⟩

theorem Offer.receiver_of_minor_ne {o : Offer} (h : o.minor = true) :
    o.receiver ≠ some .scanner ∧ o.receiver ≠ some .pulse ∧ o.receiver ≠ some .selector := by
  refine ⟨Offer.receiver_of_minor h, fun hr => ?_, fun hr => ?_⟩
  all_goals
    cases o
    case holderChanged d => cases d <;> cases hr
    case pulseStart | pulseRestart | selectorStart | selectorRestart | selectorPath => cases h
    all_goals cases hr

theorem State.StartOffer.inner {s : State} {o : Offer} (h : s.StartOffer o) : o.inner = true :=
  h.elim Offer.inner_of_minor fun h => (State.mem_startOffers h).1

theorem State.StartOffer.receiver {s : State} {o : Offer} (h : s.StartOffer o) :
    o.receiver ≠ some .scanner ∧ o.receiver ≠ some .pulse ∧ o.receiver ≠ some .selector := by
  obtain h | h := h
  · exact Offer.receiver_of_minor_ne h
  · obtain ⟨-, h1, h2, h3, -⟩ := State.mem_startOffers h
    exact ⟨h1, h2, h3⟩

/-- What START has made of mode controller, scanner, pulse unit and selector, once these have taken it. -/
structure State.Starting (s t : State) : Prop where
  entry : t.mc.entry = (.transport, .start, s.mc.time)
  time : t.mc.time = s.mc.time
  scanner : t.scanner = s.scanner.start s.mc.time
  pulse : t.pulse = s.pulse.start
  selector : t.selector = s.selector.start.val

theorem State.Starting.mode {s t : State} (h : s.Starting t) : t.mc.mode ≠ .stowing := by
  rw [show t.mc.mode = .transport from congrArg (·.1) h.entry]
  nofun

theorem closed_starting (s : State) : Closed s.StartOffer s.StartOffer s.Starting where
  sub _ := id
  setOffers _ _ h := ⟨h.entry, h.time, h.scanner, h.pulse, h.selector⟩
  keeps o t ho h := by
    obtain ⟨h1, h2, h3⟩ := ho.receiver
    obtain ⟨_, _, _, hmc⟩ := deliver_inner_mc ho.inner h.mode
    exact ⟨(deliver_entry ho.inner h.mode).trans h.entry, (congrArg (·.time) hmc).trans h.time,
      (deliver_scanner h1).trans h.scanner, (deliver_pulse h2).trans h.pulse, (deliver_selector h3).trans h.selector⟩
  made o t ho h := by
    obtain ⟨out, he, hm⟩ := deliver_minor ho.inner h.mode
    exact ⟨out, he, fun x hx => .inl (hm x hx)⟩

theorem State.starting_begun (s : State) : s.Starting s.begun := ⟨rfl, rfl, rfl, rfl, rfl⟩

theorem State.StartOffer.chain_mode {s : State} {o : Offer} (h : s.StartOffer o) (t : State) :
    (deliver o t).chain.mode = t.chain.mode := by
  obtain h | h := h
  · exact deliver_chain_mode h t
  · rw [deliver_chain (State.mem_startOffers h).2.2.2.2]

/-- START is over in two settles, with the driver's mode between them. -/
theorem State.started_eq {s : State} (ho : s.offers = []) :
    (s.withMc s.mc.enterStart).settle.mc.entry = (.transport, .start, s.mc.time) ∧
      s.started = ((s.withMc s.mc.enterStart).settle.setChain
        ((s.withMc s.mc.enterStart).settle.chain.takeMode .transport)).settle := by
  have he : s.begun.offers = s.startOffers := State.offers_begun ho
  have hw : ∀ x ∈ s.begun.offers, s.StartOffer x := fun x hx => .inr (he ▸ hx)
  obtain ⟨hs, -⟩ := (closed_starting s).settleN 997 s.begun s.starting_begun hw
  have hentry : (s.withMc s.mc.enterStart).settle.mc.entry = (.transport, .start, s.mc.time) := by
    rw [State.settle_enterStart ho]
    exact hs.entry
  refine ⟨hentry, ?_⟩
  have hmode : (s.withMc s.mc.enterStart).settle.mc.mode = .transport := congrArg (·.1) hentry
  unfold State.started
  dsimp only
  rw [hmode]

/-- What START makes of a block, and what the offers behind it keep, holds at its end. -/
theorem State.started_holds {s : State} (ho : s.offers = []) {P : State → Prop}
    (hset : ∀ t os, P t → P (t.setOffers os)) (hchain : ∀ t c, P t → P (t.setChain c))
    (hd : ∀ x t, s.StartOffer x → s.Starting t → P t → P (deliver x t)) {o : Offer} (hmem : o ∈ s.startOffers)
    (hb : ∀ t, s.Starting t → P (deliver o t)) : P s.started ∧ s.Starting s.started ∧ s.started.chain.mode = .transport := by
  have he : s.begun.offers = s.startOffers := State.offers_begun ho
  have hw : ∀ x ∈ s.begun.offers, s.StartOffer x := fun x hx => .inr (he ▸ hx)
  obtain ⟨pre, post, hsplit⟩ := List.append_of_mem hmem
  have hlen : pre.length < 997 := by
    have h1 : s.startOffers.length = 9 := rfl
    have h2 := congrArg List.length hsplit
    rw [h1, List.length_append] at h2
    omega
  have hw' : ∀ x ∈ pre ++ o :: post, s.StartOffer x := hsplit ▸ he ▸ hw
  obtain ⟨hs, hso⟩ := (closed_starting s).settleN 997 s.begun s.starting_begun hw
  have hp : P (settleN 997 s.begun) := by
    refine ((closed_starting s).arrives hset hd (.inr hmem) hb 997 pre post s.begun (he.trans hsplit) s.starting_begun
      (fun x hx => hw' x (by simp [hx])) fun x hx => hw' x (by simp [hx])).resolve_right fun h => ?_
    have := h.2
    omega
  have hmode : (settleN 997 s.begun).mc.mode = .transport := congrArg (·.1) hs.entry
  have hclosed := ((closed_starting s).and hset hd).and (P := fun t => t.chain.mode = .transport) (fun _ _ => id)
    fun x t hx _ h => (hx.chain_mode t).trans h
  have hend := hclosed.settle (s := (settleN 997 s.begun).setChain ((settleN 997 s.begun).chain.takeMode .transport))
    ⟨⟨⟨hs.entry, hs.time, hs.scanner, hs.pulse, hs.selector⟩, hchain _ _ hp⟩, (Chain.recompose_kept _).1⟩ hso
  rw [(State.started_eq ho).2, State.settle_enterStart ho]
  exact ⟨hend.1.1.2, hend.1.1.1, hend.1.2⟩

end Sys2Proof.Machine
end

section
/-! START (02 R31): travel governor, implement sequencer and water controller (08 R138, 09 R157, 10 R168). -/

namespace Sys2Proof.Machine

/-! ### The ramp timer -/

theorem Governor.ramp_rederive (g : Governor) (now : Time) : (g.rederive now).val.rampTimer = g.rampTimer :=
  congrArg (fun x => x.2.2.2.2.1) (g.runs_rederive now).still

theorem Governor.ramp_takeCopies (g : Governor) (now : Time) (c : TravelCopies) :
    (g.takeCopies now c).val.rampTimer = g.rampTimer :=
  Governor.ramp_rederive { g with copies := c } now

theorem Governor.ramp_takeImplements (g : Governor) (now : Time) (r : ImplementReport) :
    (g.takeImplements now r).val.rampTimer = g.rampTimer :=
  congrArg (fun x => x.2.2.2.2.1) (g.runs_takeImplements now r).still

theorem Governor.ramp_start (g : Governor) (now : Time) : (g.start now).val.rampTimer = some (now + 10) :=
  congrArg (fun x => x.2.2.2.2.1) (g.runs_start now).still

/-- The offers of START, and minor ones, leave the ramp timer as START has set it. -/
theorem State.StartOffer.ramp {s : State} {o : Offer} (h : s.StartOffer o) {t : State} (ht : s.Starting t)
    (hr : t.governor.rampTimer = some (s.mc.time + 10)) :
    (deliver o t).governor.rampTimer = some (s.mc.time + 10) := by
  by_cases hg : o.receiver = some .governor
  case neg => rwa [deliver_governor hg]
  obtain h | h := h
  · cases o
    case governorGrant => exact (Governor.ramp_takeCopies _ _ _).trans hr
    case governorImplements => exact (Governor.ramp_takeImplements _ _ _).trans hr
    case holderChanged d => cases h
    all_goals first | exact absurd h Bool.false_ne_true | cases hg
  · simp only [State.startOffers, Selector.start, Profile.jobOffers, List.mem_append, List.mem_cons, List.not_mem_nil,
      or_false] at h
    obtain (rfl | rfl | rfl | rfl) | rfl | rfl | rfl | rfl | rfl := h
    · cases hg
    · exact (Governor.ramp_start _ _).trans (by rw [ht.time])
    · cases hg
    · cases hg
    · cases hg
    · cases hg
    · exact (Governor.ramp_takeCopies _ _ _).trans hr
    · cases hg
    · cases hg

/-! ### The regulation timer -/

theorem Sequencer.regTimer_finish (old p : Sequencer) (all : Bool) : (old.finish p all).val.regTimer = p.regTimer := by
  show p.drive.takeDemands.regTimer = _
  unfold Sequencer.drive
  split
  all_goals rfl

theorem Sequencer.regTimer_react (old p : Sequencer) (t : Moment) : (old.react p t).val.regTimer = p.regTimer := by
  unfold Sequencer.react
  split
  all_goals rfl

theorem Sequencer.regTimer_event (old p : Sequencer) (t : Moment) : (old.event p t).val.regTimer = p.regTimer :=
  (old.regTimer_finish (old.react p t).val false).trans (old.regTimer_react p t)

theorem Sequencer.regTimer_takeProfile (q : Sequencer) (t : Moment) (r : Profile) :
    (q.takeProfile t r).val.regTimer = q.regTimer := by
  have hn : ∀ p, (q.newReaches t r.reachL r.reachR p).regTimer = p.regTimer := fun p => by
    unfold Sequencer.newReaches
    split
    all_goals rfl
  show (q.finish (q.newReaches t r.reachL r.reachR (q.react (q.profiled r) t).val) false).val.regTimer = _
  rw [Sequencer.regTimer_finish, hn, Sequencer.regTimer_react]
  rfl

theorem Sequencer.regTimer_start (q : Sequencer) (t : Moment) : (q.start t).val.regTimer = some (t.now + 20) :=
  q.regTimer_finish { q with
    mode := .transport, left := (q.left.start .left t).val, right := (q.right.start .right t).val
    main := q.main.start t, regTimer := some (after t.now regulationInterval) } true

/-- The offers of START, and minor ones, leave the regulation timer as START has set it. -/
theorem State.StartOffer.reg {s : State} {o : Offer} (h : s.StartOffer o) {t : State} (ht : s.Starting t)
    (hr : t.sequencer.regTimer = some (s.mc.time + 20)) :
    (deliver o t).sequencer.regTimer = some (s.mc.time + 20) := by
  by_cases hq : o.receiver = some .sequencer
  case neg => rwa [deliver_sequencer hq]
  obtain h | h := h
  · cases o
    case sequencerGrants m l r =>
      exact (Sequencer.regTimer_event _ { t.sequencer with
        main := { t.sequencer.main with row := m }, left := { t.sequencer.left with row := l }
        right := { t.sequencer.right with row := r } } t.moment).trans hr
    case liftForReverse b =>
      exact (Sequencer.regTimer_event _ { t.sequencer with liftForReverse := b } t.moment).trans hr
    case holderChanged d => cases h
    all_goals first | exact absurd h Bool.false_ne_true | cases hq
  · simp only [State.startOffers, Selector.start, Profile.jobOffers, List.mem_append, List.mem_cons, List.not_mem_nil,
      or_false] at h
    obtain (rfl | rfl | rfl | rfl) | rfl | rfl | rfl | rfl | rfl := h
    · exact (Sequencer.regTimer_start _ _).trans (by show some (t.mc.time + 20) = _; rw [ht.time])
    · cases hq
    · cases hq
    · cases hq
    · cases hq
    · cases hq
    · cases hq
    · exact (Sequencer.regTimer_takeProfile _ _ _).trans hr
    · cases hq

/-! ### The water controller -/

theorem Water.sprayed_reevaluate (old : Water) {w : Water} (h : w.copies.mode ≠ .sweep) (now : Time) :
    (old.reevaluate w now).val.sprayed = w.sprayed := by
  show (w.takeDuties.transit now).drive.sprayed = w.sprayed
  rw [Water.transit_of_not_sweep (w := w.takeDuties) h]
  rfl

/-- A water controller at rest that has sprayed nothing yet. -/
def Water.Fresh (w : Water) : Prop := w.Rests ∧ w.sprayed = 0

theorem Water.Fresh.takeCopies {w : Water} (h : w.Fresh) (now : Time) {c : WaterCopies} (hm : c.mode = w.copies.mode) :
    (w.takeCopies now c).val.Fresh :=
  ⟨h.1.takeCopies now hm, (Water.sprayed_reevaluate _ (w := { w with copies := c }) (hm.trans_ne h.1.mode) now).trans h.2⟩

theorem Water.fresh_start (w : Water) (now : Time) : (w.start now).val.Fresh :=
  ⟨w.rests_reevaluate (w := { w with
      sprayed := 0, copies := { w.copies with mode := .transport, path := 0, advance := 0 } }) nofun nofun now,
    Water.sprayed_reevaluate w (w := { w with
      sprayed := 0, copies := { w.copies with mode := .transport, path := 0, advance := 0 } }) nofun now⟩

theorem State.StartOffer.fresh {s : State} {o : Offer} (h : s.StartOffer o) {t : State} (hw : t.water.Fresh) :
    (deliver o t).water.Fresh := by
  by_cases hr : o.receiver = some .water
  case neg => rwa [deliver_water hr]
  obtain h | h := h
  · cases o
    case waterGrant | waterImplements => exact hw.takeCopies _ rfl
    case holderChanged d => cases h
    all_goals first | exact absurd h Bool.false_ne_true | cases hr
  · simp only [State.startOffers, Selector.start, Profile.jobOffers, List.mem_append, List.mem_cons, List.not_mem_nil,
      or_false] at h
    obtain (rfl | rfl | rfl | rfl) | rfl | rfl | rfl | rfl | rfl := h
    · cases hr
    · cases hr
    · exact Water.fresh_start _ _
    · cases hr
    · cases hr
    · cases hr
    · cases hr
    · cases hr
    · exact hw.takeCopies _ rfl

/-! ### START as a whole -/

theorem Scanner.continuous_start (c : Scanner) (now : Time) : (c.start now).continuous = true := by
  unfold Scanner.start Scanner.beginPass
  split
  next h => exact h
  next =>
    dsimp only
    split
    all_goals rfl

theorem State.started_kept (s : State) : Kept s s.started := by
  have hmc : Kept s (s.withMc s.mc.enterStart) := (Kept.setMc s _ rfl).trans (Kept.emit _ s.mc.enterStart.out)
  have hu := hmc.trans (State.settle_kept _)
  exact (hu.trans (Kept.setChain (s.withMc s.mc.enterStart).settle
    ((s.withMc s.mc.enterStart).settle.chain.takeMode (s.withMc s.mc.enterStart).settle.mc.mode)
    ((Chain.record_recompose _).trans rfl))).trans (State.settle_kept _)

end Sys2Proof.Machine
end

section
/-! START (02 R31): the arms and the main broom (09 R157). -/

namespace Sys2Proof.Machine

/-! ### The attempts and the command at the end of an event -/

/-- What an arm has tried and been told. -/
def ArmRecord.orders (a : ArmRecord) : Nat × ArmCommand := (a.attempts, a.command)

theorem Sequencer.orders_finish (old p : Sequencer) (all : Bool) (x : Side) :
    ((old.finish p all).val.arm x).orders = (p.arm x).orders := by
  show ((p.drive.takeDemands).arm x).orders = _
  unfold Sequencer.drive
  split
  all_goals cases x <;> rfl

/-! ### An arm at START -/

section
variable {a : ArmRecord} (x : Side) (t : Moment)

/-- An arm that drives nothing stands in a state in which the table of 09 R142 has no outputs. -/
theorem ArmRecord.entered_of_course {st : ArmState} {timer : Option Time} {motion : Option Motion}
    {os : List OutcomeRecord} {f : Option FaultCause} {lf : Bool} (hst : st = .fault ∨ st = .stowed ∨ st = .raising)
    (hc : a.course = ((st, timer, motion, os), 0, 0, false, f, lf)) (hb : a.broom = 0) :
    a.entered st timer motion := by
  simp only [ArmRecord.course, Prod.mk.injEq] at hc
  obtain ⟨⟨h1, h2, h3, -⟩, hswing, hpress, hlift, -⟩ := hc
  obtain rfl | rfl | rfl := hst
  all_goals exact ⟨h1, h2, h3, hswing, by simp [hlift], fun _ _ => ⟨hb, hpress⟩⟩

theorem ArmRecord.orders_toFault (c : FaultCause) : (a.toFault x t false c).val.orders = a.orders := by
  unfold ArmRecord.toFault ArmRecord.closeMotion
  cases a.motion
  all_goals rfl

theorem ArmRecord.orders_start : (a.start x t).val.orders = (0, a.command) := by
  unfold ArmRecord.start
  dsimp only
  split
  · exact ArmRecord.orders_toFault x t .liftFailed
  · split
    all_goals rfl

theorem ArmRecord.start_of_failed (h : a.liftFailed = true) :
    a.start x t = { a with attempts := 0, fault := none }.toFault x t false .liftFailed := if_pos h

theorem ArmRecord.start_of_inStow (h : a.liftFailed = false) (hs : a.inStow = true) :
    a.start x t = .pure ({ a with attempts := 0, fault := none }.enter .stowed none) :=
  (if_neg (Bool.eq_false_iff.1 h)).trans (if_pos hs)

theorem ArmRecord.start_of_out (h : a.liftFailed = false) (hs : a.inStow = false) :
    a.start x t = .pure ({ a with attempts := 0, fault := none }.raise t) :=
  (if_neg (Bool.eq_false_iff.1 h)).trans (if_neg (Bool.eq_false_iff.1 hs))

theorem ArmRecord.sweeping_start : (a.start x t).val.state.sweeping = false ∧ (a.start x t).val.broom = 0 := by
  cases h : a.liftFailed
  · cases hs : a.inStow
    · rw [ArmRecord.start_of_out x t h hs]
      exact ⟨rfl, rfl⟩
    · rw [ArmRecord.start_of_inStow x t h hs]
      exact ⟨rfl, rfl⟩
  · obtain ⟨hc, hb⟩ := ArmRecord.toFault_course { a with attempts := 0, fault := none } x t false .liftFailed
    rw [ArmRecord.start_of_failed x t h]
    exact ⟨by rw [show (ArmRecord.toFault _ x t false .liftFailed).val.state = .fault from congrArg (·.1.1) hc]; rfl, hb⟩

theorem ArmRecord.inStow_of_le {v : Int} (h : a.position = some v) (hv : v ≤ 50) : a.inStow = true := by
  unfold ArmRecord.inStow
  rw [h]
  exact decide_eq_true hv

theorem ArmRecord.not_inStow_of_lt (h : ∀ v, a.position = some v → 50 < v) : a.inStow = false := by
  unfold ArmRecord.inStow
  cases hp : a.position with
  | none => rfl
  | some v => exact decide_eq_false (not_le.2 (h v hp))

end

/-! ### The main broom at START -/

section
variable {b : MainRecord} (t : Moment)

theorem MainRecord.start_of_failed (h : b.liftFailed = true) :
    (b.start t).course = (.fault, none, some .liftFailed, false, true) := by
  have he : b.start t = { MainRecord.enter { b with fault := none } .fault none with fault := some .liftFailed } :=
    if_pos h
  rw [he, ← h]
  rfl

theorem MainRecord.start_of_up (h : b.liftFailed = false) (hs : b.state = .up) :
    (b.start t).course = (.up, none, none, false, false) := by
  have he : b.start t = { b with fault := none }.enter .up none := (if_neg (Bool.eq_false_iff.1 h)).trans (if_pos hs)
  rw [he]
  show (_, _, _, _, b.liftFailed) = _
  rw [h]
  rfl

theorem MainRecord.start_of_down (h : b.liftFailed = false) (hs : b.state ≠ .up) :
    (b.start t).course = (.lifting, some (t.now + 800), none, false, false) := by
  have he : b.start t = { b with fault := none }.enter .lifting (some (after t.now mainLiftTime)) :=
    (if_neg (Bool.eq_false_iff.1 h)).trans (if_neg hs)
  rw [he]
  show (_, _, _, _, b.liftFailed) = _
  rw [h]
  rfl

theorem MainRecord.start_sound (h : b.liftFailed = false) : (b.start t).fault = none ∧ (b.start t).lift = false := by
  by_cases hs : b.state = .up
  · have hc := MainRecord.start_of_up t h hs
    exact ⟨congrArg (·.2.2.1) hc, congrArg (·.2.2.2.1) hc⟩
  · have hc := MainRecord.start_of_down t h hs
    exact ⟨congrArg (·.2.2.1) hc, congrArg (·.2.2.2.1) hc⟩

end

/-! ### The sequencer at START -/

/-- The records at START, before the end of the event. -/
def Sequencer.startTaken (q : Sequencer) (t : Moment) : Sequencer :=
  { q with
    mode := .transport, left := (q.left.start .left t).val, right := (q.right.start .right t).val
    main := q.main.start t, regTimer := some (after t.now regulationInterval) }

theorem Sequencer.start_eq (q : Sequencer) (t : Moment) :
    q.start t = ⟨(q.finish (q.startTaken t) true).val,
      (q.left.start .left t).out ++ ((q.right.start .right t).out ++ (q.finish (q.startTaken t) true).out)⟩ := rfl

theorem Sequencer.arm_startTaken (q : Sequencer) (t : Moment) (x : Side) :
    (q.startTaken t).arm x = ((q.arm x).start x t).val := by
  cases x <;> rfl

theorem Sequencer.mode_finish (old p : Sequencer) (all : Bool) : (old.finish p all).val.mode = p.mode := by
  show p.drive.takeDemands.mode = _
  unfold Sequencer.drive
  split
  all_goals rfl

theorem Sequencer.orders_start (q : Sequencer) (t : Moment) (x : Side) :
    ((q.start t).val.arm x).orders = (0, (q.arm x).command) :=
  (q.orders_finish (q.startTaken t) true x).trans
    ((congrArg ArmRecord.orders (q.arm_startTaken t x)).trans (ArmRecord.orders_start x t))

theorem Sequencer.course_start (q : Sequencer) (t : Moment) (x : Side) :
    ((q.start t).val.arm x).course = ((q.arm x).start x t).val.course :=
  (q.course_finish (q.startTaken t) true x).trans (congrArg ArmRecord.course (q.arm_startTaken t x))

theorem Sequencer.broom_start (q : Sequencer) (t : Moment) (x : Side) : ((q.start t).val.arm x).broom = 0 := by
  have h := ArmRecord.sweeping_start (a := q.arm x) x t
  rw [← q.arm_startTaken t x] at h
  exact (q.broom_finish (q.startTaken t) true h.1 fun _ => h.2).trans h.2

theorem Sequencer.mainCourse_start (q : Sequencer) (t : Moment) :
    (q.start t).val.main.course = (q.main.start t).course := q.mainCourse_finish (q.startTaken t) true

theorem Sequencer.out_start (q : Sequencer) (t : Moment) (x : Side) {o : Offer} (h : o ∈ ((q.arm x).start x t).out) :
    o ∈ (q.start t).out := by
  rw [Sequencer.start_eq]
  cases x
  · exact List.mem_append_left _ h
  · exact List.mem_append_right _ (List.mem_append_left _ h)

/-- Every LIFT value and state is offered. -/
theorem Sequencer.states_start (q : Sequencer) (t : Moment) {o : Offer}
    (h : o ∈ [.chainLifts (q.start t).val.left.lift (q.start t).val.right.lift (q.start t).val.main.lift,
      .governorImplements (q.start t).val.report,
      .waterImplements (q.start t).val.left.state (q.start t).val.right.state (q.start t).val.main.state,
      .modeImplements (q.start t).val.left.state (q.start t).val.right.state (q.start t).val.main.state]) :
    o ∈ (q.start t).out := by
  rw [Sequencer.start_eq]
  exact List.mem_append_right _ (List.mem_append_right _ (List.mem_append_left _ h))

/-- An arm whose LIFT position is failed is in FAULT, with ARM_FAULT. -/
theorem Sequencer.start_failed (q : Sequencer) (t : Moment) (x : Side) (h : (q.arm x).liftFailed = true) :
    ((q.start t).val.arm x).entered .fault none none ∧ ((q.start t).val.arm x).fault = some .liftFailed ∧
      .post .armFault (sideNumber x) 1 ∈ (q.start t).out := by
  have hs := ArmRecord.start_of_failed x t h
  have hc := (q.course_start t x).trans ((congrArg (·.val.course) hs).trans
    (ArmRecord.toFault_course { q.arm x with attempts := 0, fault := none } x t false .liftFailed).1)
  refine ⟨ArmRecord.entered_of_course (.inl rfl) hc (q.broom_start t x), congrArg (·.2.2.2.2.1) hc,
    q.out_start t x ?_⟩
  rw [hs]
  exact List.mem_append_right _ (List.mem_singleton.2 rfl)

/-- An arm whose LIFT position is not failed has no fault and its outcomes as they were. -/
theorem Sequencer.start_sound (q : Sequencer) (t : Moment) (x : Side) (h : (q.arm x).liftFailed = false) :
    ((q.start t).val.arm x).fault = none ∧ ((q.start t).val.arm x).outcomes = (q.arm x).outcomes := by
  have hc := q.course_start t x
  cases hs : (q.arm x).inStow
  · rw [ArmRecord.start_of_out x t h hs] at hc
    exact ⟨congrArg (·.2.2.2.2.1) hc, congrArg (·.1.2.2.2) hc⟩
  · rw [ArmRecord.start_of_inStow x t h hs] at hc
    exact ⟨congrArg (·.2.2.2.2.1) hc, congrArg (·.1.2.2.2) hc⟩

theorem Sequencer.start_stowed (q : Sequencer) (t : Moment) (x : Side) (h : (q.arm x).liftFailed = false)
    (hs : (q.arm x).inStow = true) : ((q.start t).val.arm x).entered .stowed none (q.arm x).motion := by
  have hc := q.course_start t x
  rw [ArmRecord.start_of_inStow x t h hs] at hc
  exact ArmRecord.entered_of_course (.inr (.inl rfl)) hc (q.broom_start t x)

theorem Sequencer.start_raising (q : Sequencer) (t : Moment) (x : Side) (h : (q.arm x).liftFailed = false)
    (hs : (q.arm x).inStow = false) :
    ((q.start t).val.arm x).entered .raising (some (t.now + 600)) (q.arm x).motion := by
  have hc := q.course_start t x
  rw [ArmRecord.start_of_out x t h hs] at hc
  exact ArmRecord.entered_of_course (.inr (.inr rfl)) hc (q.broom_start t x)

end Sys2Proof.Machine

open Sys2Proof Sys2Proof.Machine

/-- Settles O19: what START makes of a block is kept by every offer taken after it, up to and past the driver's mode;
the sequencer by the records that take START. -/
theorem startBringsTransport : Obligations.StartBringsTransport := by
  refine ⟨fun p tag s h => ⟨fun hw => ?_, fun hw hn => ?_, fun hw' hm ho => ?_⟩, fun s => ?_, fun s =>
    ⟨(s.sequencer.start s.moment).val, (s.sequencer.start s.moment).out, rfl, s.sequencer.mode_finish _ true,
      s.sequencer.regTimer_start s.moment, fun x => ⟨?_, ?_, fun hl => ?_, fun hl => ⟨?_, ?_, fun hv => ?_, fun hv => ?_⟩⟩,
      fun hl => ?_, fun hl => ⟨?_, ?_, fun hu => ?_, fun hu => ?_⟩, ?_, ?_, ?_, ?_⟩⟩
  · exact exec_of_body .start rfl h (startBody_of_working hw)
  · rw [State.mayStart_iff] at hn
    obtain ⟨⟨h0, h1, h2, h3, h4⟩, hlt⟩ := byte_flags _ _ _ _ _ (byte s.readiness) rfl
    refine ⟨byte s.readiness, exec_of_body .start rfl h ((startBody_of_not_working hw).trans (if_pos hn)), h0, h1, ?_, h3,
      ?_, hlt⟩
    · rw [h2, ← State.requiredRoles_iff, Bool.not_eq_false']
    · rw [h4, ← DriveMap.valid_iff, Bool.not_eq_false']
  · rw [State.mayStart_iff] at hm
    obtain ⟨hg, hs, hc⟩ := State.started_holds ho (P := fun t => t.governor.rampTimer = some (s.mc.time + 10))
      (fun _ _ => id) (fun _ _ => id) (fun _ _ hx => hx.ramp) (o := .governorStart) (by simp [State.startOffers])
      fun t ht => (Governor.ramp_start _ _).trans (by rw [ht.time])
    obtain ⟨hq, -, -⟩ := State.started_holds ho (P := fun t => t.sequencer.regTimer = some (s.mc.time + 20))
      (fun _ _ => id) (fun _ _ => id) (fun _ _ hx => hx.reg) (o := .sequencerStart) (by simp [State.startOffers])
      fun t ht => (Sequencer.regTimer_start _ _).trans (by show some (t.mc.time + 20) = _; rw [ht.time])
    obtain ⟨⟨hw, hspray⟩, -, -⟩ := State.started_holds ho (P := fun t => t.water.Fresh)
      (fun _ _ => id) (fun _ _ => id) (fun _ _ hx _ => hx.fresh) (o := .waterStart) (by simp [State.startOffers])
      fun t _ => Water.fresh_start _ _
    obtain ⟨hentry, hend⟩ := State.started_eq ho
    refine ⟨s.started,
      exec_of_body .start rfl h ((startBody_of_not_working hw').trans (if_neg (not_not.2 hm))), s.started_kept,
      congrArg (·.1) hs.entry, congrArg (·.2.1) hs.entry, congrArg (·.2.2) hs.entry,
      (congrArg (·.continuous) hs.scanner).trans (Scanner.continuous_start _ _), congrArg (·.path) hs.pulse,
      congrArg (·.remainder) hs.pulse, congrArg (·.queue) hs.selector, congrArg (·.zoneProfile) hs.selector,
      congrArg (·.active) hs.selector, congrArg (·.pinned) hs.selector, congrArg (·.lastCode) hs.selector, hg, hq,
      hw.state, hspray, hw.pump, hc, (s.withMc s.mc.enterStart).settle, s.mc.enterStart.out, ?_, ?_, ?_, rfl, hend⟩
    all_goals simp [ModeController.enterStart, Cause.number, Mode.number]
  · exact List.mem_append_right _ (List.mem_cons_self ..)
  · exact congrArg (·.1) (s.sequencer.orders_start s.moment x)
  · exact congrArg (·.2) (s.sequencer.orders_start s.moment x)
  · exact s.sequencer.start_failed s.moment x hl
  · exact (s.sequencer.start_sound s.moment x hl).1
  · exact (s.sequencer.start_sound s.moment x hl).2
  · obtain ⟨v, hp, hle⟩ := hv
    exact s.sequencer.start_stowed s.moment x hl (ArmRecord.inStow_of_le hp hle)
  · exact s.sequencer.start_raising s.moment x hl (ArmRecord.not_inStow_of_lt hv)
  · have hc := (s.sequencer.mainCourse_start s.moment).trans (MainRecord.start_of_failed s.moment hl)
    exact ⟨congrArg (·.1) hc, congrArg (·.2.2.1) hc, congrArg (·.2.1) hc, congrArg (·.2.2.2.1) hc⟩
  · exact (congrArg (·.2.2.1) (s.sequencer.mainCourse_start s.moment)).trans (MainRecord.start_sound s.moment hl).1
  · exact (congrArg (·.2.2.2.1) (s.sequencer.mainCourse_start s.moment)).trans (MainRecord.start_sound s.moment hl).2
  · have hc := (s.sequencer.mainCourse_start s.moment).trans (MainRecord.start_of_up s.moment hl hu)
    exact ⟨congrArg (·.1) hc, congrArg (·.2.1) hc⟩
  · have hc := (s.sequencer.mainCourse_start s.moment).trans (MainRecord.start_of_down s.moment hl hu)
    exact ⟨congrArg (·.1) hc, congrArg (·.2.1) hc⟩
  all_goals exact s.sequencer.states_start s.moment (by simp)
end

section
/-! RESTART (02 R39): the offers it leads to, and what it takes for one of them to be taken (log 5). -/

namespace Sys2Proof.Machine

/-! ### Classes of offers -/

/-- Offers that lead up to RESTART: minor ones, changes of holder, and modes other than SERVICE. -/
def Offer.early : Offer → Bool
  | .holderChanged _ | .scannerHalted => true
  | .sequencerMode m | .governorMode m | .waterMode m | .budgetMode m | .chainMode m => m != .service
  | o => o.minor

/-- Offers that follow RESTART: minor ones, and what the blocks tell that have cleared their records. -/
def Offer.echo : Offer → Bool
  | .haltOutput active => !active
  | .waterGround status _ => status == .present
  | .sequencerLiftFailed l r m => !l && !r && !m
  | .governorStale _ | .sequencerStale _ | .budgetDerate _ | .waterCut _ | .sequencerLift _ | .governorStop _
  | .governorGround .. | .governorMotor .. | .budgetRanks _ | .governorCap _ | .sequencerProfile _ | .waterProfile ..
  | .waterFailed .. => true
  | o => o.minor

/-- Every offer on the way of a RESTART. -/
def Offer.calm (o : Offer) : Prop := o.early = true ∨ o.echo = true ∨ o ∈ restartOffers

theorem Offer.early_of_minor {o : Offer} (h : o.minor = true) : o.early = true := by
  cases o
  case post | postTo | demand | liftForReverse | governorImplements | waterImplements | modeImplements | chainLifts
      | chainWater | governorGrant | sequencerGrants | waterGrant => rfl
  all_goals cases h

theorem Offer.echo_of_minor {o : Offer} (h : o.minor = true) : o.echo = true := by
  cases o
  case post | postTo | demand | liftForReverse | governorImplements | waterImplements | modeImplements | chainLifts
      | chainWater | governorGrant | sequencerGrants | waterGrant => rfl
  all_goals cases h

theorem Offer.inner_of_early {o : Offer} (h : o.early = true) : o = .scannerHalted ∨ o.inner = true := by
  cases o
  case scannerHalted => exact .inl rfl
  case haltOutput | chainRestart | scannerStart | scannerRestart | monitorRestart | pulseStart | pulseRestart
      | selectorStart | selectorRestart | selectorPath => cases h
  all_goals exact .inr rfl

theorem Offer.inner_of_echo {o : Offer} (h : o.echo = true) : o = .haltOutput false ∨ o.inner = true := by
  cases o
  case haltOutput b =>
    cases b
    · exact .inl rfl
    · cases h
  case scannerHalted | chainRestart | scannerStart | scannerRestart | monitorRestart | pulseStart | pulseRestart
      | selectorStart | selectorRestart | selectorPath => cases h
  all_goals exact .inr rfl

theorem Offer.setsWorking_of_echo {o : Offer} (h : o.echo = true) : o.setsWorking = false := by
  cases o
  case governorMode | sequencerMode | waterMode | budgetMode | chainMode | governorStart | sequencerStart | waterStart
      | budgetStart => cases h
  all_goals rfl

theorem Offer.receiver_of_early {o : Offer} (h : o.early = true) :
    o.receiver ≠ some .monitor ∧ o.receiver ≠ some .pulse ∧ o.receiver ≠ some .selector := by
  cases o
  case holderChanged d => cases d <;> exact ⟨nofun, nofun, nofun⟩
  case monitorRestart | pulseStart | pulseRestart | selectorStart | selectorRestart | selectorPath => cases h
  all_goals exact ⟨nofun, nofun, nofun⟩

theorem Offer.receiver_of_echo {o : Offer} (h : o.echo = true) :
    o.receiver ≠ some .scanner ∧ o.receiver ≠ some .monitor ∧ o.receiver ≠ some .pulse ∧
      o.receiver ≠ some .selector := by
  cases o
  case holderChanged d => cases h
  case scannerHalted | scannerStart | scannerRestart | monitorRestart | pulseStart | pulseRestart | selectorStart
      | selectorRestart | selectorPath => cases h
  all_goals exact ⟨nofun, nofun, nofun, nofun⟩

/-! ### The outputs of a window monitor without latches -/

section
variable {m : Monitor} (h : ∀ ch, (m.assignments.get ch).latched = false)

include h

theorem Monitor.indication_of_clear (w : Fin 6) : m.indication w = false := by
  simp [Monitor.indication, h]

theorem Monitor.acting_of_clear (a : WindowAction) : m.acting a = false := by
  simp [Monitor.acting, Monitor.indication_of_clear h]

theorem Monitor.derateTotal_of_clear : m.derateTotal = 0 := by
  simp [Monitor.derateTotal, Monitor.indication_of_clear h]

theorem Monitor.derive_of_clear : m.derive = ⟨0, false, false, false, false⟩ := by
  simp only [Monitor.derive, Monitor.derateTotal_of_clear h, Monitor.acting_of_clear h]

end

theorem Monitor.get_clearAll (m : Monitor) (ch : Fin 16) :
    (m.clearLatches 0xFFFF).assignments.get ch =
      if (m.assignments.get ch).latched then (m.assignments.get ch).clear else m.assignments.get ch := by
  have hbit : ∀ i : Fin 16, (0xFFFF : Mask).getLsbD i.val = true := by decide
  rw [Monitor.get_clearLatches, hbit]
  rfl

theorem Monitor.latched_clearAll (m : Monitor) (ch : Fin 16) :
    ((m.clearLatches 0xFFFF).assignments.get ch).latched = false := by
  rw [Monitor.get_clearAll]
  split
  next => rfl
  next h => exact Bool.eq_false_iff.2 h

theorem Monitor.restart_outputs (m : Monitor) : m.restart.val.outputs = ⟨0, false, false, false, false⟩ :=
  Monitor.derive_of_clear m.latched_clearAll

/-! ### What is made of the offers of a RESTART -/

/-- Offers that follow RESTART only. -/
def Echoes (out : List Offer) : Prop := ∀ o ∈ out, o.echo = true

theorem Minor.echoes {out : List Offer} (h : Minor out) : Echoes out := fun o ho => Offer.echo_of_minor (h o ho)

theorem Echoes.append {l m : List Offer} (hl : Echoes l) (hm : Echoes m) : Echoes (l ++ m) :=
  fun o ho => (List.mem_append.1 ho).elim (hl o) (hm o)

theorem Echoes.offerIf {o : Offer} (h : o.echo = true) (c : Bool) : Echoes (offerIf c o) := by
  cases c
  · exact List.forall_mem_nil _
  · exact fun x hx => by rwa [List.mem_singleton.1 hx]

theorem Scanner.echoes_restart (c : Scanner) : Echoes c.restart.out := by
  unfold Scanner.restart Scanner.becomeStale
  split
  · exact List.forall_mem_nil _
  · simp [Echoes, staleOffers, Offer.echo, Offer.minor]

theorem Monitor.echoes_restart (m : Monitor) : Echoes m.restart.out := by
  have hd : (m.clearLatches 0xFFFF).derive = ⟨0, false, false, false, false⟩ := m.restart_outputs
  unfold Monitor.restart Monitor.rederive
  dsimp only
  rw [hd]
  exact ((((Echoes.offerIf rfl _).append (.offerIf rfl _)).append (.offerIf rfl _)).append (.offerIf rfl _)).append
    (.offerIf rfl _)

theorem Pulse.echoes_restart (u : Pulse) (now : Time) : Echoes (u.restart now).out := by
  unfold Pulse.restart
  cases u.status
  all_goals simp [Echoes, Offer.echo, Offer.minor]

theorem Selector.echoes_restart (x : Selector) : Echoes x.restart.out := by
  unfold Selector.restart Selector.setActive
  dsimp only
  split
  · split
    all_goals simp [Echoes, Profile.offers, Profile.jobOffers, Offer.echo, Offer.minor]
  · exact List.forall_mem_nil _

theorem Chain.failed_unfail_all (c : Chain) : (c.unfail 0xFFFF).val.failed = 0 := by
  have h : (c.unfail 0xFFFF).val.failed = c.failed &&& ~~~0xFFFF := (Chain.recompose_kept _).2.1
  rw [h]
  show c.failed &&& 0 = 0
  exact BitVec.and_zero

theorem Chain.echoes_restart (c : Chain) : Echoes c.restart.out := by
  have h : c.restart.out = (c.unfail 0xFFFF).val.ownerOffers (c.failed &&& 0xFFFF) := List.append_nil _
  rw [h, Chain.ownerOffers, Chain.failed_unfail_all]
  exact (Echoes.offerIf rfl _).append (.offerIf rfl _)

theorem deliver_haltOutput_false (s : State) :
    deliver (.haltOutput false) s = s.setMc { s.mc with haltTrip := false } := by
  show s.withMc (s.mc.takeHalt false) = _
  rw [ModeController.takeHalt_of_inactive (.inl rfl), State.withMc_pure]

/-- The offers on the way of a RESTART leave the entry of the mode. -/
theorem deliver_calm_entry {o : Offer} (ho : o.calm) {s : State} (hm : s.mc.mode ≠ .stowing) :
    (deliver o s).mc.entry = s.mc.entry := by
  obtain h | h | h := ho
  · obtain rfl | h := Offer.inner_of_early h
    · rfl
    · exact deliver_entry h hm
  · obtain rfl | h := Offer.inner_of_echo h
    · rw [deliver_haltOutput_false]
      rfl
    · exact deliver_entry h hm
  · have hr : o.receiver ≠ some .modeController := by
      simp only [restartOffers, List.mem_cons, List.not_mem_nil, or_false] at h
      obtain rfl | rfl | rfl | rfl | rfl | rfl | rfl | rfl := h
      all_goals nofun
    rw [deliver_mc hr]

/-- Outside STOWING the offers on the way of a RESTART are answered with offers that follow it. -/
theorem deliver_calm_out {o : Offer} (ho : o.calm) {s : State} (hm : s.mc.mode ≠ .stowing) :
    ∃ out, (deliver o s).offers = s.offers ++ out ∧ Echoes out := by
  have inner : o.inner = true → ∃ out, (deliver o s).offers = s.offers ++ out ∧ Echoes out := fun hi => by
    obtain ⟨out, he, hout⟩ := deliver_minor hi hm
    exact ⟨out, he, hout.echoes⟩
  obtain h | h | h := ho
  · obtain rfl | h := Offer.inner_of_early h
    · exact ⟨[], (List.append_nil _).symm, List.forall_mem_nil _⟩
    · exact inner h
  · obtain rfl | h := Offer.inner_of_echo h
    · rw [deliver_haltOutput_false]
      exact ⟨[], (List.append_nil _).symm, List.forall_mem_nil _⟩
    · exact inner h
  · simp only [restartOffers, List.mem_cons, List.not_mem_nil, or_false] at h
    obtain rfl | rfl | rfl | rfl | rfl | rfl | rfl | rfl := h
    · exact ⟨_, rfl, Scanner.echoes_restart _⟩
    · exact ⟨_, rfl, Monitor.echoes_restart _⟩
    · exact ⟨_, rfl, Pulse.echoes_restart _ _⟩
    · exact ⟨_, rfl, Selector.echoes_restart _⟩
    · exact inner rfl
    · exact inner rfl
    · exact inner rfl
    · exact ⟨_, rfl, Chain.echoes_restart _⟩

theorem mode_of_entry {c : ModeController} {m : Mode} {k : Cause} {now : Time} (h : c.entry = (m, k, now)) :
    c.mode = m := congrArg (·.1) h

/-- HALTED by RESTART stays entered under the offers that follow. -/
theorem closed_calm (now : Time) :
    Closed Offer.calm (fun o => o.echo = true) fun s => s.mc.entry = (.halted, .restart, now) where
  sub _ h := .inr (.inl h)
  setOffers _ _ := id
  keeps _ _ ho h := (deliver_calm_entry ho (by rw [mode_of_entry h]; nofun)).trans h
  made _ _ ho h := deliver_calm_out ho (by rw [mode_of_entry h]; nofun)

/-- Before HALTED is entered a stow may be completed. -/
theorem deliver_early_out {o : Offer} (ho : o.early = true) (s : State) :
    ∃ out, (deliver o s).offers = s.offers ++ out ∧ ∀ x ∈ out, x.early = true := by
  obtain rfl | h := Offer.inner_of_early ho
  · exact ⟨[], (List.append_nil _).symm, List.forall_mem_nil _⟩
  by_cases hr : o.receiver = some .modeController
  · cases o
    case modeImplements l r m =>
      refine ⟨_, rfl, ?_⟩
      by_cases hs : ModeController.stowHolds { s.mc with armL := l, armR := r, main := m }
      · show ∀ x ∈ (ModeController.stowTest _).out, _
        rw [ModeController.stowTest_of_holds hs, ModeController.enterMode_of_not_halted (m := .transport) _ nofun]
        simp [modeOffers, Offer.early, Offer.minor]
      · show ∀ x ∈ (ModeController.stowTest _).out, _
        rw [ModeController.stowTest_of_not_holds hs]
        exact List.forall_mem_nil _
    case haltOutput => cases h
    case holderChanged d => cases d <;> cases hr
    all_goals cases hr
  · obtain ⟨out, he, hm⟩ := deliver_minor_of_receiver h hr s
    exact ⟨out, he, fun x hx => Offer.early_of_minor (hm x hx)⟩

end Sys2Proof.Machine
end

section
/-! RESTART (02 R39): up to the point where every block takes it. -/

namespace Sys2Proof.Machine

/-! ### The queue of offers -/

theorem settleN_add (m n : Nat) (s : State) : settleN (m + n) s = settleN n (settleN m s) := by
  induction m generalizing s with
  | zero => rw [Nat.zero_add]; rfl
  | succ m ih =>
    cases e : s.offers with
    | nil => simp [e]
    | cons o os => rw [Nat.succ_add, settleN_succ _ s o os e, settleN_succ _ s o os e, ih]

/-- Fewer steps than waiting offers leave an offer waiting. -/
theorem settleN_offers_ne_nil (n : Nat) (s : State) (h : n < s.offers.length) : (settleN n s).offers ≠ [] := by
  induction n generalizing s with
  | zero =>
    rw [settleN]
    exact List.ne_nil_of_length_pos h
  | succ n ih =>
    obtain ⟨o, os, e⟩ := List.exists_cons_of_length_pos (Nat.zero_lt_of_lt h)
    rw [settleN_succ n s o os e]
    obtain ⟨out, hout⟩ := deliver_appends o (s.setOffers os)
    refine ih _ ?_
    rw [hout]
    rw [e] at h
    simp only [List.length_cons] at h
    show n < (os ++ out).length
    rw [List.length_append]
    omega

section
variable {D C E : Offer → Prop} {I P : State → Prop} {o : Offer}

/-- The first offers are taken; the others wait before those that are made meanwhile. -/
theorem Closed.settleN_leading (hc : Closed D E I) (xs ys : List Offer) (s : State) (he : s.offers = xs ++ ys) (h : I s)
    (hx : ∀ x ∈ xs, D x) :
    I (Machine.settleN xs.length s) ∧
      ∃ out, (Machine.settleN xs.length s).offers = ys ++ out ∧ ∀ x ∈ out, E x := by
  induction xs generalizing s ys with
  | nil => exact ⟨h, [], by simpa [Machine.settleN] using he, List.forall_mem_nil _⟩
  | cons x xs ih =>
    rw [List.length_cons, settleN_succ _ s x (xs ++ ys) he]
    obtain ⟨hi, out, hout, hmade⟩ := hc.next (os := xs ++ ys) (hx x List.mem_cons_self) h
    obtain ⟨hend, out', hout', hmade'⟩ := ih (ys ++ out) _ (by rw [hout, List.append_assoc]) hi
      fun y hy => hx y (List.mem_cons_of_mem _ hy)
    exact ⟨hend, out ++ out', by rw [hout', List.append_assoc], fun y hy =>
      (List.mem_append.1 hy).elim (hmade y) (hmade' y)⟩

/-- An offer waits, with offers of `D` before it and of `C` behind it; or it has been taken, what it brings about holds,
and offers of `C` wait. -/
def Awaits (D C : Offer → Prop) (P : State → Prop) (o : Offer) (s : State) : Prop :=
  (P s ∧ ∀ x ∈ s.offers, C x) ∨ ∃ pre post, s.offers = pre ++ o :: post ∧ (∀ x ∈ pre, D x) ∧ ∀ x ∈ post, C x

/-- What an awaited offer brings about holds once the offer waits no more. -/
theorem Awaits.taken {s : State} (h : Awaits D C P o s) (ho : o ∉ s.offers) : P s := by
  obtain h | ⟨pre, post, he, -⟩ := h
  · exact h.1
  · exact absurd (by rw [he]; simp) ho

/-- More offers of `C` come last. -/
theorem Awaits.emit {s : State} (h : Awaits D C P o s) (hs : ∀ s os, P s → P (s.setOffers os)) {os : List Offer}
    (hos : ∀ x ∈ os, C x) : Awaits D C P o (s.emit os) := by
  obtain ⟨hp, hw⟩ | ⟨pre, post, he, hpre, hpost⟩ := h
  · exact .inl ⟨hs _ _ hp, fun x hx => (List.mem_append.1 hx).elim (hw x) (hos x)⟩
  · refine .inr ⟨pre, post ++ os, ?_, hpre, fun x hx => (List.mem_append.1 hx).elim (hpost x) (hos x)⟩
    show s.offers ++ os = _
    rw [he]
    simp

/-- An awaited offer is taken in its turn. -/
theorem Closed.awaits_settleN (hc : Closed D E I) (hE : ∀ x, E x → C x) (hC : ∀ x, C x → D x) (ho : D o)
    (hs : ∀ s os, P s → P (s.setOffers os)) (hd : ∀ x s, C x → I s → P s → P (deliver x s))
    (hb : ∀ s, I s → P (deliver o s)) (n : Nat) (s : State) (h : I s) (hw : Awaits D C P o s) :
    Awaits D C P o (Machine.settleN n s) := by
  induction n generalizing s with
  | zero => exact hw
  | succ n ih =>
    obtain ⟨hp, hin⟩ | ⟨pre, post, he, hpre, hpost⟩ := hw
    · cases e : s.offers with
      | nil =>
        rw [settleN_of_offers_nil _ _ e]
        exact .inl ⟨hp, hin⟩
      | cons x os =>
        rw [settleN_succ n s x os e]
        rw [e] at hin
        have hx := hin x List.mem_cons_self
        obtain ⟨hi, out, hout, hmade⟩ := hc.next (os := os) (hC x hx) h
        refine ih _ hi (.inl ⟨hd x _ hx (hc.setOffers _ _ h) (hs _ _ hp), fun y hy => ?_⟩)
        rw [hout] at hy
        exact (List.mem_append.1 hy).elim (fun hm => hin y (List.mem_cons_of_mem _ hm)) fun hm => hE y (hmade y hm)
    · cases pre with
      | nil =>
        rw [settleN_succ n s o post he]
        obtain ⟨hi, out, hout, hmade⟩ := hc.next (os := post) ho h
        refine ih _ hi (.inl ⟨hb _ (hc.setOffers _ _ h), fun y hy => ?_⟩)
        rw [hout] at hy
        exact (List.mem_append.1 hy).elim (hpost y) fun hm => hE y (hmade y hm)
      | cons x pre =>
        rw [settleN_succ n s x (pre ++ o :: post) he]
        obtain ⟨hi, out, hout, hmade⟩ := hc.next (os := pre ++ o :: post) (hpre x List.mem_cons_self) h
        refine ih _ hi (.inr ⟨pre, post ++ out, by rw [hout]; simp, fun y hy => hpre y (List.mem_cons_of_mem _ hy),
          fun y hy => ?_⟩)
        exact (List.mem_append.1 hy).elim (hpost y) fun hm => hE y (hmade y hm)

end

/-! ### What leads up to RESTART -/

/-- What the blocks hold that RESTART finds as it was: the scanner has perhaps stopped. -/
structure State.Leads (s t : State) : Prop where
  scanner : t.scanner.halted = s.scanner.halted
  monitor : t.monitor = s.monitor
  pulse : t.pulse = s.pulse
  selector : t.selector = s.selector
  ground : t.water.copies.ground = s.water.copies.ground
  time : t.mc.time = s.mc.time

theorem deliver_time (o : Offer) (s : State) : (deliver o s).mc.time = s.mc.time :=
  congrArg Standing.time (deliver_kept o s).2

theorem deliver_ground {o : Offer} (ho : o.early = true) (s : State) :
    (deliver o s).water.copies.ground = s.water.copies.ground := by
  have hheld : (deliver o s).water.copies.ground = (s.held.take o).water.ground :=
    congrArg (·.water.ground) (deliver_takes o s).held
  rw [hheld]
  cases o
  case waterGround | waterStart | waterCut | waterProfile | waterCoefficient | waterFailed => cases ho
  all_goals rfl

theorem deliver_halted {o : Offer} (ho : o.early = true) (s : State) :
    (deliver o s).scanner.halted = s.scanner.halted := by
  by_cases hr : o.receiver = some .scanner
  case neg => rw [deliver_scanner hr]
  cases o
  case scannerHalted => rfl
  case holderChanged d => cases d <;> cases hr
  case scannerStart | scannerRestart => cases ho
  all_goals cases hr

/-- The offers that lead up to RESTART change none of it. -/
theorem deliver_leads {o : Offer} (ho : o.early = true) {s t : State} (h : s.Leads t) : s.Leads (deliver o t) := by
  obtain ⟨hm, hp, hx⟩ := Offer.receiver_of_early ho
  exact ⟨(deliver_halted ho t).trans h.scanner, (deliver_monitor hm).trans h.monitor, (deliver_pulse hp).trans h.pulse,
    (deliver_selector hx).trans h.selector, (deliver_ground ho t).trans h.ground, (deliver_time o t).trans h.time⟩

theorem closed_early (s : State) : Closed (fun o => o.early = true) (fun o => o.early = true) s.Leads where
  sub _ := id
  setOffers _ _ h := ⟨h.scanner, h.monitor, h.pulse, h.selector, h.ground, h.time⟩
  keeps _ _ ho h := deliver_leads ho h
  made _ t ho _ := deliver_early_out ho t

/-! ### Every block at rest -/

/-- Offers on the way of a RESTART that bring no working mode. -/
def Offer.still (o : Offer) : Prop := o.calm ∧ o.setsWorking = false

theorem Offer.still_of_echo {o : Offer} (h : o.echo = true) : o.still := ⟨.inr (.inl h), Offer.setsWorking_of_echo h⟩

theorem Offer.still_of_restart {o : Offer} (h : o ∈ restartOffers) : o.still := by
  refine ⟨.inr (.inr h), ?_⟩
  simp only [restartOffers, List.mem_cons, List.not_mem_nil, or_false] at h
  obtain rfl | rfl | rfl | rfl | rfl | rfl | rfl | rfl := h
  all_goals rfl

/-- A valve chain driver in HALTED, with every position off. -/
def Chain.Halts (c : Chain) : Prop := c.mode = .halted ∧ c.wanted = 0

theorem Chain.halts_recompose {c : Chain} (h : c.mode = .halted) : c.recompose.Halts :=
  ⟨(Chain.recompose_kept c).1.trans h, (Chain.rests_recompose fun hc => absurd h hc).wanted⟩

theorem Chain.Halts.restart {c : Chain} (h : c.Halts) : c.restart.val.Halts := by
  have hu : (c.unfail 0xFFFF).val.Halts := Chain.halts_recompose h.1
  exact hu

theorem deliver_chain_halts {o : Offer} (ho : o.still) {s : State} (h : s.chain.Halts) : (deliver o s).chain.Halts := by
  by_cases hr : o.receiver = some .chain
  case neg => rwa [deliver_chain hr]
  obtain ⟨hcalm, hw⟩ := ho
  cases o
  case chainLifts | chainWater => exact Chain.halts_recompose h.1
  case chainRestart => exact h.restart
  case chainMode m =>
    have hs : (m != .service) = true := hcalm.resolve_right fun h => h.elim nofun fun h => by simp [restartOffers] at h
    cases m
    case halted => exact Chain.halts_recompose rfl
    case service => cases hs
    all_goals cases hw
  case holderChanged d => cases d <;> cases hr
  all_goals cases hr

/-- Every block is in HALTED, and nothing is driven. -/
structure State.Halts (s : State) : Prop where
  governor : s.governor.Idle
  sequencer : s.sequencer.Rests
  water : s.water.Rests
  budget : s.budget.Rests
  chain : s.chain.Halts

/-- The entry of HALTED by RESTART. -/
def haltOffers : List Offer := .scannerHalted :: modeOffers .halted .restart

/-- What RESTART enters HALTED with. -/
def State.haltEntered (a : State) : State :=
  (a.setMc { a.mc with mode := .halted, lastChange := a.mc.time, lastCause := .restart }).emit haltOffers

theorem Offer.early_of_haltOffers : ∀ o ∈ haltOffers, o.early = true := by
  simp [haltOffers, modeOffers, Offer.early, Offer.minor]

theorem Offer.still_of_haltOffers {o : Offer} (h : o ∈ haltOffers) : o.still := by
  refine ⟨.inl (Offer.early_of_haltOffers o h), ?_⟩
  simp only [haltOffers, modeOffers, List.mem_cons, List.mem_append, List.not_mem_nil, or_false] at h
  obtain rfl | (rfl | rfl | rfl | rfl | rfl) | rfl := h
  all_goals rfl

theorem mode_notMem_of_echo {out : List Offer} (h : Echoes out) {o : Offer} (ho : o.echo = false) (hr : o ∉ restartOffers) :
    o ∉ restartOffers ++ out := by
  rw [List.mem_append]
  rintro (hm | hm)
  · exact hr hm
  · rw [h o hm] at ho
    cases ho

end Sys2Proof.Machine
end

section
/-! RESTART (02 R39): HALTED is entered, and every block takes RESTART at rest. -/

namespace Sys2Proof.Machine

theorem State.early_haltEntered {a : State} (ha : ∀ x ∈ a.offers, x.early = true) :
    ∀ x ∈ a.haltEntered.offers, x.early = true :=
  fun x hx => (List.mem_append.1 hx).elim (ha x) (Offer.early_of_haltOffers x)

section
variable {s a : State} (hl : s.Leads a) (ha : ∀ x ∈ a.offers, x.early = true)

include hl ha

/-- HALTED is entered, and what RESTART finds is as it was. -/
theorem State.settle_haltEntered :
    s.Leads a.haltEntered.settle ∧ a.haltEntered.settle.mc.entry = (.halted, .restart, s.mc.time) ∧
      ∀ x ∈ a.haltEntered.settle.offers, x.early = true := by
  have hentry : a.haltEntered.mc.entry = (.halted, .restart, s.mc.time) := by
    rw [← hl.time]
    rfl
  have hearly := State.early_haltEntered ha
  obtain ⟨hleads, hout⟩ := (closed_early s).settle (s := a.haltEntered)
    ⟨hl.scanner, hl.monitor, hl.pulse, hl.selector, hl.ground, hl.time⟩ hearly
  exact ⟨hleads, ((closed_calm s.mc.time).settle hentry fun x hx => .inl (hearly x hx)).1, hout⟩

/-- The state in which RESTART is offered. -/
theorem State.calm_restartOffered :
    ∀ x ∈ (a.haltEntered.settle.emit restartOffers).offers, x.calm := fun x hx =>
  (List.mem_append.1 hx).elim (fun h => .inl ((State.settle_haltEntered hl ha).2.2 x h)) fun h => .inr (.inr h)

/-- A block's HALTED, brought by an offer of its entry, holds once that offer waits no more. -/
theorem State.awaits_halted {P : State → Prop} (hs : ∀ t os, P t → P (t.setOffers os))
    (hd : ∀ x t, x.still → P t → P (deliver x t)) {o : Offer} (ho : o ∈ haltOffers) (hb : ∀ t, P (deliver o t)) (n : Nat) :
    Awaits Offer.calm Offer.still P o (settleN n (a.haltEntered.settle.emit restartOffers)) := by
  obtain ⟨pre, post, hsplit⟩ := List.append_of_mem ho
  have hentry : a.haltEntered.mc.entry = (.halted, .restart, s.mc.time) := by
    rw [← hl.time]
    rfl
  have hstart : Awaits Offer.calm Offer.still P o a.haltEntered := by
    refine .inr ⟨a.offers ++ pre, post, ?_, fun x hx => .inl ?_, fun x hx => Offer.still_of_haltOffers ?_⟩
    · show a.offers ++ haltOffers = _
      rw [hsplit, List.append_assoc]
    · exact (List.mem_append.1 hx).elim (ha x) fun h => Offer.early_of_haltOffers x (by rw [hsplit]; simp [h])
    · rw [hsplit]
      simp [hx]
  have go := fun m u => (closed_calm s.mc.time).awaits_settleN (C := Offer.still) (P := P) (o := o)
    (fun _ => Offer.still_of_echo) (fun _ hx => hx.1) (Offer.still_of_haltOffers ho).1 hs (fun x t hx _ => hd x t hx)
    (fun t _ => hb t) m u
  exact go n _ (State.settle_haltEntered hl ha).2.1
    ((go _ _ hentry hstart).emit hs fun x hx => Offer.still_of_restart hx)

/-- Once the offers before RESTART are taken, every block is in HALTED. -/
theorem State.restart_reached (ht : (a.haltEntered.settle.emit restartOffers).settle.offers = []) :
    ∃ (n : Nat) (c : State) (out : List Offer), (a.haltEntered.settle.emit restartOffers).settle = settleN (n + 8) c ∧
      c.offers = restartOffers ++ out ∧ Echoes out ∧ s.Leads c ∧ c.mc.entry = (.halted, .restart, s.mc.time) ∧
      c.Halts := by
  obtain ⟨hleads, hentry, hearly⟩ := State.settle_haltEntered hl ha
  have hlen : a.haltEntered.settle.offers.length + 8 ≤ Config.offerBound := by
    by_contra hlt
    refine settleN_offers_ne_nil Config.offerBound (a.haltEntered.settle.emit restartOffers) ?_ ht
    show _ < (a.haltEntered.settle.offers ++ restartOffers).length
    rw [List.length_append]
    exact Nat.lt_of_not_le hlt
  obtain ⟨n, hn⟩ := Nat.exists_eq_add_of_le hlen
  have hsettle : (a.haltEntered.settle.emit restartOffers).settle =
      settleN (n + 8) (settleN a.haltEntered.settle.offers.length (a.haltEntered.settle.emit restartOffers)) := by
    rw [← settleN_add]
    show settleN Config.offerBound _ = _
    rw [hn]
    congr 1
    omega
  obtain ⟨hcentry, out, hout, hecho⟩ := (closed_calm s.mc.time).settleN_leading a.haltEntered.settle.offers restartOffers
    (a.haltEntered.settle.emit restartOffers) rfl hentry fun x hx => .inl (hearly x hx)
  obtain ⟨hcleads, -⟩ := (closed_early s).settleN_leading a.haltEntered.settle.offers restartOffers
    (a.haltEntered.settle.emit restartOffers) rfl
    ⟨hleads.scanner, hleads.monitor, hleads.pulse, hleads.selector, hleads.ground, hleads.time⟩ hearly
  have taken : ∀ {P : State → Prop} {o : Offer}, o.echo = false → o ∉ restartOffers →
      (∀ n, Awaits Offer.calm Offer.still P o (settleN n (a.haltEntered.settle.emit restartOffers))) →
      P (settleN a.haltEntered.settle.offers.length (a.haltEntered.settle.emit restartOffers)) := fun he hr h =>
    (h _).taken (by rw [hout]; exact mode_notMem_of_echo hecho he hr)
  refine ⟨n, _, out, hsettle, hout, hecho, hcleads, hcentry, ?_, ?_, ?_, ?_, ?_⟩
  · exact taken (P := fun t => t.governor.Idle) (o := .governorMode .halted) rfl (by simp [restartOffers])
      (State.awaits_halted hl ha (fun _ _ => id) (fun _ _ hx => deliver_idle hx.2) (by simp [haltOffers, modeOffers])
        fun t => t.governor.idle_takeMode _ rfl)
  · exact taken (P := fun t => t.sequencer.Rests) (o := .sequencerMode .halted) rfl (by simp [restartOffers])
      (State.awaits_halted hl ha (fun _ _ => id) (fun _ _ hx => deliver_sequencer_rests hx.2)
        (by simp [haltOffers, modeOffers]) fun t => t.sequencer.rests_takeMode _ rfl)
  · exact taken (P := fun t => t.water.Rests) (o := .waterMode .halted) rfl (by simp [restartOffers])
      (State.awaits_halted hl ha (fun _ _ => id) (fun _ _ hx => deliver_water_rests hx.2)
        (by simp [haltOffers, modeOffers]) fun t => t.water.rests_takeMode _ rfl)
  · exact taken (P := fun t => t.budget.Rests) (o := .budgetMode .halted) rfl (by simp [restartOffers])
      (State.awaits_halted hl ha (fun _ _ => id) (fun _ _ hx => deliver_budget_rests hx.2)
        (by simp [haltOffers, modeOffers]) fun t => t.budget.rests_takeMode _ rfl)
  · exact taken (P := fun t => t.chain.Halts) (o := .chainMode .halted) rfl (by simp [restartOffers])
      (State.awaits_halted hl ha (fun _ _ => id) (fun _ _ hx => deliver_chain_halts hx)
        (by simp [haltOffers, modeOffers]) fun t => Chain.halts_recompose rfl)

end

/-! ### RESTART at every block -/

/-- Every block has taken RESTART; what they make of it waits behind `rest`. -/
def State.restarting (s : State) (rest : List Offer) : State :=
  let c := s.scanner.restart
  let m := s.monitor.restart
  let u := s.pulse.restart s.mc.time
  let x := s.selector.restart
  let b := s.budget.restart s.mc.time
  let q := s.sequencer.restart
  let w := s.water.restart s.mc.time
  let k := s.chain.restart
  ((((((((s.setScanner c.val).setMonitor m.val).setPulse u.val).setSelector x.val).setBudget b.val).setSequencer
    q.val).setWater w.val).setChain k.val).setOffers
      ((((((((rest ++ c.out) ++ m.out) ++ u.out) ++ x.out) ++ b.out) ++ q.out) ++ w.out) ++ k.out)

theorem State.settleN_restartOffers (n : Nat) {s : State} {rest : List Offer} (h : s.offers = restartOffers ++ rest) :
    settleN (n + 8) s = settleN n (s.restarting rest) := by
  obtain ⟨_⟩ := s
  cases h
  rw [settleN_succ _ _ .scannerRestart _ rfl, settleN_succ _ _ .monitorRestart _ rfl, settleN_succ _ _ .pulseRestart _ rfl,
    settleN_succ _ _ .selectorRestart _ rfl, settleN_succ _ _ .budgetRestart _ rfl,
    settleN_succ _ _ .sequencerRestart _ rfl, settleN_succ _ _ .waterRestart _ rfl, settleN_succ _ _ .chainRestart _ rfl]
  rfl

end Sys2Proof.Machine
end

section
/-! RESTART (02 R39): what it makes of each block, and what the offers that follow keep (07 R117, 09 R158, 10 R168). -/

namespace Sys2Proof.Machine

/-! ### Budget rows -/

/-- A budget row as RESTART leaves it. -/
structure BudgetRow.Clear (r : BudgetRow) : Prop where
  demand : r.demand = 0
  grant : r.grant = 0
  state : r.state = .full
  holdExpiry : r.holdExpiry = none
  holdTimer : r.holdTimer = false

/-- Every row is clear. -/
def BudgetRows.Clear (r : BudgetRows) : Prop := ∀ c, (r.get c).Clear

theorem BudgetRow.decide_of_clear {r : BudgetRow} (h : r.Clear) (k : Coefficients) (now : Time) (p : Nat) :
    r.decide k now p = r := by
  obtain ⟨hd, hg, hs, -, -⟩ := h
  cases r
  cases hd
  cases hg
  cases hs
  simp [BudgetRow.decide, BudgetRow.allocate]

theorem BudgetRows.set_get (r : BudgetRows) (c : Consumer) : r.set c (r.get c) = r := by
  cases c <;> rfl

/-- A recompute leaves clear rows as they are. -/
theorem BudgetRows.walk_of_clear {r : BudgetRows} (h : r.Clear) (k : Coefficients) (now : Time) (l : List Consumer)
    (p : Nat) : (BudgetRows.walk k now l p r).val = r := by
  induction l generalizing p with
  | nil => rfl
  | cons c l ih =>
    show (BudgetRows.walk k now l _ (r.set c ((r.get c).decide k now p))).val = r
    rw [BudgetRow.decide_of_clear (h c), BudgetRows.set_get]
    exact ih _

theorem Budget.rows_recomputeFrom {b : Budget} (h : b.rows.Clear) (old : BudgetRows) (now : Time) :
    (b.recomputeFrom old now).val.rows = b.rows := BudgetRows.walk_of_clear h _ _ _ _

theorem BudgetRows.clear_cleared (r : BudgetRows) : r.cleared.Clear := by
  intro c
  cases c
  all_goals exact ⟨rfl, rfl, rfl, rfl, rfl⟩

theorem Budget.rows_restart (b : Budget) (now : Time) : (b.restart now).val.rows = b.rows.cleared :=
  Budget.rows_recomputeFrom (b := { b with rows := b.rows.cleared }) b.rows.clear_cleared b.rows now

/-- The offers that follow RESTART leave the rows clear. -/
theorem deliver_rows_clear {o : Offer} (ho : o.echo = true) {s : State} (hb : s.budget.Rests)
    (h : s.budget.rows.Clear) : (deliver o s).budget.rows.Clear := by
  by_cases hr : o.receiver = some .budget
  case neg => rwa [deliver_budget hr]
  cases o
  case budgetDerate n =>
    show (Budget.rederive { s.budget with derate := n } s.mc.time).val.rows.Clear
    unfold Budget.rederive
    dsimp only
    split
    · exact h
    · exact (Budget.rows_recomputeFrom (b := { s.budget with
        derate := n, ceiling := s.budget.reserve - n }) h s.budget.rows s.mc.time).symm ▸ h
  case budgetRanks l =>
    have hl : (s.budget.rows.ranked l).Clear := fun c => by
      obtain ⟨h1, h2, h3, h4, h5⟩ := h c
      cases c
      all_goals exact ⟨h1, h2, h3, h4, h5⟩
    show (s.budget.takeRanks s.mc.time l).val.rows.Clear
    unfold Budget.takeRanks
    dsimp only
    split
    · exact h
    · exact (Budget.rows_recomputeFrom (b := { s.budget with rows := s.budget.rows.ranked l }) hl
        (s.budget.rows.ranked l) s.mc.time).symm ▸ hl
  case demand c n =>
    have hd := demandIn_of_not_working hb.mode c n
    have hc : (s.budget.rows.set c { s.budget.rows.get c with offered := n, demand := 0 }).Clear := fun k => by
      obtain ⟨-, h2, h3, h4, h5⟩ := h c
      rw [BudgetRows.get_set]
      split
      · exact ⟨rfl, h2, h3, h4, h5⟩
      · exact h k
    show (s.budget.takeDemand s.mc.time c n).val.rows.Clear
    unfold Budget.takeDemand
    dsimp only
    rw [hd, if_pos (h c).demand.symm]
    exact hc
  case budgetMode | budgetStart | budgetRestart => cases ho
  case holderChanged d => cases ho
  all_goals cases hr

/-! ### Implement sequencer -/

/-- A side arm as RESTART leaves it. -/
structure ArmRecord.Clear (a : ArmRecord) : Prop where
  command : a.command = .auto
  attempts : a.attempts = 0
  afterFail : a.afterFail = false
  fault : a.fault = none
  outcomes : a.outcomes = []
  state : a.state ≠ .fault

/-- The main broom as RESTART leaves it. -/
structure MainRecord.Clear (b : MainRecord) : Prop where
  command : b.command = .auto
  fault : b.fault = none
  state : b.state ≠ .fault

/-- The sequencer's records as RESTART leaves them. -/
structure Sequencer.Clear (q : Sequencer) : Prop where
  left : q.left.Clear
  right : q.right.Clear
  main : q.main.Clear

theorem Sequencer.Clear.arm {q : Sequencer} (h : q.Clear) (x : Side) : (q.arm x).Clear := by
  cases x
  · exact h.left
  · exact h.right

theorem Sequencer.Clear.finish {p : Sequencer} (h : p.Clear) (old : Sequencer) (all : Bool) :
    (old.finish p all).val.Clear := by
  obtain ⟨⟨l1, l2, l3, l4, l5, l6⟩, ⟨r1, r2, r3, r4, r5, r6⟩, ⟨m1, m2, m3⟩⟩ := h
  show p.drive.takeDemands.Clear
  unfold Sequencer.drive
  split
  all_goals exact ⟨⟨l1, l2, l3, l4, l5, l6⟩, ⟨r1, r2, r3, r4, r5, r6⟩, ⟨m1, m2, m3⟩⟩

theorem Sequencer.Clear.event {p : Sequencer} (h : p.Clear) (hm : p.mode.working = false) (old : Sequencer)
    (t : Moment) : (old.event p t).val.Clear := by
  unfold Sequencer.event
  rw [Sequencer.react_of_not_working hm]
  exact h.finish old false

theorem ArmRecord.clear_restart (a : ArmRecord) : a.restart.Clear := by
  refine ⟨rfl, rfl, rfl, rfl, rfl, ?_⟩
  show (if a.state = .fault then ArmState.raised else a.state) ≠ .fault
  split
  · nofun
  · assumption

theorem MainRecord.clear_restart (b : MainRecord) : b.restart.Clear := by
  refine ⟨rfl, rfl, ?_⟩
  show (if b.state = .fault then BroomState.up else b.state) ≠ .fault
  split
  · nofun
  · assumption

theorem Sequencer.clear_restart (q : Sequencer) : q.restart.val.Clear :=
  Sequencer.Clear.finish (p := { q with left := q.left.restart, right := q.right.restart, main := q.main.restart })
    ⟨q.left.clear_restart, q.right.clear_restart, q.main.clear_restart⟩ q false

/-- No LIFT position is failed any more. -/
theorem Sequencer.Clear.takeFailed {q : Sequencer} (h : q.Clear) (t : Moment) :
    (q.takeFailed t false false false).val.Clear := by
  obtain ⟨⟨l1, l2, l3, l4, l5, l6⟩, ⟨r1, r2, r3, r4, r5, r6⟩, ⟨m1, m2, m3⟩⟩ := h
  exact Sequencer.Clear.finish (p := q.failedTaken t false false false)
    ⟨⟨l1, l2, l3, l4, l5, l6⟩, ⟨r1, r2, r3, r4, r5, r6⟩, ⟨m1, m2, m3⟩⟩ q false

theorem Sequencer.Clear.takeProfile {q : Sequencer} (h : q.Clear) (hm : q.mode.working = false) (t : Moment)
    (r : Profile) : (q.takeProfile t r).val.Clear := by
  obtain ⟨⟨l1, l2, l3, l4, l5, l6⟩, ⟨r1, r2, r3, r4, r5, r6⟩, ⟨m1, m2, m3⟩⟩ := h
  have hp : (q.profiled r).Clear := ⟨⟨l1, l2, l3, l4, l5, l6⟩, ⟨r1, r2, r3, r4, r5, r6⟩, ⟨m1, m2, m3⟩⟩
  have hpm : (q.profiled r).mode.working = false := hm
  show ((q.react (q.profiled r) t).andThen fun p =>
    q.finish (q.newReaches t r.reachL r.reachR p) false).val.Clear
  rw [Sequencer.react_of_not_working hpm]
  show (q.finish (q.newReaches t r.reachL r.reachR (q.profiled r)) false).val.Clear
  rw [Sequencer.newReaches, if_neg (by simp [hpm])]
  exact hp.finish q false

/-- The offers that follow RESTART leave the sequencer's records clear. -/
theorem deliver_sequencer_clear {o : Offer} (ho : o.echo = true) {s : State} (hm : s.sequencer.mode.working = false)
    (h : s.sequencer.Clear) : (deliver o s).sequencer.Clear := by
  by_cases hr : o.receiver = some .sequencer
  case neg => rwa [deliver_sequencer hr]
  have clear := h
  obtain ⟨⟨l1, l2, l3, l4, l5, l6⟩, ⟨r1, r2, r3, r4, r5, r6⟩, ⟨m1, m2, m3⟩⟩ := h
  cases o
  case sequencerStale => exact ⟨clear.left, clear.right, clear.main⟩
  case sequencerLift b =>
    exact Sequencer.Clear.event (p := { s.sequencer with liftArms := b }) ⟨clear.left, clear.right, clear.main⟩ hm _ s.moment
  case liftForReverse b =>
    exact Sequencer.Clear.event (p := { s.sequencer with liftForReverse := b }) ⟨clear.left, clear.right, clear.main⟩ hm _ s.moment
  case sequencerGrants m l r =>
    exact Sequencer.Clear.event (p := { s.sequencer with
      main := { s.sequencer.main with row := m }, left := { s.sequencer.left with row := l }
      right := { s.sequencer.right with row := r } })
      ⟨⟨l1, l2, l3, l4, l5, l6⟩, ⟨r1, r2, r3, r4, r5, r6⟩, ⟨m1, m2, m3⟩⟩ hm _ s.moment
  case sequencerProfile r => exact clear.takeProfile hm _ r
  case sequencerLiftFailed l r m =>
    simp only [Offer.echo, Bool.and_eq_true, Bool.not_eq_true'] at ho
    obtain ⟨⟨rfl, rfl⟩, rfl⟩ := ho
    exact clear.takeFailed _
  case sequencerMode | sequencerStart | sequencerRestart | sequencerMeasures | sequencerLimits
      | sequencerCoefficients | holderChanged => cases ho
  all_goals cases hr

/-! ### Water controller -/

/-- What RESTART clears of the water controller beyond what HALTED does. -/
def Water.cleared (w : Water) : Nat × Time × Bool × Bool × GroupSet :=
  (w.sprayed, w.wetUntil, w.wet, w.enable, w.exclusion)

/-- What the end of an auto cut turns on. -/
def Water.cutState (w : Water) : Bool × GroundStatus := (w.autoCut, w.copies.ground)

/-- Outside SWEEP a re-evaluation changes none of it. -/
theorem Water.cleared_reevaluate (old : Water) {w : Water} (h : w.copies.mode ≠ .sweep) (now : Time) :
    (old.reevaluate w now).val.cleared = w.cleared ∧ (old.reevaluate w now).val.cutState = w.cutState := by
  show (w.takeDuties.transit now).drive.cleared = _ ∧ (w.takeDuties.transit now).drive.cutState = _
  rw [Water.transit_of_not_sweep (w := w.takeDuties) h]
  exact ⟨rfl, rfl⟩

theorem Water.cleared_restart {w : Water} (h : w.Rests) (now : Time) :
    (w.restart now).val.cleared = (0, 0, false, true, 0) ∧ (w.restart now).val.cutState = w.cutState :=
  w.cleared_reevaluate (w := { w.defaults with
    wetUntil := 0, wet := false, sprayed := 0, copies := { w.copies with path := 0, advance := 0 } }) h.mode now

/-- Present ground changes nothing that RESTART has cleared. -/
theorem Water.cleared_takeGround {w : Water} (h : w.copies.mode ≠ .sweep) (now : Time) (n : Nat) :
    (w.takeGround now .present n).val.cleared = w.cleared := by
  have htake := (w.cleared_reevaluate (w := { w with
    copies := { w.copies with ground := .present, groundSpeed := n } }) h now).1
  have hends : ∀ v : Water, v.autoCutEnds.val.cleared = v.cleared := fun v => by
    unfold Water.autoCutEnds
    split
    all_goals rfl
  unfold Water.takeGround
  cases w.copies.ground
  · exact htake
  · exact (hends _).trans htake

/-- Present ground ends the auto cut, if ground was lost. -/
theorem Water.autoCut_takeGround {w : Water} (h : w.copies.mode ≠ .sweep) (hc : w.copies.ground = .lost ∨ w.autoCut = false)
    (now : Time) (n : Nat) : (w.takeGround now .present n).val.autoCut = false := by
  have hends : ∀ v : Water, v.autoCutEnds.val.autoCut = false := fun v => by
    unfold Water.autoCutEnds
    split
    next => rfl
    next hv => exact Bool.eq_false_iff.2 hv
  unfold Water.takeGround
  cases hg : w.copies.ground
  · have ha : w.autoCut = false := hc.resolve_left (by rw [hg]; nofun)
    exact (congrArg (·.1) (w.cleared_reevaluate (w := { w with
      copies := { w.copies with ground := .present, groundSpeed := n } }) h now).2).trans ha
  · exact hends _

/-- Of the offers that follow RESTART only the ground touches an auto cut, and none what RESTART has cleared. -/
theorem deliver_cleared {o : Offer} (ho : o.echo = true) {s : State} (h : s.water.Rests) :
    (deliver o s).water.cleared = s.water.cleared ∧
      ((∀ n, o ≠ .waterGround .present n) → (deliver o s).water.cutState = s.water.cutState) := by
  by_cases hr : o.receiver = some .water
  case neg => rw [deliver_water hr]; exact ⟨rfl, fun _ => rfl⟩
  have keep : ∀ {w : Water}, w.copies.mode = s.water.copies.mode → w.cleared = s.water.cleared →
      w.cutState = s.water.cutState → (s.water.reevaluate w s.mc.time).val.cleared = s.water.cleared ∧
        ((∀ n, o ≠ .waterGround .present n) →
          (s.water.reevaluate w s.mc.time).val.cutState = s.water.cutState) := fun hm hc hk => by
    obtain ⟨hc', hk'⟩ := s.water.cleared_reevaluate (hm.trans_ne h.mode) s.mc.time
    exact ⟨hc'.trans hc, fun _ => hk'.trans hk⟩
  cases o
  case waterCut b => exact keep (w := { s.water with copies := { s.water.copies with cutWater := b } }) rfl rfl rfl
  case waterProfile x n =>
    exact keep (w := { s.water with copies := { s.water.copies with groups := x, dose := n } }) rfl rfl rfl
  case waterGrant g => exact keep (w := { s.water with copies := { s.water.copies with row := g } }) rfl rfl rfl
  case waterImplements l r m =>
    exact keep (w := { s.water with copies := { s.water.copies with armL := l, armR := r, main := m } }) rfl rfl rfl
  case waterFailed x b =>
    exact keep (w := { s.water with
      prime := s.water.prime && !(b && !s.water.copies.primeFailed)
      copies := { s.water.copies with failed := x, primeFailed := b } }) rfl rfl rfl
  case waterGround x n =>
    cases x
    · exact ⟨Water.cleared_takeGround h.mode _ n, fun hn => absurd rfl (hn n)⟩
    · cases ho
  case waterMode | waterStart | waterRestart | waterTank | waterPath | waterCoefficient | holderChanged => cases ho
  all_goals cases hr

/-- The auto cut is off, or present ground is to end it. -/
def Water.CutEnds (w : Water) : Prop := w.copies.ground = .lost ∨ w.autoCut = false

theorem deliver_autoCut {o : Offer} (ho : o.echo = true) {s : State} (h : s.water.Rests) :
    (s.water.autoCut = false → (deliver o s).water.autoCut = false) ∧
      (s.water.CutEnds → (deliver o s).water.CutEnds) := by
  by_cases hg : ∃ n, o = .waterGround .present n
  · obtain ⟨n, rfl⟩ := hg
    exact ⟨fun hc => Water.autoCut_takeGround h.mode (.inr hc) _ n,
      fun hc => .inr (Water.autoCut_takeGround h.mode hc _ n)⟩
  · have hk := (deliver_cleared ho h).2 (not_exists.1 hg)
    obtain ⟨hcut, hground⟩ := Prod.mk.inj hk
    exact ⟨fun hc => hcut.trans hc, fun hc => hc.imp hground.trans hcut.trans⟩

end Sys2Proof.Machine
end

section
/-! RESTART (02 R39): the machine it leaves. -/

namespace Sys2Proof.Machine

/-! ### RESTART at a block -/

theorem Water.Rests.restart {w : Water} (h : w.Rests) (now : Time) : (w.restart now).val.Rests :=
  w.rests_reevaluate (w := { w.defaults with
    wetUntil := 0, wet := false, sprayed := 0, copies := { w.copies with path := 0, advance := 0 } })
    h.mode (fun _ => h.prime) now

theorem Budget.Rests.restart {b : Budget} (h : b.Rests) (now : Time) : (b.restart now).val.Rests :=
  Budget.Rests.recomputeFrom (b := { b with rows := b.rows.cleared }) ⟨h.mode, b.rows.demand_cleared⟩ b.rows now

theorem Scanner.restart_val (c : Scanner) :
    c.restart.val =
      { c with
        continuous := false, periodTimer := none, live := [], state := .stopped, hold := none, published := [],
        scanNumber := 0, staleTimer := none, stale := true } := by
  unfold Scanner.restart Scanner.becomeStale
  split
  next h =>
    have hs : c.stale = true := h
    rw [← hs]
    rfl
  next => rfl

/-- A scanner that has perhaps stopped takes RESTART as it would have before. -/
theorem Scanner.restart_of_halted {c d : Scanner} (h : c.halted = d.halted) : c.restart = d.restart := by
  unfold Scanner.restart
  rw [h]

theorem Selector.restart_val (x : Selector) :
    x.restart.val =
      { x with
        queue := [], pinned := false, path := 0, advance := 0
        active := if x.pinned then x.zoneProfile else x.active } := by
  unfold Selector.restart
  cases x.pinned
  all_goals rfl

theorem Chain.goes_restart (c : Chain) : c.restart.val.Goes 0 (Vector.replicate 16 0) false false :=
  ⟨c.failed_unfail_all, rfl, nofun, nofun⟩

/-! ### The machine that RESTART leaves -/

/-- What RESTART has made of every block, and the offers that follow keep. -/
structure State.Restarted (s t : State) : Prop where
  entry : t.mc.entry = (.halted, .restart, s.mc.time)
  scanner : t.scanner = s.scanner.restart.val
  monitor : t.monitor = s.monitor.restart.val
  pulse : t.pulse = (s.pulse.restart s.mc.time).val
  selector : t.selector = s.selector.restart.val
  halts : t.Halts
  rows : t.budget.rows.Clear
  records : t.sequencer.Clear
  cleared : t.water.cleared = (0, 0, false, true, 0)
  failed : t.chain.Goes 0 (Vector.replicate 16 0) false false

theorem deliver_halts {o : Offer} (ho : o.still) {s : State} (h : s.Halts) : (deliver o s).Halts :=
  ⟨deliver_idle ho.2 h.governor, deliver_sequencer_rests ho.2 h.sequencer, deliver_water_rests ho.2 h.water,
    deliver_budget_rests ho.2 h.budget, deliver_chain_halts ho h.chain⟩

theorem closed_restarted (s : State) : Closed (fun o => o.echo = true) (fun o => o.echo = true) s.Restarted where
  sub _ := id
  setOffers _ _ h :=
    ⟨h.entry, h.scanner, h.monitor, h.pulse, h.selector,
      ⟨h.halts.governor, h.halts.sequencer, h.halts.water, h.halts.budget, h.halts.chain⟩, h.rows, h.records, h.cleared,
      h.failed⟩
  keeps o t ho h := by
    obtain ⟨h1, h2, h3, h4⟩ := Offer.receiver_of_echo ho
    refine ⟨(closed_calm s.mc.time).keeps o t (.inr (.inl ho)) h.entry, (deliver_scanner h1).trans h.scanner,
      (deliver_monitor h2).trans h.monitor, (deliver_pulse h3).trans h.pulse, (deliver_selector h4).trans h.selector,
      deliver_halts (Offer.still_of_echo ho) h.halts, deliver_rows_clear ho h.halts.budget h.rows,
      deliver_sequencer_clear ho h.halts.sequencer.mode h.records, (deliver_cleared ho h.halts.water).1.trans h.cleared, ?_⟩
    obtain rfl | hi := Offer.inner_of_echo ho
    · rw [deliver_chain (by nofun)]
      exact h.failed
    · exact deliver_goes hi h.failed
  made o t ho h := (closed_calm s.mc.time).made o t (.inr (.inl ho)) h.entry

/-! ### Every block once it has taken RESTART -/

section
variable (c : State) (rest : List Offer)

theorem State.restarting_mc : (c.restarting rest).mc = c.mc := by
  obtain ⟨_⟩ := c
  rfl

theorem State.restarting_scanner : (c.restarting rest).scanner = c.scanner.restart.val := rfl
theorem State.restarting_monitor : (c.restarting rest).monitor = c.monitor.restart.val := rfl
theorem State.restarting_pulse : (c.restarting rest).pulse = (c.pulse.restart c.mc.time).val := rfl
theorem State.restarting_selector : (c.restarting rest).selector = c.selector.restart.val := rfl
theorem State.restarting_budget : (c.restarting rest).budget = (c.budget.restart c.mc.time).val := rfl
theorem State.restarting_governor : (c.restarting rest).governor = c.governor := by
  obtain ⟨_⟩ := c
  rfl

theorem State.restarting_sequencer : (c.restarting rest).sequencer = c.sequencer.restart.val := rfl
theorem State.restarting_water : (c.restarting rest).water = (c.water.restart c.mc.time).val := rfl
theorem State.restarting_chain : (c.restarting rest).chain = c.chain.restart.val := rfl

end

/-- Every block takes RESTART at rest. -/
theorem State.Halts.restarting {c : State} (h : c.Halts) (rest : List Offer) : (c.restarting rest).Halts where
  governor := by
    rw [State.restarting_governor]
    exact h.governor
  sequencer := by
    rw [State.restarting_sequencer]
    exact h.sequencer.restart
  water := by
    rw [State.restarting_water]
    exact h.water.restart _
  budget := by
    rw [State.restarting_budget]
    exact h.budget.restart _
  chain := by
    rw [State.restarting_chain]
    exact h.chain.restart

theorem State.restarted_of_halts {s c : State} (hl : s.Leads c) (he : c.mc.entry = (.halted, .restart, s.mc.time))
    (h : c.Halts) (rest : List Offer) : s.Restarted (c.restarting rest) where
  entry := by
    rw [State.restarting_mc]
    exact he
  scanner := by rw [State.restarting_scanner, Scanner.restart_of_halted hl.scanner]
  monitor := by rw [State.restarting_monitor, hl.monitor]
  pulse := by rw [State.restarting_pulse, hl.pulse, hl.time]
  selector := by rw [State.restarting_selector, hl.selector]
  halts := h.restarting rest
  rows := by
    rw [State.restarting_budget, Budget.rows_restart]
    exact c.budget.rows.clear_cleared
  records := by
    rw [State.restarting_sequencer]
    exact c.sequencer.clear_restart
  cleared := by
    rw [State.restarting_water]
    exact (Water.cleared_restart h.water _).1
  failed := by
    rw [State.restarting_chain]
    exact c.chain.goes_restart

/-- What follows RESTART at the blocks: only echoes, the new ground for the water controller among them. -/
theorem State.offers_restarting (c : State) {rest : List Offer} (h : Echoes rest) :
    Echoes (c.restarting rest).offers ∧ .waterGround .present 0 ∈ (c.restarting rest).offers := by
  have hmem : .waterGround .present 0 ∈ (c.pulse.restart c.mc.time).out := by
    unfold Pulse.restart
    simp
  refine ⟨(((((((h.append (Scanner.echoes_restart _)).append (Monitor.echoes_restart _)).append
    (Pulse.echoes_restart _ _)).append (Selector.echoes_restart _)).append (Minor.echoes ?_)).append
    (Minor.echoes ?_)).append (Minor.echoes ?_)).append (Chain.echoes_restart _), ?_⟩
  · exact Budget.minor_recomputeFrom _ _ _
  · exact c.sequencer.runs_restart.made.minor (.inr (.inl rfl))
  · exact (Water.runs_reevaluate _ _ _).made.minor (.inr (.inr rfl))
  · simp only [State.restarting, State.setOffers, List.mem_append, hmem, true_or, or_true]

theorem State.restart_ends {s a : State} (hl : s.Leads a) (ha : ∀ x ∈ a.offers, x.early = true)
    (ht : (a.haltEntered.settle.emit restartOffers).settle.offers = []) :
    s.Restarted (a.haltEntered.settle.emit restartOffers).settle ∧
      (s.water.copies.ground = .lost → (a.haltEntered.settle.emit restartOffers).settle.water.autoCut = false) := by
  obtain ⟨n, c, out, he, hout, hecho, hleads, hentry, hhalts⟩ := State.restart_reached hl ha ht
  have hrest := State.restarted_of_halts hleads hentry hhalts out
  obtain ⟨hoffers, hground⟩ := c.offers_restarting hecho
  rw [he, State.settleN_restartOffers n hout] at ht ⊢
  refine ⟨((closed_restarted s).settleN n _ hrest hoffers).1, fun hlost => ?_⟩
  have hcut : (c.restarting out).water.CutEnds := .inl (by
    have hk := (Water.cleared_restart hhalts.water c.mc.time).2
    exact (congrArg (·.2) hk).trans (hleads.ground.trans hlost))
  have hclosed := (closed_restarted s).and (P := fun t => t.water.CutEnds) (fun _ _ => id)
    fun o t ho h hc => (deliver_autoCut ho h.halts.water).2 hc
  obtain ⟨pre, post, hsplit⟩ := List.append_of_mem hground
  have hin : ∀ x ∈ pre ++ .waterGround .present 0 :: post, x.echo = true := hsplit ▸ hoffers
  refine (hclosed.arrives (P := fun t => t.water.autoCut = false) (fun _ _ => id)
    (fun o t ho h hc => (deliver_autoCut ho h.1.halts.water).1 hc) (o := .waterGround .present 0) rfl
    (fun t h => Water.autoCut_takeGround h.1.halts.water.mode h.2 _ 0) n pre post _ hsplit ⟨hrest, hcut⟩
    (fun x hx => hin x (by simp [hx])) fun x hx => hin x (by simp [hx])).resolve_right fun h => ?_
  rw [ht] at h
  exact absurd h.1 List.not_mem_nil

/-! ### The claims -/

theorem ModeController.claims_withdraw (d k : Domain) (c : ModeController) :
    (c.withdraw d).val.claims.get k =
      if k = d ∧ (c.claims.get d).holder ≠ none then ⟨none, 0⟩ else c.claims.get k := by
  unfold ModeController.withdraw
  cases h : (c.claims.get d).holder with
  | none => simp [Emit.pure]
  | some p => simp [ModeController.free, Claims.get_set]

end Sys2Proof.Machine
end

section
/-! RESTART (02 R39) as a whole. -/

namespace Sys2Proof.Machine

/-! ### The claims withdrawn -/

/-- A claim as RESTART leaves it. -/
def Claim.withdrawn (k : Claim) : Claim := if k.holder = none then k else ⟨none, 0⟩

theorem ModeController.claims_withdrawn (d k : Domain) (c : ModeController) :
    (c.withdraw d).val.claims.get k = if k = d then (c.claims.get d).withdrawn else c.claims.get k := by
  rw [ModeController.claims_withdraw]
  by_cases hk : k = d
  · subst hk
    by_cases hn : (c.claims.get k).holder = none
    · simp [hn, Claim.withdrawn]
    · simp [hn, Claim.withdrawn]
  · simp [hk]

theorem ModeController.claims_withdrawAll (c : ModeController) (d : Domain) :
    c.withdrawAll.val.claims.get d = (c.claims.get d).withdrawn := by
  show (((ModeController.withdraw .water (ModeController.withdraw .implements
    (ModeController.withdraw .travel c).val).val).val).claims.get d = _)
  cases d
  all_goals simp only [ModeController.claims_withdrawn, reduceCtorEq, if_true, if_false]

theorem ModeController.post_withdraw {c : ModeController} {d : Domain} {p : Port} (h : (c.claims.get d).holder = some p) :
    .postTo p .claimLost d.number (-1) ∈ (c.withdraw d).out := by
  unfold ModeController.withdraw
  rw [h]
  exact List.mem_cons_self

/-- Every holder is told. -/
theorem ModeController.post_withdrawAll {c : ModeController} {d : Domain} {p : Port}
    (h : (c.claims.get d).holder = some p) : .postTo p .claimLost d.number (-1) ∈ c.withdrawAll.out := by
  have htravel : ∀ k, k ≠ .travel → (ModeController.withdraw .travel c).val.claims.get k = c.claims.get k :=
    fun k hk => (ModeController.claims_withdrawn _ k c).trans (if_neg hk)
  show _ ∈ ((ModeController.withdraw .travel c).out ++
    (ModeController.withdraw .implements (ModeController.withdraw .travel c).val).out) ++
      (ModeController.withdraw .water (ModeController.withdraw .implements
        (ModeController.withdraw .travel c).val).val).out
  cases d
  · exact List.mem_append_left _ (List.mem_append_left _ (ModeController.post_withdraw h))
  · refine List.mem_append_left _ (List.mem_append_right _ (ModeController.post_withdraw ?_))
    rw [htravel .implements nofun, h]
  · refine List.mem_append_right _ (ModeController.post_withdraw ?_)
    rw [ModeController.claims_withdrawn, if_neg nofun, htravel .water nofun, h]

/-- The claims are withdrawn before anything else. -/
theorem State.withdrawn_early {s : State} (ho : s.offers = []) :
    s.Leads (s.withMc s.mc.withdrawAll).settle ∧ ∀ x ∈ (s.withMc s.mc.withdrawAll).settle.offers, x.early = true := by
  obtain ⟨⟨cl, hval⟩, hout⟩ := s.mc.claimsOnly_withdrawAll
  have htime : (s.withMc s.mc.withdrawAll).mc.time = s.mc.time := by
    rw [State.withMc_mc, hval]
  refine (closed_early s).settle ⟨rfl, rfl, rfl, rfl, rfl, htime⟩ fun x hx => ?_
  have hx' : x ∈ s.mc.withdrawAll.out := by
    have he : (s.withMc s.mc.withdrawAll).offers = s.offers ++ s.mc.withdrawAll.out := rfl
    rw [he, ho] at hx
    exact hx
  obtain h | ⟨d, rfl⟩ := hout x hx'
  · exact Offer.early_of_minor (Notices.minor (out := [x]) (by simpa [Notices] using h) x List.mem_cons_self)
  · rfl

/-! ### Records kept -/

theorem State.restarted_eq (s : State) :
    s.restarted = ((s.withMc s.mc.withdrawAll).settle.haltEntered.settle.emit restartOffers).settle := rfl

theorem State.kept_haltEntered (a : State) : Kept a (a.haltEntered.settle.emit restartOffers).settle :=
  ((((Kept.setMc a { a.mc with mode := .halted, lastChange := a.mc.time, lastCause := .restart } rfl).trans
    (Kept.emit _ haltOffers)).trans (State.settle_kept _)).trans (Kept.emit _ restartOffers)).trans (State.settle_kept _)

/-- RESTART changes no configuration record, and of the standing records the claims. -/
theorem State.restarted_records (s : State) :
    s.restarted.configuration = s.configuration ∧
      s.restarted.standing = { s.standing with claims := s.restarted.mc.claims } ∧
      s.restarted.mc.claims = s.mc.withdrawAll.val.claims := by
  obtain ⟨⟨cl, hval⟩, -⟩ := s.mc.claimsOnly_withdrawAll
  obtain ⟨hconf, hstand⟩ := (State.settle_kept (s.withMc s.mc.withdrawAll)).trans (State.kept_haltEntered _)
  rw [← State.restarted_eq] at hconf hstand
  have hclaims : s.restarted.mc.claims = s.mc.withdrawAll.val.claims := congrArg Standing.claims hstand
  refine ⟨hconf.trans ?_, ?_, hclaims⟩
  · show ((s.setMc s.mc.withdrawAll.val).emit _).configuration = _
    rw [hval]
    rfl
  · rw [hclaims, hstand]
    show ((s.setMc s.mc.withdrawAll.val).emit _).standing = _
    rw [hval]
    rfl

theorem State.restarted_entry {s : State} (ho : s.offers = []) :
    s.restarted.mc.entry = (.halted, .restart, s.mc.time) := by
  obtain ⟨hl, ha⟩ := State.withdrawn_early ho
  exact ((closed_calm s.mc.time).settle
    (s := (s.withMc s.mc.withdrawAll).settle.haltEntered.settle.emit restartOffers)
    (State.settle_haltEntered hl ha).2.1 (State.calm_restartOffered hl ha)).1

theorem State.restarted_restarted {s : State} (ho : s.offers = []) (ht : s.restarted.offers = []) :
    s.Restarted s.restarted ∧ (s.water.copies.ground = .lost → s.restarted.water.autoCut = false) := by
  obtain ⟨hl, ha⟩ := State.withdrawn_early ho
  exact State.restart_ends hl ha ht

theorem State.Restarted.drivesNothing {s t : State} (h : s.Restarted t) : t.drivesNothing :=
  State.Rests.drivesNothing ⟨h.halts.governor, h.halts.sequencer, h.halts.water, h.halts.budget, h.halts.chain.2,
    fun hm => absurd h.halts.chain.1 hm⟩

/-! ### The grants that RESTART takes back -/

theorem BudgetRow.copy_ne {r : BudgetRow} (h : r.grant ≠ 0 ∨ r.state ≠ .full) : ((⟨0, .full⟩ : GrantCopy) != r.copy) = true := by
  rw [bne_iff_ne]
  intro he
  obtain ⟨hg, hs⟩ := GrantCopy.mk.inj he
  exact h.elim (fun h => h hg.symm) fun h => h hs.symm

section
variable {r : BudgetRows}

theorem BudgetRows.mem_grants_travel (h : r.travel.grant ≠ 0 ∨ r.travel.state ≠ .full) :
    .governorGrant ⟨0, .full⟩ ∈ grantOffers r r.cleared :=
  List.mem_append_left _ (List.mem_append_left _ (mem_offerIf.2 ⟨BudgetRow.copy_ne h, rfl⟩))

theorem BudgetRows.mem_grants_sequencer
    (h : ∃ c ∈ [Consumer.main, .armL, .armR], (r.get c).grant ≠ 0 ∨ (r.get c).state ≠ .full) :
    .sequencerGrants ⟨0, .full⟩ ⟨0, .full⟩ ⟨0, .full⟩ ∈ grantOffers r r.cleared := by
  obtain ⟨c, hc, h⟩ := h
  have hne := BudgetRow.copy_ne h
  refine List.mem_append_left _ (List.mem_append_right _ (mem_offerIf.2 ⟨?_, rfl⟩))
  show ((⟨0, .full⟩ : GrantCopy) != r.main.copy || (⟨0, .full⟩ : GrantCopy) != r.armL.copy ||
    (⟨0, .full⟩ : GrantCopy) != r.armR.copy) = true
  simp only [List.mem_cons, List.not_mem_nil, or_false] at hc
  simp only [Bool.or_eq_true]
  obtain rfl | rfl | rfl := hc
  · exact .inl (.inl hne)
  · exact .inl (.inr hne)
  · exact .inr hne

theorem BudgetRows.mem_grants_water (h : r.water.grant ≠ 0 ∨ r.water.state ≠ .full) :
    .waterGrant ⟨0, .full⟩ ∈ grantOffers r r.cleared :=
  List.mem_append_right _ (mem_offerIf.2 ⟨BudgetRow.copy_ne h, rfl⟩)

end

/-- What the budget table offers at RESTART. -/
theorem Budget.grants_restart (b : Budget) (now : Time) {o : Offer} (h : o ∈ grantOffers b.rows b.rows.cleared) :
    o ∈ (b.restart now).out := by
  have hw : (BudgetRows.walk b.coefficients now b.rows.cleared.order b.ceiling b.rows.cleared).val = b.rows.cleared :=
    BudgetRows.walk_of_clear b.rows.clear_cleared _ _ _ _
  refine List.mem_append_right _ ?_
  show o ∈ grantOffers b.rows (BudgetRows.walk b.coefficients now b.rows.cleared.order b.ceiling b.rows.cleared).val
  rw [hw]
  exact h

end Sys2Proof.Machine

open Sys2Proof Sys2Proof.Machine

/-- Settles O20: HALTED is at every block before RESTART is; each block clears its records, and the offers that follow
keep them so. -/
theorem restartClearsTheMachine : Obligations.RestartClearsTheMachine := by
  refine ⟨fun p tag s h ho => ⟨s.restarted, exec_of_body .restart rfl h rfl, ?_, ?_, fun d => ?_, ?_, ?_, ?_, ?_, fun ht => ?_⟩,
    fun s => ⟨fun h => ?_, fun h => ?_, fun h => ?_, fun h => ?_, fun c => ?_, fun h => ?_, fun h => ?_, fun h => ?_⟩⟩
  · exact s.restarted_records.1
  · exact s.restarted_records.2.1
  · rw [s.restarted_records.2.2]
    exact s.mc.claims_withdrawAll d
  · exact congrArg (·.1) (State.restarted_entry ho)
  · exact congrArg (·.2.1) (State.restarted_entry ho)
  · exact congrArg (·.2.2) (State.restarted_entry ho)
  · exact ⟨s.mc.withdrawAll.val, s.mc.withdrawAll.out, haltOffers, (s.withMc s.mc.withdrawAll).settle, rfl,
      fun d h => ModeController.post_withdrawAll, rfl, by simp [haltOffers, modeOffers, Cause.number, Mode.number]⟩
  · obtain ⟨hr, hcut⟩ := State.restarted_restarted ho ht
    obtain ⟨hg, hidle⟩ := hr.halts.governor
    have hw := hr.halts.water
    obtain ⟨h1, h2, h3, h4, h5⟩ : _ ∧ _ ∧ _ ∧ _ ∧ _ := by simpa only [Water.cleared, Prod.mk.injEq] using hr.cleared
    refine ⟨hr.drivesNothing, hr.scanner.trans s.scanner.restart_val, fun ch => ?_, ?_, hr.pulse,
      hr.selector.trans s.selector.restart_val,
      fun c => ⟨(hr.rows c).demand, (hr.rows c).grant, (hr.rows c).state, (hr.rows c).holdExpiry, (hr.rows c).holdTimer⟩,
      hg.request, hg.lease, hg.state, ?_, hg.command, ?_, ?_, hg.liftForReverse, hg.liftWait, hg.blocked, hg.cutLevel,
      hg.slipWindow, hg.ramp, ?_, fun x => ?_, hr.records.main.command, hr.records.main.fault, hr.records.main.state,
      hr.halts.sequencer.main.timer, hr.halts.sequencer.regTimer, hw.state, hw.primeTimer, h1, h2, h3, h4, h5, hw.nozzles,
      hw.prime, hcut, hr.failed.failed, fun i => ?_⟩
    · rw [hr.monitor]
      exact s.monitor.get_clearAll ch
    · rw [hr.monitor]
      exact s.monitor.restart_outputs
    · rw [← hidle]
      rfl
    · rw [← hidle]
      rfl
    · rw [← hidle]
      rfl
    · rw [← hidle]
      rfl
    · obtain ⟨a1, a2, a3, a4, a5, a6⟩ := hr.records.arm x
      exact ⟨a1, a2, a3, a4, a5, a6, (hr.halts.sequencer.arm x).timer, (hr.halts.sequencer.arm x).motion⟩
    · rw [hr.failed.counts]
      simp [Vector.get_eq_getElem]
  · have hout : s.scanner.restart.out = [.post .sensorStale 0 (-1), .governorStale true, .sequencerStale true] := by
      unfold Scanner.restart Scanner.becomeStale
      rw [if_neg (by simp [Scanner.halted, h])]
      rfl
    have hmem : ∀ o ∈ s.scanner.restart.out, o ∈ (deliver .scannerRestart s).offers :=
      fun o ho => List.mem_append_right _ ho
    rw [hout] at hmem
    exact ⟨hmem _ (by simp), hmem _ (by simp), hmem _ (by simp)⟩
  · refine List.mem_append_right _ ?_
    unfold Pulse.restart
    rw [h]
    exact List.mem_cons_self
  · refine List.mem_append_right _ ?_
    unfold Selector.restart
    rw [if_pos h]
    exact List.mem_cons_self
  · have hout : s.selector.restart.out = [] := by
      unfold Selector.restart
      rw [if_neg (Bool.eq_false_iff.1 h)]
      rfl
    show s.offers ++ s.selector.restart.out = s.offers
    rw [hout, List.append_nil]
  · show (s.budget.restart s.mc.time).val.rows.get c = _
    rw [Budget.rows_restart]
    cases c <;> rfl
  · exact List.mem_append_right _ (s.budget.grants_restart s.mc.time (BudgetRows.mem_grants_travel h))
  · exact List.mem_append_right _ (s.budget.grants_restart s.mc.time (BudgetRows.mem_grants_sequencer h))
  · exact List.mem_append_right _ (s.budget.grants_restart s.mc.time (BudgetRows.mem_grants_water h))
end

section
/-! The measurement scanner (03): a role's engineering value. -/

namespace Sys2Proof.Machine

section
variable {c : Scanner} {r : Role}

theorem Scanner.roleValue_of_unassigned (h : (c.roleMap.get r.index).channel = none) : c.roleValue r = none := by
  simp [Scanner.roleValue, h]

theorem Scanner.inList_iff {ch : Fin 16} : c.inList ch = true ↔ ∃ e ∈ c.scanList, e.channel = ch := by
  simp [Scanner.inList]

theorem Scanner.rawOf_of_unpublished {ch : Fin 16} (h : ∀ x ∈ c.published, x.channel ≠ ch) : c.rawOf ch = none := by
  simpa [Scanner.rawOf] using h

/-- The first published result of a channel is its raw result. -/
theorem Scanner.rawOf_of_first {ch : Fin 16} {before after : List Reading} {x : Reading}
    (hp : c.published = before ++ x :: after) (hb : ∀ y ∈ before, y.channel ≠ ch) (hx : x.channel = ch) :
    c.rawOf ch = some x.raw := by
  have hbefore : before.find? (fun y => y.channel == ch) = none := by simpa using hb
  simp [Scanner.rawOf, hp, List.find?_append, hbefore, hx]

variable {ch : Fin 16} (h : (c.roleMap.get r.index).channel = some ch)
include h

theorem Scanner.roleValue_of_unlisted (hl : ∀ e ∈ c.scanList, e.channel ≠ ch) : c.roleValue r = none := by
  have hin : ¬ c.inList ch = true := fun hi => by
    obtain ⟨e, he, hc⟩ := Scanner.inList_iff.1 hi
    exact hl e he hc
  simp [Scanner.roleValue, h, hin]

theorem Scanner.roleValue_of_listed (hl : ∃ e ∈ c.scanList, e.channel = ch) :
    c.roleValue r =
      (c.rawOf ch).map (engineering (c.roleMap.get r.index).offset (c.roleMap.get r.index).scale r.range) := by
  simp [Scanner.roleValue, h, Scanner.inList_iff.2 hl]

end

end Sys2Proof.Machine

open Sys2Proof Sys2Proof.Machine

/-- Settles O24: the calibration for a channel that is listed and published, and each of the cases without a value. -/
theorem roleValueIsCalibrated : Obligations.RoleValueIsCalibrated := by
  refine ⟨fun r => by cases r <;> rfl, fun c r => ⟨Scanner.roleValue_of_unassigned, fun ch h => ⟨?_, ?_, ?_⟩⟩⟩
  · exact Scanner.roleValue_of_unlisted h
  · intro hpub
    by_cases hl : ∃ e ∈ c.scanList, e.channel = ch
    · rw [Scanner.roleValue_of_listed h hl, Scanner.rawOf_of_unpublished hpub, Option.map_none]
    · exact Scanner.roleValue_of_unlisted h fun e he hc => hl ⟨e, he, hc⟩
  · intro before after x hl hp hb hx
    rw [Scanner.roleValue_of_listed h hl, Scanner.rawOf_of_first hp hb hx, Option.map_some]
    rfl
end

section
/-! The measurement scanner (03): what its events come to once their offers are taken. -/

namespace Sys2Proof.Machine

/-! ### Inner offers leave the scanner and the window monitor -/

theorem Offer.inner_of_scanner {o : Offer} (h : o.maker = none ∨ o.maker = some .scanner) : o.inner = true := by
  cases o
  case haltOutput | chainRestart | scannerHalted | scannerStart | scannerRestart | monitorRestart | pulseStart
      | pulseRestart | selectorStart | selectorRestart | selectorPath => obtain h | h := h <;> cases h
  all_goals rfl

theorem Offer.receiver_of_inner {o : Offer} (h : o.inner = true) :
    o.receiver ≠ some .scanner ∧ o.receiver ≠ some .monitor := by
  cases o
  case holderChanged d => cases d <;> exact ⟨nofun, nofun⟩
  case scannerHalted | scannerStart | scannerRestart | monitorRestart => cases h
  all_goals exact ⟨nofun, nofun⟩

/-- What the scanner offers is inner. -/
theorem Scanner.Runs.inner {c : Scanner} {e : Emit Scanner} (h : c.Runs e) : ∀ o ∈ e.out, o.inner = true :=
  fun o ho => Offer.inner_of_scanner (h.made o ho)

/-- Inner offers, answered with inner offers. -/
theorem closed_innerOnly : Closed (fun o => o.inner = true) (fun o => o.inner = true) fun _ => True where
  sub _ := id
  setOffers _ _ := id
  keeps _ _ _ := id
  made o s ho _ := by
    obtain ⟨out, he, hout⟩ := deliver_inner_out ho s
    exact ⟨out, he, fun x hx => (hout x hx).1⟩

theorem State.settle_scanner {s : State} (hw : ∀ x ∈ s.offers, x.inner = true) : s.settle.scanner = s.scanner :=
  ((closed_innerOnly.and (P := fun t => t.scanner = s.scanner) (fun _ _ => id) fun _ _ ho _ h =>
    (deliver_scanner (Offer.receiver_of_inner ho).1).trans h).settle ⟨trivial, rfl⟩ hw).1.2

/-! ### An event of the scanner -/

section
variable {s : State} {e : Emit Scanner}

theorem State.offers_withScanner (ho : s.offers = []) : (s.withScanner e).offers = e.out := by
  show s.offers ++ e.out = e.out
  rw [ho, List.nil_append]

/-- The scanner is what its event has made of it. -/
theorem State.settle_withScanner (ho : s.offers = []) (h : s.scanner.Runs e) : (s.withScanner e).settle.scanner = e.val :=
  State.settle_scanner (by rw [State.offers_withScanner ho]; exact h.inner)

theorem State.kept_withScanner (h : e.val.record = s.scanner.record) : Kept s (s.withScanner e).settle :=
  ((Kept.setScanner s e.val h).trans (Kept.emit _ _)).trans (State.settle_kept _)

theorem State.settle_withScanner_pure (ho : s.offers = []) (c : Scanner) :
    (s.withScanner (.pure c)).settle = s.setScanner c := by
  rw [State.withScanner_pure]
  exact State.settle_of_offers_nil _ ho

end

/-! ### What the scanner tells, and others do not -/

/-- Inner offers are answered with inner ones, none of which the scanner makes. -/
theorem deliver_inner_unscanned {o : Offer} (ho : o.inner = true) (s : State) :
    ∃ out, (deliver o s).offers = s.offers ++ out ∧ ∀ x ∈ out, x.inner = true ∧ x.maker ≠ some .scanner := by
  have minor : ∀ {x : Offer}, x.minor = true → x.maker ≠ some .scanner := fun {x} hx hm => by
    cases x
    case demand c n => cases c <;> cases hm
    case governorStale | sequencerStale | governorGrade | sequencerMeasures | waterTank => cases hx
    all_goals cases hm
  by_cases hr : o.receiver = some .modeController
  · cases o
    case modeImplements l r m =>
      refine ⟨_, rfl, ?_⟩
      show ∀ x ∈ (ModeController.stowTest _).out, _
      by_cases hs : ModeController.stowHolds { s.mc with armL := l, armR := r, main := m }
      · rw [ModeController.stowTest_of_holds hs, ModeController.enterMode_of_not_halted (m := .transport) _ nofun]
        simp [modeOffers, Offer.inner, Offer.maker]
      · rw [ModeController.stowTest_of_not_holds hs]
        exact List.forall_mem_nil _
    case haltOutput => cases ho
    case holderChanged d => cases d <;> cases hr
    all_goals cases hr
  · obtain ⟨out, he, hm⟩ := deliver_minor_of_receiver ho hr s
    exact ⟨out, he, fun x hx => ⟨Offer.inner_of_minor (hm x hx), minor (hm x hx)⟩⟩

/-- Inner offers of others than the scanner, and those of a list. -/
def UnscannedOr (l : List Offer) (o : Offer) : Prop := o.inner = true ∧ (o.maker ≠ some .scanner ∨ o ∈ l)

theorem closed_unscannedOr (l : List Offer) : Closed (UnscannedOr l) (UnscannedOr l) fun _ => True where
  sub _ := id
  setOffers _ _ := id
  keeps _ _ _ := id
  made o s ho _ := by
    obtain ⟨out, he, hout⟩ := deliver_inner_unscanned ho.1 s
    exact ⟨out, he, fun x hx => ⟨(hout x hx).1, .inl (hout x hx).2⟩⟩

/-- What one of the offers of an event of the scanner brings about, and neither the others nor what blocks besides the
scanner offer undo, holds at the end. -/
theorem State.settle_brings {P : State → Prop} (hs : ∀ t os, P t → P (t.setOffers os)) {s : State} {e : Emit Scanner}
    (ho : s.offers = []) (h : s.scanner.Runs e) (hn : e.out.length ≤ Config.offerBound)
    (hd : ∀ x t, x.maker ≠ some .scanner ∨ x ∈ e.out → P t → P (deliver x t)) {o : Offer} (hmem : o ∈ e.out)
    (hb : ∀ t, P (deliver o t)) : P (s.withScanner e).settle := by
  obtain ⟨pre, post, hsplit⟩ := List.append_of_mem hmem
  have hw : ∀ x ∈ pre ++ o :: post, UnscannedOr e.out x := fun x hx =>
    have hx := hsplit ▸ hx
    ⟨h.inner x hx, .inr hx⟩
  refine ((closed_unscannedOr e.out).arrives hs (fun x t hx _ => hd x t hx.2) (hw o (by simp)) (fun t _ => hb t) _ pre
    post (s.withScanner e) ((State.offers_withScanner ho).trans hsplit) trivial (fun x hx => hw x (by simp [hx]))
    fun x hx => hw x (by simp [hx])).resolve_right fun hr => ?_
  have hlen := congrArg List.length hsplit
  rw [List.length_append, List.length_cons] at hlen
  have := hr.2
  omega

/-! ### The stale flag at its receivers -/

/-- The stale flag as travel governor and implement sequencer hold it. -/
def Held.stale (h : Held) : Bool × Bool := (h.governor.stale, h.sequencer.stale)

theorem Held.stale_take {o : Offer} (ho : o.maker ≠ some .scanner) (h : Held) : (h.take o).stale = h.stale := by
  cases o
  case governorStale | sequencerStale => exact absurd rfl ho
  all_goals rfl

/-- Offers of which each says the same of the stale flag leave it told. -/
theorem State.settle_tells_stale {s : State} {e : Emit Scanner} (ho : s.offers = []) (h : s.scanner.Runs e)
    (hn : e.out.length ≤ Config.offerBound) {b : Bool} (hg : .governorStale b ∈ e.out) (hq : .sequencerStale b ∈ e.out)
    (hsame : .governorStale (!b) ∉ e.out ∧ .sequencerStale (!b) ∉ e.out) :
    (s.withScanner e).settle.governor.copies.stale = b ∧ (s.withScanner e).settle.sequencer.stale = b := by
  have same : ∀ {x : Bool}, x ≠ b → x = !b := fun {x} => by cases x <;> cases b <;> decide
  have goes : ∀ {f : Held → Bool}, (∀ (k : Held) (x : Offer), x.maker ≠ some .scanner ∨ x ∈ e.out → f k = b →
      f (k.take x) = b) → ∀ x t, x.maker ≠ some .scanner ∨ x ∈ e.out → f (State.held t) = b →
      f (State.held (deliver x t)) = b := fun hf x t hx hb => by
    rw [(deliver_takes x t).held]
    exact hf _ x hx hb
  constructor
  · refine State.settle_brings (P := fun t => t.held.governor.stale = b) (fun _ _ => id) ho h hn
      (goes (f := fun k => k.governor.stale) fun k x hx hk => ?_) hg fun t => ?_
    · obtain hx | hx := hx
      · exact (congrArg Prod.fst (k.stale_take hx)).trans hk
      · cases x
        case governorStale v =>
          by_contra hv
          exact hsame.1 (same hv ▸ hx)
        all_goals exact hk
    · rw [(deliver_takes _ t).held]
      rfl
  · refine State.settle_brings (P := fun t => t.held.sequencer.stale = b) (fun _ _ => id) ho h hn
      (goes (f := fun k => k.sequencer.stale) fun k x hx hk => ?_) hq fun t => ?_
    · obtain hx | hx := hx
      · exact (congrArg Prod.snd (k.stale_take hx)).trans hk
      · cases x
        case sequencerStale v =>
          by_contra hv
          exact hsame.2 (same hv ▸ hx)
        all_goals exact hk
    · rw [(deliver_takes _ t).held]
      rfl

end Sys2Proof.Machine
end

section
/-! The measurement scanner (03): period, stale timer, hold (R51, R59 to R62). -/

namespace Sys2Proof.Machine

/-! ### Period (03 R51) -/

section
variable {c : Scanner} {now e : Time}

theorem Scanner.periodExpiry_of_early
    (h : c.periodTimer = none ∨ c.periodTimer = some e ∧ reached now e = false) : c.periodExpiry now = c := by
  obtain h | ⟨h, hr⟩ := h
  · simp [Scanner.periodExpiry, h]
  · simp [Scanner.periodExpiry, h, hr]

theorem Scanner.periodExpiry_of_due (h : c.periodTimer = some e) (hr : reached now e = true) :
    c.periodExpiry now =
      if c.state = .waiting then
        { c with periodTimer := some (e + BitVec.ofNat 32 c.period), live := [], state := .converting }
      else { c with periodTimer := some (e + BitVec.ofNat 32 c.period) } := by
  simp only [Scanner.periodExpiry, h, hr, if_true]
  rfl

/-! ### The stale timer (03 R62) -/

theorem Scanner.staleExpiry_of_early
    (h : c.staleTimer = none ∨ c.staleTimer = some e ∧ reached now e = false) : c.staleExpiry now = .pure c := by
  obtain h | ⟨h, hr⟩ := h
  · simp [Scanner.staleExpiry, h, due]
  · simp [Scanner.staleExpiry, h, hr, due]

theorem Scanner.staleExpiry_of_due (h : c.staleTimer = some e) (hr : reached now e = true) :
    c.staleExpiry now =
      ⟨{ c with stale := true, staleTimer := none },
        .post .sensorStale 0 c.staleValue :: (if c.stale then [] else staleOffers true)⟩ := by
  simp [Scanner.staleExpiry, h, hr, due]

theorem Scanner.staleValue_eq (c : Scanner) :
    c.staleValue = if c.published = [] then -1 else (c.scanNumber.toNat : Int) := by
  simp [Scanner.staleValue]

/-! ### A kept set is published (03 R52, R53, R60, R61) -/

theorem Scanner.endHold_of_paused (h : c.state = .paused) (now : Time) :
    c.endHold now = Scanner.publish { c with hold := none } now := if_pos h

theorem Scanner.endHold_of_not_paused (h : c.state ≠ .paused) (now : Time) :
    c.endHold now = .pure { c with hold := none } := if_neg h

/-- What a publish tells of the stale flag. -/
theorem Scanner.fresh_mem_publish (h : c.stale = true) (now : Time) :
    .post .sensorFresh 0 (c.scanNumber + 1).toNat ∈ (c.publish now).out := by
  simp [Scanner.publish, h]

theorem Scanner.leaseExpiry_of_free (h : c.hold = none) (now : Time) : c.leaseExpiry now = .pure c := by
  simp [Scanner.leaseExpiry, h]

theorem Scanner.leaseExpiry_of_held {x : Hold} (h : c.hold = some x) (now : Time) :
    c.leaseExpiry now = if reached now x.expiry then c.endHold now else .pure c := by
  simp [Scanner.leaseExpiry, h]

end

/-- The hold of a paused scanner ends: the kept set is published. -/
theorem State.settle_endHold {s : State} (ho : s.offers = []) (h : s.scanner.state = .paused) :
    let t := (s.withScanner (s.scanner.endHold s.mc.time)).settle
    Kept s t ∧ t.scanner.hold = none ∧ t.scanner.published = s.scanner.live ∧
      t.scanner.scanNumber = s.scanner.scanNumber + 1 ∧ t.scanner.publishTime = s.scanner.passEnd ∧
      t.scanner.stale = false ∧ t.scanner.state = (if s.scanner.continuous then .waiting else .stopped) ∧
      ∃ (c : Scanner) (out : List Offer), t = ((s.setScanner c).emit out).settle ∧
        (s.scanner.stale = true → .post .sensorFresh 0 (s.scanner.scanNumber + 1).toNat ∈ out) := by
  intro t
  have hscan : t.scanner = (Scanner.publish { s.scanner with hold := none } s.mc.time).val := by
    rw [← Scanner.endHold_of_paused h]
    exact State.settle_withScanner ho (s.scanner.runs_endHold _)
  refine ⟨State.kept_withScanner (s.scanner.record_endHold _), ?_, ?_, ?_, ?_, ?_, ?_, _, _, rfl, fun hs => ?_⟩
  · rw [hscan]; rfl
  · rw [hscan]; rfl
  · rw [hscan]; rfl
  · rw [hscan]; rfl
  · rw [hscan]; rfl
  · rw [hscan]; rfl
  · rw [Scanner.endHold_of_paused h]
    exact Scanner.fresh_mem_publish (c := { s.scanner with hold := none }) hs _

end Sys2Proof.Machine

open Sys2Proof Sys2Proof.Machine

/-- Settles O25: each timer by whether it runs and has been reached; what the scanner then offers reaches the jobs and
leaves the scanner. -/
theorem scannerTimersExpire : Obligations.ScannerTimersExpire := by
  intro s e ho
  have lease : exec .holdLeaseExpiry s = .next (s.withScanner (s.scanner.leaseExpiry s.mc.time)).settle := rfl
  have stale : exec .staleTimerExpiry s = .next (s.withScanner (s.scanner.staleExpiry s.mc.time)).settle := rfl
  refine ⟨fun h => ?_, fun h hr => ?_, fun h => ?_, fun h hr => ?_, fun h => ?_, fun x hx => ⟨fun hr => ?_, fun hr hp => ?_,
    fun hr hp => ?_⟩⟩
  · exact congrArg (fun c => (.next (s.setScanner c) : Step)) (Scanner.periodExpiry_of_early h)
  · exact congrArg (fun c => (.next (s.setScanner c) : Step)) (Scanner.periodExpiry_of_due h hr)
  · rw [stale, Scanner.staleExpiry_of_early h, State.settle_withScanner_pure ho]
    rfl
  · have hruns := s.scanner.runs_staleExpiry s.mc.time
    have hkept := State.kept_withScanner (s.scanner.record_staleExpiry s.mc.time)
    rw [Scanner.staleExpiry_of_due h hr] at hruns hkept stale
    refine ⟨_, stale, hkept, State.settle_withScanner ho hruns, fun hs => ?_, _, rfl, ?_⟩
    · have hout : (if s.scanner.stale then [] else staleOffers true) = staleOffers true := by rw [hs]; rfl
      rw [hout] at hruns ⊢
      exact State.settle_tells_stale ho hruns (by simp [staleOffers, Config.offerBound]) (by simp [staleOffers])
        (by simp [staleOffers]) (by simp [staleOffers])
    · rw [Scanner.staleValue_eq]
      exact List.mem_cons_self
  · rw [lease, Scanner.leaseExpiry_of_free h, State.settle_withScanner_pure ho]
    rfl
  · rw [lease, Scanner.leaseExpiry_of_held hx, hr, if_neg Bool.false_ne_true, State.settle_withScanner_pure ho]
    rfl
  · rw [lease, Scanner.leaseExpiry_of_held hx, if_pos hr, Scanner.endHold_of_not_paused hp,
      State.settle_withScanner_pure ho]
  · refine ⟨_, ?_, State.settle_endHold ho hp⟩
    rw [lease, Scanner.leaseExpiry_of_held hx, if_pos hr]
end

section
/-! HOLD_SET and RELEASE_SET (03 R59, R60). -/

namespace Sys2Proof.Machine

section
variable {c : Scanner} {p : Port} {n ms : Nat} {now : Time}

theorem holdLease_eq_none (h : 1 ≤ n ∧ n ≤ 4 ∨ 101 ≤ n) : holdLease n = none := by
  rw [holdLease, if_neg (by omega), if_neg (by omega)]

theorem holdLease_eq_some (h : n = 0 ∧ ms = 20 ∨ 5 ≤ n ∧ n ≤ 100 ∧ ms = n) : holdLease n = some ms := by
  obtain ⟨rfl, rfl⟩ | ⟨h5, h100, rfl⟩ := h
  · rfl
  · rw [holdLease, if_neg (by omega), if_pos ⟨h5, h100⟩]

theorem Scanner.holdSet_of_badLease (h : holdLease n = none) : c.holdSet now p n = (.pure c, ⟨.badValue, []⟩) := by
  simp [Scanner.holdSet, h, Reply.no]

theorem Scanner.holdSet_of_granted (h : holdLease n = some ms)
    (hh : c.hold = none ∨ ∃ x, c.hold = some x ∧ x.holder = p) :
    c.holdSet now p n =
      (.pure { c with hold := some ⟨p, now + BitVec.ofNat 32 ms⟩ }, ⟨.ok, [c.scanNumber, byte ms]⟩) := by
  have hn : byte c.scanNumber.toNat = c.scanNumber := byte_toNat_self _
  obtain hh | ⟨x, hh, rfl⟩ := hh
  all_goals
    simp only [Scanner.holdSet, h, hh, hn, if_true]
    rfl

theorem Scanner.holdSet_of_other {x : Hold} (h : holdLease n = some ms) (hx : c.hold = some x) (hp : x.holder ≠ p) :
    c.holdSet now p n = (.pure c, ⟨.heldByOther, [byte (portNumber x.holder)]⟩) := by
  simp [Scanner.holdSet, h, hx, hp]

theorem Scanner.releaseSet_of_other (h : c.hold = none ∨ ∃ x, c.hold = some x ∧ x.holder ≠ p) :
    c.releaseSet now p = (.pure c, ⟨.notHolder, []⟩) := by
  obtain h | ⟨x, h, hp⟩ := h
  · simp [Scanner.releaseSet, h, Reply.no]
  · simp [Scanner.releaseSet, h, hp, Reply.no]

theorem Scanner.releaseSet_of_holder {x : Hold} (h : c.hold = some x) (hp : x.holder = p) :
    c.releaseSet now p = (c.endHold now, ⟨.ok, [(c.endHold now).val.scanNumber]⟩) := by
  have hn : byte (c.endHold now).val.scanNumber.toNat = (c.endHold now).val.scanNumber := byte_toNat_self _
  simp only [Scanner.releaseSet, h, hp, if_true, hn]
  rfl

end

/-- A request that the scanner alone answers, offering nothing. -/
theorem exec_of_scanner_pure (k : RequestKind) {i : Instr} {p : Port} {tag : Byte}
    (hi : i.request = some (p, k, tag)) {s : State} (h : s.hears p k) (ho : s.offers = []) {e : Emit Scanner × Reply}
    (hb : i.body s = (s.withScanner e.1).took e.2) {c : Scanner} {r : Reply} (he : e = (.pure c, r)) :
    exec i s = .next ((s.setScanner c).respond p (byte k.number) tag r) := by
  subst he
  exact exec_of_body k hi h (hb.trans (State.took_withScanner_pure ho c r))

end Sys2Proof.Machine

open Sys2Proof Sys2Proof.Machine

/-- Settles O26: HOLD_SET by lease and holder, RELEASE_SET by holder and by whether a set is kept. -/
theorem holdIsTakenAndReleased : Obligations.HoldIsTakenAndReleased := by
  intro p tag lease s ho
  refine ⟨fun h => ⟨fun hl => ?_, fun ms hl => ?_⟩, fun h => ⟨fun hx => ?_, fun x hx hp => ⟨fun hs => ?_, fun hs => ?_⟩⟩⟩
  · exact exec_of_scanner_pure .holdSet rfl h ho rfl (Scanner.holdSet_of_badLease (holdLease_eq_none hl))
  · have hms : holdLease lease.toNat = some ms := holdLease_eq_some (by
      obtain ⟨rfl, rfl⟩ | hl := hl
      · exact .inl ⟨rfl, rfl⟩
      · exact .inr hl)
    exact ⟨fun hx => exec_of_scanner_pure .holdSet rfl h ho rfl (Scanner.holdSet_of_granted hms hx),
      fun x hx hp => exec_of_scanner_pure .holdSet rfl h ho rfl (Scanner.holdSet_of_other hms hx hp)⟩
  · exact exec_of_scanner_pure .releaseSet rfl h ho rfl (Scanner.releaseSet_of_other hx)
  · refine exec_of_scanner_pure .releaseSet rfl h ho rfl ((Scanner.releaseSet_of_holder hx hp).trans ?_)
    rw [Scanner.endHold_of_not_paused hs]
    rfl
  · refine ⟨_, exec_of_body .releaseSet rfl h ?_, State.settle_endHold ho hs⟩
    show (s.withScanner (s.scanner.releaseSet s.mc.time p).1).took (s.scanner.releaseSet s.mc.time p).2 = _
    rw [Scanner.releaseSet_of_holder hx hp, Scanner.endHold_of_paused hs]
    rfl
end

section
/-! WRITE of SCAN_LIST and of SCAN_CONTROL, SINGLE (03 R49, R57, R58, R63). -/

namespace Sys2Proof.Machine

/-! ### The scan list after a WRITE (03 R49) -/

section
variable {l : List ScanEntry} {i : Nat} {w : ScanListWrite}

/-- Another entry than the addressed one has a channel. -/
theorem any_eraseIdx_iff {ch : Fin 16} :
    (l.eraseIdx i).any (fun e => e.channel == ch) = true ↔ ∃ j e, j ≠ i ∧ l[j]? = some e ∧ e.channel = ch := by
  simp only [List.any_eq_true, List.mem_eraseIdx_iff_getElem?, beq_iff_eq]
  constructor
  · rintro ⟨e, ⟨j, hj, he⟩, hc⟩
    exact ⟨j, e, hj, he, hc⟩
  · rintro ⟨j, e, hj, he, hc⟩
    exact ⟨e, ⟨j, hj, he⟩, hc⟩

theorem newScanList_eq_none
    (h : w.channel = none ∧ (i = 0 ∨ l.length ≤ i) ∨
      ∃ ch, w.channel = some ch ∧ ((∃ j e, j ≠ i ∧ l[j]? = some e ∧ e.channel = ch) ∨ l.length < i)) :
    newScanList l i w = none := by
  obtain ⟨hw, hi⟩ | ⟨ch, hw, hdup | hi⟩ := h
  · simp only [newScanList, hw]
    exact if_neg (by omega)
  · simp only [newScanList, hw]
    exact if_pos (any_eraseIdx_iff.2 hdup)
  · simp only [newScanList, hw]
    rw [if_neg (by omega : ¬ i < l.length), if_neg (by omega : ¬ (i = l.length ∧ i < 16))]
    exact ite_self _

theorem newScanList_eq_some {m : List ScanEntry} (hi : i < 16)
    (h : w.channel = none ∧ i ≠ 0 ∧ i < l.length ∧ m = l.take i ∨
      ∃ ch, w.channel = some ch ∧ (∀ j e, j ≠ i → l[j]? = some e → e.channel ≠ ch) ∧
        (i < l.length ∧ m = l.set i ⟨ch, w.sample⟩ ∨ i = l.length ∧ m = l ++ [⟨ch, w.sample⟩])) :
    newScanList l i w = some m := by
  obtain ⟨hw, h0, hlt, rfl⟩ | ⟨ch, hw, hfree, hm⟩ := h
  · simp only [newScanList, hw]
    exact if_pos (by omega)
  · have hdup : ¬ (l.eraseIdx i).any (fun e => e.channel == ch) = true := fun hd => by
      obtain ⟨j, e, hj, he, hc⟩ := any_eraseIdx_iff.1 hd
      exact hfree j e hj he hc
    simp only [newScanList, hw]
    obtain ⟨hlt, rfl⟩ | ⟨heq, rfl⟩ := hm
    · rw [if_neg hdup, if_pos hlt]
    · rw [if_neg hdup, if_neg (by omega), if_pos ⟨heq, hi⟩]

end

/-! ### The scanner at a WRITE -/

section
variable {c : Scanner} {m : Mode} {now : Time} {i : Nat} {w : ScanListWrite} {x : ScanControlWrite}

theorem Scanner.busy_iff : c.busy = true ↔ c.state = .converting ∨ c.state = .paused := by
  simp [Scanner.busy]

theorem Scanner.not_busy (h : c.state = .stopped ∨ c.state = .waiting) : c.busy = false := by
  obtain h | h := h <;> simp [Scanner.busy, h]

theorem Scanner.writeList_of_wrongMode (hm : m.configurable = false) :
    c.writeList m i w = (.pure c, ⟨.wrongMode, []⟩) := by
  simp [Scanner.writeList, hm, Reply.no]

theorem Scanner.writeList_of_busy (hm : m.configurable = true)
    (hb : c.state = .converting ∨ c.state = .paused ∨ c.hold.isSome = true) :
    c.writeList m i w = (.pure c, ⟨.busy, []⟩) := by
  have h : (c.busy || c.hold.isSome) = true := by
    rw [Bool.or_eq_true, Scanner.busy_iff, or_assoc]
    exact hb
  simp [Scanner.writeList, hm, h, Reply.no]

theorem Scanner.writeList_of_open (hm : m.configurable = true) (hs : c.state = .stopped ∨ c.state = .waiting)
    (hh : c.hold = none) :
    c.writeList m i w =
      match newScanList c.scanList i w with
      | none => (.pure c, ⟨.badValue, []⟩)
      | some l =>
        (Scanner.becomeStale { c with scanList := l, published := [], live := [], staleTimer := none },
          ⟨.ok, [byte l.length]⟩) := by
  simp only [Scanner.writeList, hm, Scanner.not_busy hs, hh]
  rfl

/-- What an event leaves that sets the flag, and what it posts. -/
theorem Scanner.becomeStale_val (c : Scanner) : c.becomeStale.val = { c with stale := true } := by
  unfold Scanner.becomeStale
  split
  next h => rw [← h]; rfl
  next => rfl

theorem Scanner.stale_mem_becomeStale (hs : c.stale = false) :
    .post .sensorStale 0 c.staleValue ∈ c.becomeStale.out := by
  simp [Scanner.becomeStale, hs]

theorem Scanner.writeControl_of_wrongMode (hm : m.configurable = false) :
    c.writeControl now m x = (.pure c, ⟨.wrongMode, []⟩) := by
  simp [Scanner.writeControl, hm, Reply.no]

theorem Scanner.writeControl_of_busy (hm : m.configurable = true) (hb : c.state = .converting ∨ c.state = .paused) :
    c.writeControl now m x = (.pure c, ⟨.busy, []⟩) := by
  simp [Scanner.writeControl, hm, Scanner.busy_iff.2 hb, Reply.no]

theorem Scanner.newPeriod_eq (c : Scanner) (now : Time) (n : Nat) :
    c.newPeriod now n =
      { c with
        period := n
        periodTimer :=
          if c.continuous = true ∧ n ≠ c.period then some (now + BitVec.ofNat 32 n) else c.periodTimer } := by
  unfold Scanner.newPeriod
  split
  next h => subst h; simp
  next h => simp [h, after]

/-- A new stale limit reaches the limit, the flag and the stale timer alone. -/
theorem Scanner.newStaleLimit_frame (c : Scanner) (now : Time) (n : Nat) :
    (c.newStaleLimit now n).val =
      { c with
        staleLimit := n
        stale := (c.newStaleLimit now n).val.stale
        staleTimer := (c.newStaleLimit now n).val.staleTimer } := by
  unfold Scanner.newStaleLimit
  dsimp only
  split
  · rfl
  · split
    · rw [Scanner.becomeStale_val]
    · rfl

theorem Scanner.newStaleLimit_of_empty (h : c.published = []) (n : Nat) :
    c.newStaleLimit now n = .pure { c with staleLimit := n } := by
  simp [Scanner.newStaleLimit, h]

theorem Scanner.newStaleLimit_of_older {n : Nat} (h : c.published ≠ []) (hn : n < (now - c.publishTime).toNat) :
    (c.newStaleLimit now n).val = { c with staleLimit := n, stale := true, staleTimer := none } := by
  have hlt : n < interval now c.publishTime := hn
  simp only [Scanner.newStaleLimit, List.isEmpty_iff, if_neg h, if_pos hlt]
  exact Scanner.becomeStale_val _

theorem Scanner.newStaleLimit_of_younger {n : Nat} (h : c.published ≠ []) (hn : (now - c.publishTime).toNat ≤ n) :
    c.newStaleLimit now n =
      .pure { c with staleLimit := n, staleTimer := some (c.publishTime + BitVec.ofNat 32 (n + 1)) } := by
  have hlt : ¬ n < interval now c.publishTime := Nat.not_lt.2 hn
  simp only [Scanner.newStaleLimit, List.isEmpty_iff, if_neg h, if_neg hlt]
  rfl

/-- The new limits of a WRITE of SCAN_CONTROL, before SINGLE. -/
def Scanner.newLimits (c : Scanner) (now : Time) (x : ScanControlWrite) : Emit Scanner :=
  (c.newPeriod now x.period).newStaleLimit now x.staleLimit

theorem Scanner.writeControl_of_open (hm : m.configurable = true) (hs : c.state = .stopped ∨ c.state = .waiting) :
    c.writeControl now m x =
      (⟨if x.single then (c.newLimits now x).val.beginPass else (c.newLimits now x).val, (c.newLimits now x).out⟩,
        ⟨.ok, []⟩) := by
  have hout : (c.newLimits now x).out ++ [] = (c.newLimits now x).out := List.append_nil _
  rw [← hout]
  simp only [Scanner.writeControl, hm, Scanner.not_busy hs]
  rfl

/-- The new limits reach neither the sets, nor the state, nor the hold. -/
theorem Scanner.newLimits_frame (c : Scanner) (now : Time) (x : ScanControlWrite) :
    (c.newLimits now x).val =
      { c with
        period := x.period
        staleLimit := x.staleLimit
        periodTimer :=
          if c.continuous = true ∧ x.period ≠ c.period then some (now + BitVec.ofNat 32 x.period) else c.periodTimer
        stale := (c.newLimits now x).val.stale
        staleTimer := (c.newLimits now x).val.staleTimer } := by
  unfold Scanner.newLimits
  rw [Scanner.newPeriod_eq]
  exact Scanner.newStaleLimit_frame _ _ _

/-- What new limits make of the stale flag and its timer (03 R62, R63; log 12). -/
theorem Scanner.newLimits_stale (c : Scanner) (now : Time) (x : ScanControlWrite) :
    (c.published = [] →
      (c.newLimits now x).val.stale = c.stale ∧ (c.newLimits now x).val.staleTimer = c.staleTimer) ∧
    (c.published ≠ [] → x.staleLimit < (now - c.publishTime).toNat →
      (c.newLimits now x).val.stale = true ∧ (c.newLimits now x).val.staleTimer = none) ∧
    (c.published ≠ [] → (now - c.publishTime).toNat ≤ x.staleLimit →
      (c.newLimits now x).val.stale = c.stale ∧
        (c.newLimits now x).val.staleTimer = some (c.publishTime + BitVec.ofNat 32 (x.staleLimit + 1))) := by
  unfold Scanner.newLimits
  rw [Scanner.newPeriod_eq]
  refine ⟨fun h => ?_, fun h hn => ?_, fun h hn => ?_⟩
  · rw [Scanner.newStaleLimit_of_empty (by exact h)]
    exact ⟨rfl, rfl⟩
  · rw [Scanner.newStaleLimit_of_older (by exact h) (by exact hn)]
    exact ⟨rfl, rfl⟩
  · rw [Scanner.newStaleLimit_of_younger (by exact h) (by exact hn)]
    exact ⟨rfl, rfl⟩

end

/-! ### The WRITE commands -/

/-- A block's event that changes the scanner's records of configuration. -/
theorem State.records_withScanner (s : State) (e : Emit Scanner) :
    (s.withScanner e).settle.standing = s.standing ∧
      (s.withScanner e).settle.configuration =
        { s.configuration with
          roleMap := e.val.roleMap, scanList := e.val.scanList, period := e.val.period
          staleLimit := e.val.staleLimit } := by
  obtain ⟨hconf, hstand⟩ := State.settle_kept (s.withScanner e)
  exact ⟨hstand, hconf⟩

theorem exec_writeScanList {p : Port} {tag i : Byte} {record : List Byte} {w : ScanListWrite} {s : State}
    (h : s.hears p .write) (hclass : (s.port p).authority = .operator ∨ (s.port p).authority = .service)
    (hlen : record.length = 2) (hi : i.toNat < 16) (hw : parseScanList record = some w) :
    exec (.writeScanList p tag i record) s =
      .next ((s.withScanner (s.scanner.writeList s.mc.mode i.toNat w).1).settle.respond p 0x14 tag
        (s.scanner.writeList s.mc.mode i.toNat w).2) := by
  refine exec_of_body .write rfl h ?_
  show s.writeTable p .scanList i.toNat record = _
  rw [State.writeTable_of_passed s p (t := .scanList) hlen hi (w := .scanList w) (by simp [parseRecord, hw])
    (by decide) (Table.writableBy_of_operator_or_service (by decide) (by simp) hclass)]
  rfl

/-- A record of SCAN_CONTROL that reaches its owner. -/
theorem writeBody_scanControl {p : Port} {record : List Byte} {x : ScanControlWrite} {s : State}
    (hclass : (s.port p).authority = .operator ∨ (s.port p).authority = .service) (hlen : record.length = 18)
    (hx : parseScanControl record = some x) :
    writeBody p .scanControl 0 record s =
      ((s.withScanner (s.scanner.writeControl s.mc.time s.mc.mode x).1).settle,
        (s.scanner.writeControl s.mc.time s.mc.mode x).2) := by
  show s.writeTable p .scanControl 0 record = _
  rw [State.writeTable_of_passed s p (t := .scanControl) hlen (by decide) (w := .scanControl x)
    (by simp [parseRecord, hx]) (by decide) (Table.writableBy_of_operator_or_service (by decide) (by simp) hclass)]
  rfl

/-- The record of a SINGLE is read as it was meant. -/
theorem parseScanControl_singleRecord {x : ScanControlWrite} (hp : 2 ≤ x.period ∧ x.period ≤ 100)
    (hl : 20 ≤ x.staleLimit ∧ x.staleLimit ≤ 500) (hs : x.single = true) :
    parseScanControl (singleRecord (byte x.period) (BitVec.ofNat 16 x.staleLimit)) = some x := by
  have hperiod : (byte x.period).toNat = x.period := byte_toNat (by omega)
  have hlimit : (BitVec.ofNat 16 x.staleLimit).toNat = x.staleLimit := Nat.mod_eq_of_lt (by omega)
  have hfield := field2_bytes2 (BitVec.ofNat 16 x.staleLimit) (1 :: List.replicate 14 0)
  exact parseScanControl_eq_some.2
    ⟨hperiod.symm, hp.1, hp.2, hlimit.symm.trans hfield.symm, hl.1, hl.2, by rw [hs]; rfl⟩

/-- Both commands that write SCAN_CONTROL. -/
theorem exec_writeScanControl {p : Port} {tag : Byte} {record : List Byte} {x : ScanControlWrite} {s : State} {c : Instr}
    (h : s.hears p .write) (hclass : (s.port p).authority = .operator ∨ (s.port p).authority = .service)
    (hc : record.length = 18 ∧ parseScanControl record = some x ∧ c = .writeScanControl p tag 0 record ∨
      2 ≤ x.period ∧ x.period ≤ 100 ∧ 20 ≤ x.staleLimit ∧ x.staleLimit ≤ 500 ∧ x.single = true ∧
        c = .single p tag (byte x.period) (BitVec.ofNat 16 x.staleLimit)) :
    exec c s =
      .next ((s.withScanner (s.scanner.writeControl s.mc.time s.mc.mode x).1).settle.respond p 0x14 tag
        (s.scanner.writeControl s.mc.time s.mc.mode x).2) := by
  obtain ⟨hlen, hx, rfl⟩ | ⟨h1, h2, h3, h4, hs, rfl⟩ := hc
  · exact exec_of_body .write rfl h (writeBody_scanControl hclass hlen hx)
  · exact exec_of_body .write rfl h
      (writeBody_scanControl hclass rfl (parseScanControl_singleRecord ⟨h1, h2⟩ ⟨h3, h4⟩ hs))

end Sys2Proof.Machine

open Sys2Proof Sys2Proof.Machine

/-- Settles O27: the refusals in their order, and what an accepted WRITE makes of the scanner, which the offers of the
stale flag leave alone. -/
theorem scanListAndControlAreWritten : Obligations.ScanListAndControlAreWritten := by
  constructor
  · intro p tag i record w s h hclass ho hlen hi hw
    rw [exec_writeScanList h hclass hlen hi hw]
    refine ⟨fun hm => ?_, fun hm => ⟨fun hb => ?_, fun hs hh => ⟨fun hbad => ?_, fun l hl => ?_⟩⟩⟩
    · rw [Scanner.writeList_of_wrongMode hm, State.settle_withScanner_pure ho]
      rfl
    · rw [Scanner.writeList_of_busy hm hb, State.settle_withScanner_pure ho]
      rfl
    · have hnone : newScanList s.scanner.scanList i.toNat w = none := newScanList_eq_none (by
        obtain ⟨hc, rfl | hn⟩ | hbad := hbad
        · exact .inl ⟨hc, .inl rfl⟩
        · exact .inl ⟨hc, .inr hn⟩
        · exact .inr hbad)
      rw [Scanner.writeList_of_open hm hs hh, hnone]
      dsimp only
      rw [State.settle_withScanner_pure ho]
      rfl
    · have hsome : newScanList s.scanner.scanList i.toNat w = some l := newScanList_eq_some hi (by
        obtain ⟨hc, hne, hn⟩ | hl := hl
        · exact .inl ⟨hc, fun h0 => hne (BitVec.eq_of_toNat_eq h0), hn⟩
        · exact .inr hl)
      have hruns := s.scanner.runs_writeList s.mc.mode i.toNat w
      rw [Scanner.writeList_of_open hm hs hh, hsome] at hruns ⊢
      have hscan := State.settle_withScanner ho hruns
      obtain ⟨hstand, hconf⟩ := s.records_withScanner
        (Scanner.becomeStale { s.scanner with scanList := l, published := [], live := [], staleTimer := none })
      have hval := Scanner.becomeStale_val
        { s.scanner with scanList := l, published := [], live := [], staleTimer := none }
      refine ⟨_, rfl, hstand, ?_, hscan.trans hval, _, by rw [hscan]; rfl, fun hstale => ?_⟩
      · rw [hconf, hval]
        rfl
      · exact Scanner.stale_mem_becomeStale
          (c := { s.scanner with scanList := l, published := [], live := [], staleTimer := none }) hstale
  · intro p tag record x s c h hclass ho hc
    rw [exec_writeScanControl h hclass hc]
    refine ⟨fun hm => ?_, fun hm hb => ?_, fun hm hs => ?_⟩
    · rw [Scanner.writeControl_of_wrongMode hm, State.settle_withScanner_pure ho]
      rfl
    · rw [Scanner.writeControl_of_busy hm hb, State.settle_withScanner_pure ho]
      rfl
    · have hruns := s.scanner.runs_writeControl s.mc.time s.mc.mode x
      rw [Scanner.writeControl_of_open hm hs] at hruns ⊢
      have hscan := State.settle_withScanner ho hruns
      obtain ⟨hstand, hconf⟩ := s.records_withScanner ⟨if x.single then (s.scanner.newLimits s.mc.time x).val.beginPass
        else (s.scanner.newLimits s.mc.time x).val, (s.scanner.newLimits s.mc.time x).out⟩
      have hframe := s.scanner.newLimits_frame s.mc.time x
      obtain ⟨hempty, holder, hyounger⟩ := s.scanner.newLimits_stale s.mc.time x
      refine ⟨_, rfl, hstand, ?_⟩
      rw [hconf, hscan]
      cases hx : x.single
      · rw [if_neg Bool.false_ne_true, hframe]
        exact ⟨rfl, rfl, hempty, holder, hyounger, rfl, rfl, nofun, fun _ => ⟨rfl, rfl⟩⟩
      · rw [if_pos rfl, hframe]
        exact ⟨rfl, rfl, hempty, holder, hyounger, rfl, rfl, fun _ => ⟨rfl, rfl⟩, nofun⟩
end

section
/-! The published values at the blocks that read them (03 R53): only a publish changes what they hold. -/

namespace Sys2Proof.Machine

/-! ### What the blocks hold of the published set -/

/-- The published values as travel governor, implement sequencer and water controller hold them. -/
structure Measures where
  grade : Option Int
  left  : Option Int × Option Int
  right : Option Int × Option Int
  tank  : Option Int

/-- The position and the pressure of an arm. -/
def ArmRecord.measured (a : ArmRecord) : Option Int × Option Int := (a.position, a.pressure)

/-- The positions and the pressures of both arms. -/
def Sequencer.measured (q : Sequencer) : (Option Int × Option Int) × (Option Int × Option Int) :=
  (q.left.measured, q.right.measured)

/-- The published values as the blocks hold them. -/
def State.measures (s : State) : Measures :=
  ⟨s.governor.copies.grade, s.sequencer.left.measured, s.sequencer.right.measured, s.water.copies.tankLevel⟩

/-- What taking an offer makes of the published values held. -/
def Measures.take (m : Measures) : Offer → Measures
  | .governorGrade g => { m with grade := g }
  | .sequencerMeasures posL posR pressL pressR => { m with left := (posL, pressL), right := (posR, pressR) }
  | .waterTank level => { m with tank := level }
  | _ => m

/-! ### The implement sequencer -/

theorem ArmRecord.Runs.measured {a : ArmRecord} {e : Emit ArmRecord} (h : a.Runs e) : e.val.measured = a.measured :=
  congrArg (fun x => (x.2.2.1, x.2.2.2.1)) h.still

theorem Sequencer.measured_finish (old q : Sequencer) (all : Bool) : (old.finish q all).val.measured = q.measured := by
  show q.drive.takeDemands.measured = _
  unfold Sequencer.drive
  split <;> rfl

theorem Sequencer.measured_react (old q : Sequencer) (t : Moment) : (old.react q t).val.measured = q.measured := by
  unfold Sequencer.react
  split
  · exact Prod.ext (old.runs_reactArm q .left t).measured (old.runs_reactArm q .right t).measured
  · rfl

theorem Sequencer.measured_event (old q : Sequencer) (t : Moment) : (old.event q t).val.measured = q.measured :=
  (old.measured_finish _ false).trans (old.measured_react q t)

theorem Sequencer.measured_newReaches (q : Sequencer) (t : Moment) (l r : Nat) (p : Sequencer) :
    (q.newReaches t l r p).measured = p.measured := by
  have arm : ∀ (a : ArmRecord) (n k : Nat), (if n = k then a else a.newReach t).measured = a.measured := by
    intro a n k
    split
    · rfl
    · exact congrArg (fun x => (x.2.2.1, x.2.2.2.1)) (a.newReach_kept t).1
  unfold Sequencer.newReaches
  split
  · exact Prod.ext (arm _ _ _) (arm _ _ _)
  · rfl

theorem Sequencer.measured_takeProfile (q : Sequencer) (t : Moment) (r : Profile) :
    (q.takeProfile t r).val.measured = q.measured :=
  ((q.measured_finish (q.newReaches t r.reachL r.reachR (q.react (q.profiled r) t).val) false).trans
    (q.measured_newReaches t _ _ _)).trans (q.measured_react (q.profiled r) t)

theorem Sequencer.measured_takeFailed (q : Sequencer) (t : Moment) (l r m : Bool) :
    (q.takeFailed t l r m).val.measured = q.measured :=
  (q.measured_finish _ false).trans
    (Prod.ext (q.left.runs_takeFailed .left t (q.mode == .service) l).measured
      (q.right.runs_takeFailed .right t (q.mode == .service) r).measured)

theorem Sequencer.measured_takeMode (q : Sequencer) (t : Moment) (m : Mode) :
    (q.takeMode t m).val.measured = q.measured := by
  unfold Sequencer.takeMode
  split
  · exact q.measured_event _ t
  · exact (q.measured_finish _ false).trans
      (Prod.ext (q.left.runs_halt .left t).measured (q.right.runs_halt .right t).measured)

theorem Sequencer.measured_start (q : Sequencer) (t : Moment) : (q.start t).val.measured = q.measured :=
  (q.measured_finish _ true).trans
    (Prod.ext (q.left.runs_start .left t).measured (q.right.runs_start .right t).measured)

theorem Sequencer.measured_restart (q : Sequencer) : q.restart.val.measured = q.measured :=
  q.measured_finish _ false

theorem Sequencer.measured_takeMeasures (q : Sequencer) (t : Moment) (a b c d : Option Int) :
    (q.takeMeasures t a b c d).val.measured = ((a, c), (b, d)) := by
  unfold Sequencer.takeMeasures
  dsimp only
  split
  · exact (q.measured_finish _ false).trans
      (Prod.ext (ArmRecord.runs_published _ .left t).measured (ArmRecord.runs_published _ .right t).measured)
  · exact q.measured_finish _ false

/-! ### An offer taken -/

section
variable {s : State}

theorem State.measures_withGovernor {e : Emit Governor} {c : TravelCopies} (h : e.val.copies = c) :
    (s.withGovernor e).measures = { s.measures with grade := c.grade } := by
  subst h; rfl

theorem State.measures_withSequencer {e : Emit Sequencer} {l r : Option Int × Option Int}
    (h : e.val.measured = (l, r)) : (s.withSequencer e).measures = { s.measures with left := l, right := r } := by
  obtain ⟨rfl, rfl⟩ := Prod.mk.inj h
  rfl

theorem State.measures_withWater {e : Emit Water} {c : WaterCopies} (h : e.val.copies = c) :
    (s.withWater e).measures = { s.measures with tank := c.tankLevel } := by
  subst h; rfl

end

theorem deliver_measures_governor {o : Offer} (s : State) (hr : o.receiver = some .governor) :
    (deliver o s).measures = s.measures.take o := by
  have go : ∀ {g : Governor} {e : Emit Governor} (_ : g.Runs e) {p} (_ : s.measures.take p =
      { s.measures with grade := g.copies.grade }), (s.withGovernor e).measures = s.measures.take p :=
    fun h _ hp => (State.measures_withGovernor h.copies).trans hp.symm
  cases o
  case governorMode m => exact (State.measures_withGovernor (s.governor.takeMode_told _ m).1).trans rfl
  case governorStart => exact go (s.governor.runs_start _) rfl
  case governorLimits | governorStale | governorGrade | governorStop | governorCap | governorCoefficients
      | governorGrant => exact go (s.governor.runs_takeCopies _ _) rfl
  case governorMotor => exact go (s.governor.runs_takeMotor _ _ _ _ _ _) rfl
  case governorGround => exact go (s.governor.runs_takeGround _ _ _ _) rfl
  case governorImplements => exact go (s.governor.runs_takeImplements _ _) rfl
  case holderChanged d =>
    cases d
    case travel => exact go (s.governor.runs_holderChanged _) rfl
    all_goals cases hr
  all_goals cases hr

theorem deliver_measures_sequencer {o : Offer} (s : State) (hr : o.receiver = some .sequencer) :
    (deliver o s).measures = s.measures.take o := by
  have se : ∀ {e : Emit Sequencer}, e.val.measured = s.sequencer.measured → (s.withSequencer e).measures = s.measures :=
    fun h => State.measures_withSequencer h
  cases o
  case sequencerMode => exact se (s.sequencer.measured_takeMode _ _)
  case sequencerStart => exact se (s.sequencer.measured_start _)
  case sequencerRestart => exact se s.sequencer.measured_restart
  case sequencerStale => rfl
  case sequencerMeasures => exact State.measures_withSequencer (s.sequencer.measured_takeMeasures _ _ _ _ _)
  case sequencerProfile => exact se (s.sequencer.measured_takeProfile _ _)
  case sequencerLiftFailed => exact se (s.sequencer.measured_takeFailed _ _ _ _)
  case sequencerLimits | sequencerLift | sequencerCoefficients | sequencerGrants | liftForReverse =>
    exact se (s.sequencer.measured_event _ _)
  case holderChanged d =>
    cases d
    case implements => exact se (s.sequencer.measured_event _ _)
    all_goals cases hr
  all_goals cases hr

theorem deliver_measures_water {o : Offer} (s : State) (hr : o.receiver = some .water) :
    (deliver o s).measures = s.measures.take o := by
  have wa : ∀ {w : Water} {e : Emit Water} (_ : w.Runs e) {p} (_ : s.measures.take p =
      { s.measures with tank := w.copies.tankLevel }), (s.withWater e).measures = s.measures.take p :=
    fun h _ hp => (State.measures_withWater h.copies).trans hp.symm
  cases o
  case waterMode | waterStart | waterRestart | waterPath | waterFailed => exact wa (s.water.runs_reevaluate _ _) rfl
  case waterTank l => exact wa (s.water.runs_takeTank _ l) rfl
  case waterGround x n => exact wa (s.water.runs_takeGround _ x n) rfl
  case waterCut | waterProfile | waterCoefficient | waterGrant | waterImplements =>
    exact wa (s.water.runs_takeCopies _ _) rfl
  case holderChanged d =>
    cases d
    case water => exact wa (s.water.runs_reevaluate _ _) rfl
    all_goals cases hr
  all_goals cases hr

/-- Every offer makes of the published values held what it says. -/
theorem deliver_measures (o : Offer) (s : State) : (deliver o s).measures = s.measures.take o := by
  by_cases hg : o.receiver = some .governor
  · exact deliver_measures_governor s hg
  by_cases hq : o.receiver = some .sequencer
  · exact deliver_measures_sequencer s hq
  by_cases hw : o.receiver = some .water
  · exact deliver_measures_water s hw
  have hsame : (deliver o s).measures = s.measures := by
    simp only [State.measures, deliver_governor hg, deliver_sequencer hq, deliver_water hw]
  rw [hsame]
  cases o
  case governorGrade => exact absurd rfl hg
  case sequencerMeasures => exact absurd rfl hq
  case waterTank => exact absurd rfl hw
  all_goals rfl

theorem Measures.take_of_unscanned {o : Offer} (h : o.maker ≠ some .scanner) (m : Measures) : m.take o = m := by
  cases o
  case governorGrade | sequencerMeasures | waterTank => exact absurd rfl h
  all_goals rfl

/-! ### A publish -/

/-- The offers of a publish: SENSOR_FRESH and the cleared flag if it was set, then the values. -/
theorem Scanner.publish_out (c : Scanner) (now : Time) :
    (c.publish now).out =
      (if c.stale then .post .sensorFresh 0 (c.scanNumber + 1).toNat :: staleOffers false else []) ++
        (c.publish now).val.measureOffers := rfl

theorem Scanner.length_publish (c : Scanner) (now : Time) : (c.publish now).out.length ≤ 6 := by
  rw [Scanner.publish_out]
  split <;> simp [staleOffers, Scanner.measureOffers]

/-- The values of a set as the blocks come to hold them. -/
def Scanner.measures (c : Scanner) : Measures :=
  ⟨c.roleValue .grade, (c.roleValue .armPosL, c.roleValue .armPressL), (c.roleValue .armPosR, c.roleValue .armPressR),
    c.roleValue .tankLevel⟩

theorem Measures.take_of_publish {c : Scanner} {now : Time} {o : Offer} (h : o ∈ (c.publish now).out) (m : Measures) :
    m.take o = m ∨ o ∈ (c.publish now).val.measureOffers := by
  rw [Scanner.publish_out] at h
  refine (List.mem_append.1 h).imp_left fun h => ?_
  split at h
  · simp only [staleOffers, List.mem_cons, List.not_mem_nil, or_false] at h
    obtain rfl | rfl | rfl := h
    all_goals rfl
  · cases h

section
variable {s : State} {c : Scanner} {now : Time} (ho : s.offers = []) (hr : s.scanner.Runs (c.publish now))

include ho hr

/-- A value that a publish offers is held at the end. -/
theorem State.settle_publish_brings {β : Type} {f : Measures → β} {v : β} {o : Offer}
    (hmem : o ∈ (c.publish now).val.measureOffers) (hb : ∀ m : Measures, f (m.take o) = v)
    (hk : ∀ x ∈ (c.publish now).val.measureOffers, ∀ m : Measures, f m = v → f (m.take x) = v) :
    f (s.withScanner (c.publish now)).settle.measures = v := by
  have hlen : (c.publish now).out.length ≤ Config.offerBound :=
    (c.length_publish now).trans (by simp [Config.offerBound])
  refine State.settle_brings (P := fun t => f t.measures = v) (fun _ _ => id) ho hr hlen (fun x t hx h => ?_) (o := o)
    (by rw [Scanner.publish_out]; exact List.mem_append_right _ hmem) fun t => ?_
  · rw [deliver_measures]
    obtain hx | hx := hx
    · rwa [Measures.take_of_unscanned hx]
    · obtain he | hx := Measures.take_of_publish hx t.measures
      · rwa [he]
      · exact hk x hx _ h
  · rw [deliver_measures]
    exact hb _

/-- The blocks hold the values of the set that has been published. -/
theorem State.settle_publish_measures :
    (s.withScanner (c.publish now)).settle.measures = (c.publish now).val.measures := by
  have hgrade := State.settle_publish_brings ho hr (f := Measures.grade) (v := (c.publish now).val.roleValue .grade)
    List.mem_cons_self (fun _ => rfl) (by simp [Scanner.measureOffers, Measures.take])
  have harms := State.settle_publish_brings ho hr (f := fun m => (m.left, m.right))
    (v := ((c.publish now).val.measures.left, (c.publish now).val.measures.right))
    (List.mem_cons_of_mem _ List.mem_cons_self) (fun _ => rfl)
    (by simp +contextual [Scanner.measureOffers, Measures.take, Scanner.measures])
  have htank := State.settle_publish_brings ho hr (f := Measures.tank) (v := (c.publish now).val.roleValue .tankLevel)
    (List.mem_cons_of_mem _ (List.mem_cons_of_mem _ List.mem_cons_self)) (fun _ => rfl)
    (by simp [Scanner.measureOffers, Measures.take])
  obtain ⟨hleft, hright⟩ := Prod.mk.inj harms
  exact congr (congr (congr (congrArg Measures.mk hgrade) hleft) hright) htank

/-- The cleared flag is held where it was set. -/
theorem State.settle_publish_stale (hs : c.stale = true) :
    (s.withScanner (c.publish now)).settle.governor.copies.stale = false ∧
      (s.withScanner (c.publish now)).settle.sequencer.stale = false := by
  have hlen : (c.publish now).out.length ≤ Config.offerBound :=
    (c.length_publish now).trans (by simp [Config.offerBound])
  refine State.settle_tells_stale ho hr hlen ?_ ?_ ⟨?_, ?_⟩
  all_goals
    rw [Scanner.publish_out, if_pos hs]
    simp [staleOffers, Scanner.measureOffers]

end

end Sys2Proof.Machine
end

section
/-! A conversion (03 R50): how the window monitor evaluates it (04 R68), and what the offers of a trip come to. -/

namespace Sys2Proof.Machine

/-! ### The evaluation (04 R68) -/

section
variable {m : Monitor} {now : Time} {ch : Fin 16} {raw : Nat}

theorem Sense.holds_iff {x : Sense} {w : Window} :
    x.holds w raw = true ↔
      x = .inside ∧ w.low < raw ∧ raw < w.high ∨ x = .outside ∧ (raw < w.low ∨ w.high < raw) := by
  cases x <;> simp [Sense.holds]

/-- The monitor with the latch of a channel set. -/
def Monitor.latch (m : Monitor) (now : Time) (ch : Fin 16) (raw : Nat) : Monitor :=
  { m with
    assignments :=
      setAt m.assignments ch { m.assignments.get ch with latched := true, tripRaw := raw, tripTime := now } }

theorem Monitor.evaluate_of_trips (h : m.trips ch raw) :
    m.evaluate now ch raw =
      ⟨(m.latch now ch raw).rederive.val, .post .windowTrip ch.val raw :: (m.latch now ch raw).rederive.out⟩ := by
  obtain ⟨hl, w, hw, hs⟩ := h
  have hcond :
      ((m.assignments.get ch).sense.holds (m.windows.get w) raw && !(m.assignments.get ch).latched) = true := by
    rw [Sense.holds_iff.2 hs, hl]
    rfl
  simp only [Monitor.evaluate, Monitor.latch, hw, hcond, if_true]

theorem Monitor.evaluate_of_not_trips (h : ¬ m.trips ch raw) : m.evaluate now ch raw = .pure m := by
  cases hw : (m.assignments.get ch).window with
  | none => simp [Monitor.evaluate, hw]
  | some w =>
    have hcond :
        ¬ ((m.assignments.get ch).sense.holds (m.windows.get w) raw && !(m.assignments.get ch).latched) = true :=
      fun hc => by
        simp only [Bool.and_eq_true, Bool.not_eq_true', Sense.holds_iff] at hc
        exact h ⟨hc.2, w, hw, hc.1⟩
    simp only [Monitor.evaluate, hw, hcond]
    rfl

theorem Monitor.get_latch (m : Monitor) (now : Time) (ch i : Fin 16) (raw : Nat) :
    (m.latch now ch raw).assignments.get i =
      if i = ch then { m.assignments.get ch with latched := true, tripRaw := raw, tripTime := now }
      else m.assignments.get i :=
  get_setAt _ _ _ _

end

/-! ### The offers of a trip -/

/-- The changed outputs but for HALT. -/
def Monitor.cuts (m : Monitor) : List Offer :=
  offerIf (m.derive.derate != m.outputs.derate) (.budgetDerate m.derive.derate) ++
    offerIf (m.derive.cutWater != m.outputs.cutWater) (.waterCut m.derive.cutWater) ++
    offerIf (m.derive.liftArms != m.outputs.liftArms) (.sequencerLift m.derive.liftArms) ++
    offerIf (m.derive.stopTravel != m.outputs.stopTravel) (.governorStop m.derive.stopTravel)

theorem Monitor.rederive_out (m : Monitor) :
    m.rederive.out = m.cuts ++ offerIf (m.derive.halt != m.outputs.halt) (.haltOutput m.derive.halt) := rfl

/-- A notice, or an output of the window monitor other than HALT. -/
def Offer.trip : Offer → Bool
  | .post .. | .budgetDerate _ | .waterCut _ | .sequencerLift _ | .governorStop _ => true
  | _ => false

theorem Monitor.trip_of_mem_cuts {m : Monitor} {o : Offer} (h : o ∈ m.cuts) : o.trip = true := by
  simp only [Monitor.cuts, List.mem_append, mem_offerIf] at h
  obtain ((⟨-, rfl⟩ | ⟨-, rfl⟩) | ⟨-, rfl⟩) | ⟨-, rfl⟩ := h
  all_goals rfl

theorem length_offerIf_le (c : Bool) (o : Offer) : (offerIf c o).length ≤ 1 := by
  cases c <;> simp [offerIf]

theorem length_append_le {l m : List Offer} {a b : Nat} (hl : l.length ≤ a) (hm : m.length ≤ b) :
    (l ++ m).length ≤ a + b := by
  rw [List.length_append]
  exact Nat.add_le_add hl hm

theorem Monitor.length_cuts (m : Monitor) : m.cuts.length ≤ 4 :=
  have one := length_offerIf_le
  length_append_le (length_append_le (length_append_le (one _ _) (one _ _)) (one _ _)) (one _ _)

theorem Offer.inner_of_trip {o : Offer} (h : o.trip = true) : o.inner = true := by
  cases o
  case post | budgetDerate | waterCut | sequencerLift | governorStop => rfl
  all_goals cases h

/-! ### How many offers a trip leads to -/

theorem BudgetRows.length_walk (k : Coefficients) (now : Time) (cs : List Consumer) (p : Nat) (rows : BudgetRows) :
    (BudgetRows.walk k now cs p rows).out.length ≤ cs.length := by
  induction cs generalizing p rows with
  | nil => exact Nat.zero_le _
  | cons c cs ih =>
    have hnotice : ∀ a b : BudgetRow, (rowNotice c a b).length ≤ 1 := fun a b => by
      unfold rowNotice
      split <;> simp
    have h1 := hnotice (rows.get c) ((rows.get c).decide k now p)
    have h2 := ih (p - ((rows.get c).decide k now p).grant) (rows.set c ((rows.get c).decide k now p))
    simp only [BudgetRows.walk, List.length_append, List.length_cons]
    omega

theorem Budget.length_rederive (b : Budget) (now : Time) : (b.rederive now).out.length ≤ 8 := by
  have one := length_offerIf_le
  unfold Budget.rederive Budget.recompute Budget.recomputeFrom
  dsimp only
  split
  · exact Nat.zero_le _
  · have hrows := (BudgetRows.length_walk b.coefficients now b.rows.order (b.reserve - b.derate) b.rows).trans
      (List.length_filterMap_le _ _)
    exact length_append_le (b := 1 + 1 + 1) hrows (length_append_le (length_append_le (one _ _) (one _ _)) (one _ _))

theorem Water.length_reevaluate (old w : Water) (now : Time) : (old.reevaluate w now).out.length ≤ 2 := by
  rw [Water.reevaluate, Water.finish]
  exact length_append_le (length_offerIf_le _ _) (length_offerIf_le _ _)

section
variable (a : ArmRecord) (x : Side) (t : Moment)

theorem ArmRecord.length_closing (o : MotionOutcome) (c : Option AbortCause) (f : ArmRecord → ArmRecord) :
    ((a.closeMotion x t o c).andThen fun b => .pure (f b)).out.length ≤ 1 := by
  unfold ArmRecord.closeMotion
  split <;> simp [Emit.andThen, Emit.pure]

theorem ArmRecord.length_gainCause (c : AbortCause) : (a.gainCause x t c).out.length ≤ 1 := by
  unfold ArmRecord.gainCause
  cases a.state
  case swingingOut | retryWait | yielding => exact a.length_closing x t _ _ _
  all_goals exact Nat.zero_le _

theorem ArmRecord.length_becomeIn : (a.becomeIn x t).out.length ≤ 1 := by
  unfold ArmRecord.becomeIn
  dsimp only
  cases a.state
  case swingingOut | yielding => exact ArmRecord.length_closing _ x t _ _ _
  case retryWait =>
    dsimp only
    split
    · exact Nat.zero_le _
    · exact ArmRecord.length_closing _ x t _ _ _
  all_goals exact Nat.zero_le _

theorem ArmRecord.length_becomeOut (cause : Bool) : (a.becomeOut x t cause).out.length ≤ 1 := by
  unfold ArmRecord.becomeOut
  dsimp only
  cases a.state
  case swingingIn => exact ArmRecord.length_closing _ x t _ _ _
  case retryWait =>
    dsimp only
    split
    · exact ArmRecord.length_closing _ x t _ _ _
    · exact Nat.zero_le _
  all_goals exact Nat.zero_le _

end

theorem Sequencer.length_reactArm (old q : Sequencer) (x : Side) (t : Moment) :
    (old.reactArm q x t).out.length ≤ 1 := by
  unfold Sequencer.reactArm
  rw [Emit.andThen_out, Emit.pure_out, List.append_nil]
  split
  · exact ArmRecord.length_becomeIn _ x t
  · exact ArmRecord.length_becomeOut _ x t _
  · split
    · exact ArmRecord.length_gainCause _ x t _
    · exact Nat.zero_le _
  · exact Nat.zero_le _

theorem Sequencer.length_finish (old q : Sequencer) (all : Bool) : (old.finish q all).out.length ≤ 7 := by
  have one := length_offerIf_le
  have hstates : (old.stateOffers q.drive.takeDemands all).length ≤ 1 + 1 + 1 + 1 :=
    length_append_le (length_append_le (length_append_le (one _ _) (one _ _)) (one _ _)) (one _ _)
  have hdemands : (old.demandOffers q.drive.takeDemands).length ≤ 1 + 1 + 1 :=
    length_append_le (length_append_le (one _ _) (one _ _)) (one _ _)
  exact length_append_le hstates hdemands

theorem Sequencer.length_event (old q : Sequencer) (t : Moment) : (old.event q t).out.length ≤ 9 := by
  have hreact : (old.react q t).out.length ≤ 2 := by
    unfold Sequencer.react
    split
    · have hl := old.length_reactArm q .left t
      have hr := old.length_reactArm q .right t
      simp only [Emit.andThen_out, Emit.pure_out, List.append_nil]
      exact length_append_le hl hr
    · exact Nat.zero_le _
  exact length_append_le hreact (old.length_finish (old.react q t).val false)

/-- An offer of a trip is answered with few offers. -/
theorem length_deliver_trip {o : Offer} (h : o.trip = true) (s : State) :
    (deliver o s).offers.length ≤ s.offers.length + 9 := by
  have emitted : ∀ {a b : List Offer}, b.length ≤ 9 → (a ++ b).length ≤ a.length + 9 := length_append_le le_rfl
  cases o
  case post => exact Nat.le_add_right _ _
  case budgetDerate n =>
    exact emitted ((Budget.length_rederive { s.budget with derate := n } s.mc.time).trans (by decide))
  case waterCut b => exact emitted ((Water.length_reevaluate s.water _ s.mc.time).trans (by decide))
  case sequencerLift b => exact emitted (s.sequencer.length_event { s.sequencer with liftArms := b } s.moment)
  case governorStop b => exact emitted ((length_offerIf_le _ _).trans (by decide))
  all_goals cases h

end Sys2Proof.Machine
end

section
/-! The offers of a conversion on their way (03 R50, R55; 04 R73): HALT outside HALTED stops the scanner, and nothing
else that a conversion brings about changes it. -/

namespace Sys2Proof.Machine

/-- Once the first offers are taken, no more wait than the others and a few answers to each. -/
theorem length_settleN_le {k : Nat} (xs ys : List Offer) (s : State) (he : s.offers = xs ++ ys)
    (hx : ∀ x ∈ xs, ∀ t, (deliver x t).offers.length ≤ t.offers.length + k) :
    (settleN xs.length s).offers.length ≤ ys.length + k * xs.length := by
  induction xs generalizing s ys with
  | nil => simp [settleN, he]
  | cons x xs ih =>
    rw [List.length_cons, settleN_succ _ s x (xs ++ ys) he]
    obtain ⟨out, hout⟩ := deliver_appends x (s.setOffers (xs ++ ys))
    have hone := hx x List.mem_cons_self (s.setOffers (xs ++ ys))
    have hrest := ih (ys ++ out) _ (by rw [hout]; simp) fun y hy => hx y (List.mem_cons_of_mem _ hy)
    simp only [hout, State.setOffers_offers, List.length_append] at hone hrest
    rw [Nat.mul_succ]
    omega

/-! ### Inner offers and HALTED -/

/-- Inner offers neither enter HALTED nor leave it. -/
theorem deliver_inner_halted {o : Offer} (ho : o.inner = true) (s : State) :
    (deliver o s).mc.mode = .halted ↔ s.mc.mode = .halted := by
  by_cases hr : o.receiver = some .modeController
  · cases o
    case modeImplements l r m =>
      show (ModeController.stowTest _).val.mode = .halted ↔ _
      by_cases hs : ModeController.stowHolds { s.mc with armL := l, armR := r, main := m }
      · rw [ModeController.stowTest_of_holds hs, show s.mc.mode = .stowing from hs.1]
        exact ⟨nofun, nofun⟩
      · rw [ModeController.stowTest_of_not_holds hs]
        rfl
    case haltOutput => cases ho
    case holderChanged d => cases d <;> cases hr
    all_goals cases hr
  · rw [deliver_mc hr]

/-- Outside HALTED inner offers leave the machine there, and leave the scanner. -/
theorem closed_unhalted (c : Scanner) :
    Closed (fun o => o.inner = true) (fun o => o.inner = true) fun t =>
      True ∧ t.mc.mode ≠ .halted ∧ t.scanner = c :=
  closed_innerOnly.and (fun _ _ => id) fun _ s ho _ h =>
    ⟨fun hm => h.1 ((deliver_inner_halted ho s).1 hm), (deliver_scanner (Offer.receiver_of_inner ho).1).trans h.2⟩

/-! ### HALT without effect -/

/-- Inner offers, and HALT: its becoming active under a condition only. -/
def Offer.HaltsOnlyIf (H : Prop) (o : Offer) : Prop := o.inner = true ∨ ∃ b, o = .haltOutput b ∧ (b = true → H)

/-- HALT that becomes active in HALTED only leaves scanner and window monitor. -/
theorem closed_haltsOnlyIf (H : Prop) (c : Scanner) (m : Monitor) :
    Closed (Offer.HaltsOnlyIf H) (Offer.HaltsOnlyIf H) fun t =>
      (H → t.mc.mode = .halted) ∧ t.scanner = c ∧ t.monitor = m where
  sub _ := id
  setOffers _ _ := id
  keeps o s ho h := by
    obtain ⟨hm, hc, hmon⟩ := h
    obtain hi | ⟨b, rfl, hb⟩ := ho
    · obtain ⟨hs, hw⟩ := Offer.receiver_of_inner hi
      exact ⟨fun hh => (deliver_inner_halted hi s).2 (hm hh), (deliver_scanner hs).trans hc,
        (deliver_monitor hw).trans hmon⟩
    · refine ⟨fun hh => ?_, hc, hmon⟩
      show (s.mc.takeHalt b).val.mode = _
      rw [ModeController.takeHalt_of_inactive (.inr (hm hh))]
      exact hm hh
  made o s ho h := by
    obtain hi | ⟨b, rfl, hb⟩ := ho
    · obtain ⟨out, he, hout⟩ := deliver_inner_out hi s
      exact ⟨out, he, fun x hx => .inl (hout x hx).1⟩
    · refine ⟨_, rfl, ?_⟩
      have hidle : b = false ∨ s.mc.mode = .halted := by
        cases b
        · exact .inl rfl
        · exact .inr (h.1 (hb rfl))
      rw [ModeController.takeHalt_of_inactive hidle]
      exact List.forall_mem_nil _

/-! ### HALT as it may be -/

/-- Inner offers, HALT, and what it brings the scanner. -/
def Offer.halting (o : Offer) : Prop := o.inner = true ∨ (∃ b, o = .haltOutput b) ∨ o = .scannerHalted

theorem Offer.halting_of_modeOffers {m : Mode} {k : Cause} :
    ∀ o ∈ Offer.scannerHalted :: modeOffers m k, o.halting := by
  rintro o (_ | ⟨_, ho⟩)
  · exact .inr (.inr rfl)
  · exact .inl (Offer.inner_of_mem_modeOffers o ho)

theorem ModeController.takeHalt_out {c : ModeController} (h : c.mode ≠ .halted) :
    (c.takeHalt true).out = .scannerHalted :: modeOffers .halted .haltTrip := by
  rw [ModeController.takeHalt_of_active h]
  rfl

/-- HALT leaves the window monitor. -/
theorem closed_halting (m : Monitor) : Closed Offer.halting Offer.halting fun t => t.monitor = m where
  sub _ := id
  setOffers _ _ := id
  keeps o s ho h := by
    obtain hi | ⟨b, rfl⟩ | rfl := ho
    · exact (deliver_monitor (Offer.receiver_of_inner hi).2).trans h
    · exact h
    · exact h
  made o s ho h := by
    obtain hi | ⟨b, rfl⟩ | rfl := ho
    · obtain ⟨out, he, hout⟩ := deliver_inner_out hi s
      exact ⟨out, he, fun x hx => .inl (hout x hx).1⟩
    · refine ⟨_, rfl, ?_⟩
      by_cases hb : b = false ∨ s.mc.mode = .halted
      · rw [ModeController.takeHalt_of_inactive hb]
        exact List.forall_mem_nil _
      · obtain ⟨hb, hm⟩ := not_or.1 hb
        rw [Bool.eq_true_of_not_eq_false hb, ModeController.takeHalt_out hm]
        exact Offer.halting_of_modeOffers
    · exact ⟨[], (List.append_nil _).symm, List.forall_mem_nil _⟩

/-! ### HALT outside HALTED -/

/-- Inner offers, and HALTED for the scanner. -/
def Offer.stops (o : Offer) : Prop := o.inner = true ∨ o = .scannerHalted

/-- The scanner has perhaps been stopped. -/
theorem closed_stops (c : Scanner) :
    Closed Offer.stops (fun o => o.inner = true) fun t => t.scanner.halted = c.halted where
  sub _ := .inl
  setOffers _ _ := id
  keeps o s ho h := by
    obtain hi | rfl := ho
    · rw [deliver_scanner (Offer.receiver_of_inner hi).1]
      exact h
    · exact h
  made o s ho h := by
    obtain hi | rfl := ho
    · obtain ⟨out, he, hout⟩ := deliver_inner_out hi s
      exact ⟨out, he, fun x hx => (hout x hx).1⟩
    · exact ⟨[], (List.append_nil _).symm, List.forall_mem_nil _⟩

/-- HALT becomes active outside HALTED, behind a few offers of a trip: the scanner stops. -/
theorem State.settle_haltOutput {s : State} {pre : List Offer} (he : s.offers = pre ++ [.haltOutput true])
    (hpre : ∀ o ∈ pre, o.trip = true) (hlen : pre.length ≤ 5) (hm : s.mc.mode ≠ .halted) :
    s.settle.scanner = s.scanner.halted := by
  obtain ⟨⟨-, hmode, hscan⟩, out, hout, hinner⟩ := (closed_unhalted s.scanner).settleN_leading pre [.haltOutput true] s
    he ⟨trivial, hm, rfl⟩ fun o ho => Offer.inner_of_trip (hpre o ho)
  have hfew := length_settleN_le pre [.haltOutput true] s he fun o ho => length_deliver_trip (hpre o ho)
  rw [hout] at hfew
  simp only [List.length_append, List.length_cons, List.length_nil] at hfew
  obtain ⟨n, hn⟩ : ∃ n, Config.offerBound = pre.length + (n + 1) := ⟨Config.offerBound - pre.length - 1, by
    simp only [Config.offerBound]
    omega⟩
  have hsettle : s.settle =
      settleN n (deliver (.haltOutput true) ((settleN pre.length s).setOffers out)) := by
    rw [← settleN_succ n _ (.haltOutput true) out hout, ← settleN_add, ← hn]
    rfl
  rw [hsettle]
  refine ((closed_stops s.scanner).arrives (P := fun t => t.scanner = s.scanner.halted) (fun _ _ => id)
    (fun x t hx _ h => (deliver_scanner (Offer.receiver_of_inner hx).1).trans h) (.inr rfl) (fun t h => h) n out
    (modeOffers .halted .haltTrip) (deliver (.haltOutput true) ((settleN pre.length s).setOffers out)) ?_
    (congrArg Scanner.halted hscan) (fun x hx => .inl (hinner x hx))
    Offer.inner_of_mem_modeOffers).resolve_right fun h => ?_
  · show out ++ ((settleN pre.length s).mc.takeHalt true).out = _
    rw [ModeController.takeHalt_out hmode]
  · have := h.2
    simp only [Config.offerBound] at hn
    omega

end Sys2Proof.Machine
end

section
/-! A conversion (03 R50): its evaluation, and the end of the pass after the last one (R52). -/

namespace Sys2Proof.Machine

/-! ### What the evaluation offers -/

section
variable {m : Monitor} {now : Time} {ch : Fin 16} {raw : Nat}

theorem Monitor.evaluate_get_of_trips (h : m.trips ch raw) (i : Fin 16) :
    (m.evaluate now ch raw).val.assignments.get i =
      if i = ch then { m.assignments.get ch with latched := true, tripRaw := raw, tripTime := now }
      else m.assignments.get i := by
  rw [Monitor.evaluate_of_trips h]
  exact m.get_latch now ch i raw

theorem Monitor.outputs_evaluate_of_trips (h : m.trips ch raw) :
    (m.evaluate now ch raw).val.outputs = (m.evaluate now ch raw).val.derive := by
  rw [Monitor.evaluate_of_trips h]
  rfl

theorem Monitor.windowTrip_mem_evaluate (h : m.trips ch raw) :
    .post .windowTrip ch.val raw ∈ (m.evaluate now ch raw).out := by
  rw [Monitor.evaluate_of_trips h]
  exact List.mem_cons_self

/-- What a trip offers: WINDOW_TRIP and the changed outputs but for HALT, then HALT if it has changed. -/
theorem Monitor.evaluate_out (h : m.trips ch raw) :
    ∃ pre, (m.evaluate now ch raw).out =
        pre ++ offerIf ((m.evaluate now ch raw).val.outputs.halt != m.outputs.halt)
          (.haltOutput (m.evaluate now ch raw).val.outputs.halt) ∧
      (∀ o ∈ pre, o.trip = true) ∧ pre.length ≤ 5 := by
  rw [Monitor.evaluate_of_trips h]
  refine ⟨.post .windowTrip ch.val raw :: (m.latch now ch raw).cuts, rfl, List.forall_mem_cons.2 ⟨rfl, fun o =>
    Monitor.trip_of_mem_cuts⟩, Nat.succ_le_succ (Monitor.length_cuts _)⟩

/-- HALT becomes active with a trip only. -/
theorem Monitor.haltsOnlyIf_of_mem_evaluate {H : Prop}
    (h : ¬ m.trips ch raw ∨ (m.evaluate now ch raw).val.outputs.halt = false ∨ m.outputs.halt = true ∨ H) :
    ∀ o ∈ (m.evaluate now ch raw).out, o.HaltsOnlyIf H := by
  intro o ho
  by_cases ht : m.trips ch raw
  · obtain ⟨pre, hout, hpre, -⟩ := Monitor.evaluate_out (now := now) ht
    rw [hout, List.mem_append, mem_offerIf] at ho
    obtain ho | ⟨hne, rfl⟩ := ho
    · exact .inl (Offer.inner_of_trip (hpre o ho))
    · refine .inr ⟨_, rfl, fun hb => ?_⟩
      obtain hn | hf | hon | hH := h
      · exact absurd ht hn
      · simp [hb] at hf
      · simp [hb, hon] at hne
      · exact hH
  · rw [Monitor.evaluate_of_not_trips ht] at ho
    cases ho

theorem Monitor.halting_of_mem_evaluate : ∀ o ∈ (m.evaluate now ch raw).out, o.halting := fun o ho =>
  (Monitor.haltsOnlyIf_of_mem_evaluate (H := True) (.inr (.inr (.inr trivial))) o ho).imp_right fun ⟨b, hb, _⟩ =>
    .inl ⟨b, hb⟩

end

/-! ### The end of a pass (03 R52) -/

section
variable {c : Scanner} {now : Time}

theorem Scanner.passEnds_of_held {h : Hold} (hh : c.hold = some h) :
    c.passEnds now =
      ⟨{ c with passEnd := now, state := .paused },
        [.post .scanPaused (portNumber h.holder) (c.scanNumber + 1).toNat]⟩ := by
  simp [Scanner.passEnds, hh]

theorem Scanner.passEnds_of_free (hh : c.hold = none) :
    c.passEnds now = Scanner.publish { c with passEnd := now } now := by
  simp [Scanner.passEnds, hh]

theorem reached_after_of_lt {n : Nat} (h0 : 0 < n) (h : n ≤ 2 ^ 31) : reached now (after now n) = false := by
  have hback : interval now (after now n) = 2 ^ 32 - n := by
    rw [interval, after, BitVec.toNat_sub, BitVec.toNat_add, BitVec.toNat_ofNat]
    omega
  rw [reached, hback]
  exact decide_eq_false (by omega)

theorem Scanner.passEnds_store_of_held {h : Hold} (hh : c.hold = some h) (ch : Fin 16) (raw : Nat) :
    ((c.store ch raw).passEnds now).val = c.passKept ⟨ch, raw⟩ now := by
  rw [Scanner.passEnds_of_held (c := c.store ch raw) hh]
  rfl

/-- A stale limit within its range puts the stale moment after the present. -/
theorem Scanner.passEnds_store_of_free (hh : c.hold = none) (hl : c.staleLimit ≤ 500) (ch : Fin 16) (raw : Nat) :
    ((c.store ch raw).passEnds now).val = c.passPublished ⟨ch, raw⟩ now := by
  have hearly : reached now (Scanner.staleMoment now c.staleLimit) = false :=
    reached_after_of_lt (Nat.succ_pos _) (by omega)
  rw [Scanner.passEnds_of_free (c := c.store ch raw) hh]
  simp only [Scanner.publish, Scanner.store, hearly]
  rfl

/-- SENSOR_FRESH comes only with a flag that was set. -/
theorem Scanner.fresh_notMem_publish (h : c.stale = false) (n : Nat) (v : Int) :
    .post .sensorFresh n v ∉ (c.publish now).out := by
  rw [Scanner.publish_out, h]
  simp [Scanner.measureOffers]

theorem Scanner.passComplete_iff :
    c.passComplete = true ↔ c.state = .converting ∧ c.scanList.length ≤ c.live.length := by
  simp [Scanner.passComplete]

theorem Scanner.complete_store {ch : Fin 16} {raw : Nat} (hs : c.state = .converting)
    (hl : c.live.length + 1 = c.scanList.length) : (c.store ch raw).passComplete = true :=
  Scanner.passComplete_iff.2 ⟨hs, by simp [Scanner.store, hl]⟩

theorem Scanner.incomplete_store {ch : Fin 16} {raw : Nat} (hl : c.live.length + 1 < c.scanList.length) :
    ¬ (c.store ch raw).passComplete = true := by
  rw [Scanner.passComplete_iff]
  simp [Scanner.store, hl]

end

section
variable {s : State}

theorem State.endPass_of_complete (h : s.scanner.passComplete = true) :
    s.endPass = (s.withScanner (s.scanner.passEnds s.mc.time)).settle := if_pos h

theorem State.endPass_of_incomplete (h : ¬ s.scanner.passComplete = true) : s.endPass = s := if_neg h

/-- The offers that wait when a pass ends, and those of its end. -/
theorem State.offers_passEnds {C : Offer → Prop} (hC : ∀ o, o.inner = true → C o) (hw : ∀ o ∈ s.offers, C o) :
    ∀ o ∈ (s.withScanner (s.scanner.passEnds s.mc.time)).offers, C o := fun o ho =>
  (List.mem_append.1 ho).elim (hw o) fun ho => hC o ((s.scanner.runs_passEnds s.mc.time).inner o ho)

end

/-! ### A conversion -/

theorem exec_conversionComplete_of_idle {s : State} (h : s.scanner.state ≠ .converting) (raw : BitVec 12) :
    exec (.conversionComplete raw) s = .next s := by
  have hnone : s.scanner.converting? = none := by
    unfold Scanner.converting?
    split
    case h_1 hc => exact absurd hc h
    all_goals rfl
  show execConversionComplete raw s = _
  rw [execConversionComplete, hnone]

theorem exec_conversionComplete {s : State} {e : ScanEntry} (h : s.scanner.state = .converting)
    (he : s.scanner.scanList[s.scanner.live.length]? = some e) (raw : BitVec 12) :
    exec (.conversionComplete raw) s = .next (s.convert e.channel raw.toNat).endPass := by
  have hsome : s.scanner.converting? = some e := by rw [Scanner.converting?, h, he]
  show execConversionComplete raw s = _
  rw [execConversionComplete, hsome]

section
variable (s : State) (ch : Fin 16) (raw : Nat)

/-- The state with a conversion stored and evaluated, whose offers wait. -/
def State.converted : State :=
  (s.setScanner (s.scanner.store ch raw)).withMonitor (s.monitor.evaluate s.mc.time ch raw)

theorem State.convert_eq : s.convert ch raw = (s.converted ch raw).settle := rfl

theorem State.kept_convert : Kept s (s.convert ch raw) :=
  (((Kept.setScanner s (s.scanner.store ch raw) rfl).trans
    (Kept.setMonitor _ _ (s.monitor.record_evaluate s.mc.time ch raw))).trans (Kept.emit _ _)).trans (State.settle_kept _)

theorem State.kept_endPass : Kept s s.endPass := by
  unfold State.endPass
  split
  · exact State.kept_withScanner (s.scanner.record_passEnds _)
  · exact .refl s

theorem State.time_convert : (s.convert ch raw).mc.time = s.mc.time := congrArg Standing.time (s.kept_convert ch raw).2

variable {s ch raw} (ho : s.offers = [])
include ho

theorem State.offers_converted : (s.converted ch raw).offers = (s.monitor.evaluate s.mc.time ch raw).out := by
  show s.offers ++ _ = _
  rw [ho, List.nil_append]

/-- The window monitor is what the evaluation has made of it. -/
theorem State.monitor_converted_endPass :
    (s.convert ch raw).endPass.monitor = (s.monitor.evaluate s.mc.time ch raw).val := by
  have hclosed := closed_halting (s.monitor.evaluate s.mc.time ch raw).val
  obtain ⟨hmon, hw⟩ := hclosed.settle (s := s.converted ch raw) rfl (by
    rw [State.offers_converted ho]
    exact Monitor.halting_of_mem_evaluate)
  rw [← State.convert_eq] at hmon hw
  unfold State.endPass
  split
  · exact (hclosed.settle (s := (s.convert ch raw).withScanner _) hmon (State.offers_passEnds (fun _ => .inl) hw)).1
  · exact hmon

/-- With no trip the result alone is new. -/
theorem State.convert_of_not_trips (h : ¬ s.monitor.trips ch raw) :
    s.convert ch raw = s.setScanner (s.scanner.store ch raw) := by
  have hstate : s.converted ch raw = s.setScanner (s.scanner.store ch raw) := by
    rw [State.converted, Monitor.evaluate_of_not_trips h]
    exact State.emit_nil _
  rw [State.convert_eq, hstate]
  exact State.settle_of_offers_nil _ ho

/-- HALT becomes active outside HALTED: the pass is abandoned and scanning stops. -/
theorem State.scanner_converted_of_halts (h : s.monitor.trips ch raw)
    (hon : (s.monitor.evaluate s.mc.time ch raw).val.outputs.halt = true) (hoff : s.monitor.outputs.halt = false)
    (hm : s.mc.mode ≠ .halted) : (s.convert ch raw).endPass.scanner = s.scanner.halted := by
  obtain ⟨pre, hout, hpre, hlen⟩ := Monitor.evaluate_out (now := s.mc.time) h
  rw [hon, hoff, ← State.offers_converted ho] at hout
  have hstopped : (s.convert ch raw).scanner = s.scanner.halted := State.settle_haltOutput hout hpre hlen hm
  have hincomplete : ¬ (s.convert ch raw).scanner.passComplete = true := by
    rw [hstopped, Scanner.passComplete_iff]
    exact fun hc => absurd hc.1 nofun
  rw [State.endPass_of_incomplete hincomplete]
  exact hstopped

section
variable (h : ¬ s.monitor.trips ch raw ∨ (s.monitor.evaluate s.mc.time ch raw).val.outputs.halt = false ∨
  s.monitor.outputs.halt = true ∨ s.mc.mode = .halted)
include h

/-- Unless HALT becomes active outside HALTED, the result is in the live set, and HALT goes on to do nothing. -/
theorem State.convert_unhalted :
    ((s.mc.mode = .halted → (s.convert ch raw).mc.mode = .halted) ∧
        (s.convert ch raw).scanner = s.scanner.store ch raw) ∧
      ∀ o ∈ (s.convert ch raw).offers, o.HaltsOnlyIf (s.mc.mode = .halted) := by
  obtain ⟨⟨hmode, hscan, -⟩, hw⟩ := (closed_haltsOnlyIf (s.mc.mode = .halted) (s.scanner.store ch raw)
    (s.monitor.evaluate s.mc.time ch raw).val).settle (s := s.converted ch raw) ⟨id, rfl, rfl⟩ (by
      rw [State.offers_converted ho]
      exact Monitor.haltsOnlyIf_of_mem_evaluate h)
  exact ⟨⟨hmode, hscan⟩, hw⟩

theorem State.scanner_converted_of_incomplete (hl : s.scanner.live.length + 1 < s.scanner.scanList.length) :
    (s.convert ch raw).endPass.scanner = s.scanner.store ch raw := by
  obtain ⟨⟨-, hscan⟩, -⟩ := State.convert_unhalted ho h
  have hincomplete : ¬ (s.convert ch raw).scanner.passComplete = true := by
    rw [hscan]
    exact Scanner.incomplete_store hl
  rw [State.endPass_of_incomplete hincomplete]
  exact hscan

theorem State.scanner_converted_of_complete (hs : s.scanner.state = .converting)
    (hl : s.scanner.live.length + 1 = s.scanner.scanList.length) :
    (s.convert ch raw).endPass.scanner = ((s.scanner.store ch raw).passEnds s.mc.time).val := by
  obtain ⟨⟨hmode, hscan⟩, hw⟩ := State.convert_unhalted ho h
  have hcomplete : (s.convert ch raw).scanner.passComplete = true := by
    rw [hscan]
    exact Scanner.complete_store hs hl
  rw [State.endPass_of_complete hcomplete, ← hscan, ← s.time_convert ch raw]
  exact ((closed_haltsOnlyIf (s.mc.mode = .halted) _ (s.convert ch raw).monitor).settle
    (s := (s.convert ch raw).withScanner _) ⟨hmode, rfl, rfl⟩ (State.offers_passEnds (fun _ => .inl) hw)).1.2.1

end
end

end Sys2Proof.Machine
end

section
/-! CONVERSION_COMPLETE (03 R50, R52; 04 R68). -/

namespace Sys2Proof.Machine

section
variable {s : State} {ch : Fin 16} {raw : Nat} (ho : s.offers = [])
include ho

theorem State.endPass_of_not_trips (h : ¬ s.monitor.trips ch raw)
    (hl : s.scanner.live.length + 1 < s.scanner.scanList.length) :
    (s.convert ch raw).endPass = s.setScanner (s.scanner.store ch raw) := by
  rw [State.convert_of_not_trips ho h]
  exact State.endPass_of_incomplete (Scanner.incomplete_store hl)

/-- A pass ends without a trip and without a hold: the blocks have the new values. -/
theorem State.measures_of_not_trips (h : ¬ s.monitor.trips ch raw) (hs : s.scanner.state = .converting)
    (hl : s.scanner.live.length + 1 = s.scanner.scanList.length) (hh : s.scanner.hold = none) :
    (s.convert ch raw).endPass.measures = (s.convert ch raw).endPass.scanner.measures ∧
      (s.scanner.stale = true → (s.convert ch raw).endPass.governor.copies.stale = false ∧
        (s.convert ch raw).endPass.sequencer.stale = false) := by
  have hend : (s.convert ch raw).endPass =
      ((s.setScanner (s.scanner.store ch raw)).withScanner
        (Scanner.publish { s.scanner.store ch raw with passEnd := s.mc.time } s.mc.time)).settle := by
    rw [State.convert_of_not_trips ho h,
      ← Scanner.passEnds_of_free (c := s.scanner.store ch raw) (now := s.mc.time) hh]
    exact State.endPass_of_complete (Scanner.complete_store hs hl)
  have hruns : (s.setScanner (s.scanner.store ch raw)).scanner.Runs
      (Scanner.publish { s.scanner.store ch raw with passEnd := s.mc.time } s.mc.time) :=
    (Scanner.runs_publish _ _).of rfl
  have ho' : (s.setScanner (s.scanner.store ch raw)).offers = [] := ho
  have hmeasures := State.settle_publish_measures ho' hruns
  have hstale := State.settle_publish_stale ho' hruns
  have hscan := State.settle_withScanner ho' hruns
  rw [← hend] at hmeasures hstale hscan
  rw [← hscan] at hmeasures
  exact ⟨hmeasures, hstale⟩

end

/-- The end of a complete pass under a hold. -/
theorem State.endPass_of_held {s : State} (hs : s.scanner.passComplete = true) {h : Hold}
    (hh : s.scanner.hold = some h) :
    s.endPass =
      ((s.setScanner { s.scanner with passEnd := s.mc.time, state := .paused }).emit
        [.post .scanPaused (portNumber h.holder) (s.scanner.scanNumber + 1).toNat]).settle := by
  rw [State.endPass_of_complete hs, Scanner.passEnds_of_held hh]
  rfl

/-- The end of a complete pass without a hold. -/
theorem State.endPass_of_free {s : State} (hs : s.scanner.passComplete = true) (hh : s.scanner.hold = none) :
    s.endPass = (s.withScanner (Scanner.publish { s.scanner with passEnd := s.mc.time } s.mc.time)).settle := by
  rw [State.endPass_of_complete hs, Scanner.passEnds_of_free hh]

end Sys2Proof.Machine

open Sys2Proof Sys2Proof.Machine

/-- Settles O23: the conversion by whether it trips and whether the trip halts, and the end of the pass by the hold. -/
theorem conversionIsEvaluatedAndEndsThePass : Obligations.ConversionIsEvaluatedAndEndsThePass := by
  refine ⟨fun raw s ho => ⟨fun hs => exec_conversionComplete_of_idle hs raw, fun e hs he => ?_⟩, fun s hs hl => ?_,
    fun raw s e ho hs he hl hlimit => ?_⟩
  · have hexec := exec_conversionComplete hs he raw
    have hmon := State.monitor_converted_endPass (ch := e.channel) (raw := raw.toNat) ho
    refine ⟨⟨_, _, hexec, Monitor.windowTrip_mem_evaluate, fun hn => ?_⟩, fun ht => ?_, fun hn hl => ?_⟩
    · rw [Monitor.evaluate_of_not_trips hn]
      exact ⟨rfl, rfl⟩
    · refine ⟨_, hexec, (s.kept_convert _ _).trans (State.kept_endPass _), ?_⟩
      rw [hmon]
      refine ⟨?_, fun ch hch => ?_, Monitor.outputs_evaluate_of_trips ht,
        State.scanner_converted_of_halts ho ht, fun hl h => State.scanner_converted_of_incomplete ho (.inr h) hl⟩
      · rw [Monitor.evaluate_get_of_trips ht, if_pos rfl]
      · rw [Monitor.evaluate_get_of_trips ht, if_neg hch]
    · rw [hexec, State.endPass_of_not_trips ho hn hl]
      rfl
  · have hcomplete := Scanner.passComplete_iff.2 ⟨hs, hl.ge⟩
    exact ⟨fun h hh => State.endPass_of_held hcomplete hh,
      fun hh => ⟨_, _, State.endPass_of_free hcomplete hh, rfl, rfl,
        fun hstale => Scanner.fresh_mem_publish (c := { s.scanner with passEnd := s.mc.time }) hstale s.mc.time,
        fun hstale => Scanner.fresh_notMem_publish hstale⟩⟩
  · refine ⟨_, exec_conversionComplete hs he raw, (s.kept_convert _ _).trans (State.kept_endPass _), fun h => ?_,
      fun hn hh => ?_⟩
    · rw [State.monitor_converted_endPass ho] at h
      rw [State.scanner_converted_of_complete ho h hs hl]
      exact ⟨fun x hx => Scanner.passEnds_store_of_held hx _ _, fun hx => Scanner.passEnds_store_of_free hx hlimit _ _⟩
    · obtain ⟨hmeasures, hstale⟩ := State.measures_of_not_trips ho hn hs hl hh
      obtain ⟨hgrade, hleft, hright, htank⟩ := Measures.mk.inj hmeasures
      obtain ⟨hposL, hpressL⟩ := Prod.mk.inj hleft
      obtain ⟨hposR, hpressR⟩ := Prod.mk.inj hright
      exact ⟨hgrade, hposL, hposR, hpressL, hpressR, htank, hstale⟩
end
